-- ==== Sys2Proof/Word.lean ====
section
/-! DEFINITION. The one word the block handles as bits: the octet of the console link (R175).
Every other quantity of the part is a number, a name or a record. -/

namespace Sys2Proof

/-- One octet of a console frame. -/
abbrev Octet := BitVec 8

end Sys2Proof
end

