-- ==== Sys2Proof/Syntax.lean ====
section
/-! DEFINITION. The commands the block takes: one constructor of `Instr` per row of
spec/opcode_table.json, with the operands the spec gives the request or the event.
Numbers of a request stand as its payload spells them (R181): a value out of range is a value
here, and the owner of the request refuses or clamps it. -/

namespace Sys2Proof

/-! ### Names of the flight (00_scope, "The flight as the part sees it") -/

/-- Chambers C1 (top), C2, C3 (bottom). -/
inductive Chamber where
  | c1 | c2 | c3
  deriving DecidableEq, Repr

/-- Stations 0 to 3. Station k stands at gate Gk, so the name serves for the gate too. -/
inductive Station where
  | k0 | k1 | k2 | k3
  deriving DecidableEq, Repr

/-- By-wash valves W1 (of C1, station 1) and W2 (of C2, station 2). -/
inductive ByWash where
  | w1 | w2
  deriving DecidableEq, Repr

/-- The ten items the part drives. -/
inductive Item where
  | gate (k : Station)
  | sluice (k : Station)
  | byWash (w : ByWash)
  deriving DecidableEq, Repr

/-- The side of a gate a signal face is seen from. -/
inductive Side where
  | upper | lower
  deriving DecidableEq, Repr

/-- One of the eight signal faces. -/
structure Face where
  gate : Station
  side : Side
  deriving DecidableEq, Repr

/-- UP is from tail to head, DOWN from head to tail. -/
inductive Direction where
  | up | down
  deriving DecidableEq, Repr

/-- A position a station can report (R23). `shut` is CLOSED for a gate and SHUT for a water path.
UNKNOWN is the absence of a position. -/
inductive Position where
  | shut | opening | opened | closing | stopped
  deriving DecidableEq, Repr

/-- What a face shows (R58). -/
inductive Aspect where
  | stop | proceed | prepare | closed
  deriving DecidableEq, Repr

/-- The four interlock inputs of a station (R42). -/
inductive Input where
  | obstruction | overload | ice | localStop
  deriving DecidableEq, Repr

/-- The reasons with which a station refuses a command (R70). -/
inductive StationReason where
  | localControl | itemFault | busy
  deriving DecidableEq, Repr

/-- A station's verdict on the command a poll carried (R70). -/
inductive Verdict where
  | taken
  | refused (r : StationReason)
  deriving DecidableEq, Repr

/-! ### What a station reports (R70, R74) -/

/-- The aspect a face shows and whether its lamps are PROVED. -/
structure FaceReport where
  aspect : Aspect
  proved : Bool
  deriving DecidableEq, Repr

/-- The reported input states: true is ACTIVE. -/
structure InputReport where
  obstruction : Bool
  overload : Bool
  ice : Bool
  localStop : Bool
  deriving DecidableEq, Repr

/-- What an alarm frame carries, and a poll answer besides its verdict and readings. -/
structure StationReport where
  gate : Position
  sluice : Position
  byWash : Option Position
  inputs : InputReport
  upper : FaceReport
  lower : FaceReport
  /-- true is LOCAL, false is REMOTE -/
  inLocal : Bool
  deriving DecidableEq, Repr

/-- A poll answer (R70). A reading marked invalid by the station is absent. -/
structure Answer where
  verdict : Option Verdict
  above : Option Nat
  below : Option Nat
  report : StationReport
  deriving DecidableEq, Repr

/-- A console frame past its check (R175): tag, kind and payload. -/
structure ConsoleFrame where
  tag : Octet
  kind : Octet
  payload : List Octet
  deriving DecidableEq, Repr

/-! ### Operands of the larger requests -/

/-- SET CHAMBER (R2). -/
structure ChamberArgs where
  chamber : Nat
  usable : Nat
  width : Nat
  sill : Nat
  area : Nat
  low : Nat
  full : Nat
  high : Nat
  crest : Nat
  deriving DecidableEq, Repr

/-- The six level settings (R3); the surge blank time in tenths of a second. -/
structure LevelSettings where
  freeboard : Nat
  equalTolerance : Nat
  agreementTolerance : Nat
  bandTolerance : Nat
  settleCount : Nat
  surgeBlank : Nat
  deriving DecidableEq, Repr

/-- The five movement settings (R26), in tenths of a second. -/
structure MovementLimits where
  gateStart : Nat
  pathStart : Nat
  gateTravel : Nat
  pathTravel : Nat
  changeover : Nat
  deriving DecidableEq, Repr

/-- SET INPUT MODES (R43). -/
structure InputModesArgs where
  station : Nat
  obstruction : Nat
  overload : Nat
  ice : Nat
  deriving DecidableEq, Repr

/-- The three settings of the interlocks (R48); times in tenths of a second. -/
structure FaultTiming where
  overloadBlank : Nat
  resumeDelay : Nat
  resumeLimit : Nat
  deriving DecidableEq, Repr

/-- Vessel particulars (R102, R181). The reference holds the characters before the filling 0x00
octets; `reserved` is the last octet of the layout. -/
structure VesselArgs where
  reference : List Octet
  direction : Nat
  length : Nat
  beam : Nat
  draught : Nat
  deadweight : Nat
  cargo : Nat
  priority : Nat
  reserved : Nat
  deriving DecidableEq, Repr

/-- SET ADMISSION SETTINGS (R121); spacing in tenths of a metre. -/
structure AdmissionArgs where
  quota : Nat
  spacing : Nat
  followOn : Nat
  deriving DecidableEq, Repr

/-- One length band of a tariff (R151). -/
structure Band where
  bound : Nat
  base : Nat
  deriving DecidableEq, Repr

/-- One tariff edition (R151). -/
structure Edition where
  number : Nat
  bands : List Band
  rates : List Nat
  waterRate : Nat
  nightStart : Nat
  nightEnd : Nat
  nightPercent : Nat
  priorityPercent : Nat
  minDues : Nat
  maxDues : Nat
  deriving DecidableEq, Repr

/-- QUOTE FEE (R164). -/
structure QuoteArgs where
  vessel : VesselArgs
  night : Nat
  choice : Nat
  deriving DecidableEq, Repr

/-- SET NOTICES (R178): the four enables. -/
structure NoticesArgs where
  safety : Nat
  level : Nat
  traffic : Nat
  accounts : Nat
  deriving DecidableEq, Repr

/-! ### The commands -/

/-- The rows of spec/opcode_table.json. -/
inductive Instr where
  | powerOn
  | retainedUpdateComplete
  /-- the octets that arrived, up to the second check octet of the frame -/
  | consoleFrameComplete (octets : List Octet)
  /-- the octets that arrived before the gap -/
  | consoleFrameGap (octets : List Octet)
  | refuseUnknownKind (frame : ConsoleFrame)
  | refuseMalformed (frame : ConsoleFrame)
  | transmitterFree
  | setChamber (tag : Octet) (a : ChamberArgs)
  | setLevelSettings (tag : Octet) (a : LevelSettings)
  | setTrust (tag : Octet) (chamber trust : Nat)
  | readChamber (tag : Octet) (chamber : Nat)
  | setMovementLimits (tag : Octet) (a : MovementLimits)
  | setInputModes (tag : Octet) (a : InputModesArgs)
  | setFaultTiming (tag : Octet) (a : FaultTiming)
  | clearFault (tag : Octet) (number : Nat)
  | readFaults (tag : Octet) (position : Nat)
  | setSignalInterval (tag : Octet) (interval : Nat)
  | setLineRate (tag : Octet) (rate : Nat)
  | resetStation (tag : Octet) (station : Nat)
  | readStation (tag : Octet) (station : Nat)
  | allStop (tag : Octet)
  | clearHalt (tag : Octet)
  | restart (tag : Octet)
  | registerVessel (tag : Octet) (a : VesselArgs)
  | withdrawVessel (tag : Octet) (passage : Nat)
  | setQueueLimits (tag : Octet) (margin skipLimit : Nat)
  | setMode (tag : Octet) (mode : Nat)
  | readQueue (tag : Octet) (direction position : Nat)
  | setAdmissionSettings (tag : Octet) (a : AdmissionArgs)
  | orderBatch (tag : Octet) (passages : List Nat)
  | cancelOrder (tag : Octet)
  | abandonBatch (tag : Octet) (batch : Nat)
  | readBatch (tag : Octet) (batch : Nat)
  | setRunLimits (tag : Octet) (waterLimit moveWait : Nat)
  | confirmMoved (tag : Octet) (batch gate : Nat)
  | suspendBatch (tag : Octet) (batch : Nat)
  | resumeBatch (tag : Octet) (batch : Nat)
  | setTariff (tag : Octet) (a : Edition)
  | switchTariff (tag : Octet)
  | readTariff (tag : Octet) (slot : Nat)
  | quoteFee (tag : Octet) (a : QuoteArgs)
  | setReceiptMargin (tag : Octet) (margin : Nat)
  | peekReceipts (tag : Octet) (count : Nat)
  | releaseReceipts (tag : Octet) (day receipt : Nat)
  | closeDay (tag : Octet)
  | setClock (tag : Octet) (time : Nat)
  | readTotals (tag : Octet)
  | setNotices (tag : Octet) (a : NoticesArgs)
  | readFlight (tag : Octet)
  | readSettings (tag : Octet)
  | pollSlotStart (station : Station)
  | goodAnswer (station : Station) (answer : Answer)
  | pollFailed (station : Station)
  | alarmFrame (station : Station) (report : StationReport)
  | stationFrameDiscarded (octets : List Octet)
  | roundEnd
  | haltPulseEnd
  | lineHalt
  | surgeBlankExpiry (chamber : Chamber)
  | changeoverTimerExpiry (chamber : Chamber)
  | startLimitExpiry (item : Item)
  | travelLimitExpiry (item : Item)
  | overloadBlankExpiry (station : Station)
  /-- the number of the fault record whose resume delay expires -/
  | resumeDelayExpiry (fault : Nat)
  | waterStepLimitExpiry (batch : Nat)
  | moveWaitExpiry (batch : Nat)
  /-- the far face whose stop-since time becomes one interval old -/
  | allStopIntervalElapsed (far : Face)
  | receiptsRepeatExpiry
  | clockTick
  | powerFail
  /-- the octets that arrived, up to the length octet out of range -/
  | frameLengthOutOfRange (octets : List Octet)
  | dominantStretchStart
  | dominantStretchEnd
  deriving DecidableEq, Repr

end Sys2Proof
end

