-- ==== Sys2Proof/Config.lean ====
section
/-! DEFINITION. What is fixed for the part, and the one value the spec leaves open. -/

namespace Sys2Proof.Config

/-- Capacity of an approach queue (R104). -/
def queueCapacity : Nat := 24
/-- Capacity of the fault table (R51). -/
def faultCapacity : Nat := 16
/-- Capacity of the receipt queue (R165). -/
def receiptCapacity : Nat := 64
/-- Greatest receipt number of a day (R165). -/
def receiptNumbers : Nat := 999999
/-- Frames that may wait in the request order (R176). -/
def requestCapacity : Nat := 8
/-- Members of a batch (R117). -/
def memberLimit : Nat := 4
/-- Preparation rounds a main step allows (R135). -/
def preparationRounds : Nat := 3
/-- Repeat of RECEIPTS NEAR FULL, in tenths of a second (R168). -/
def receiptsRepeat : Nat := 100
/-- Limit of a lockage water charge, in cents (R160). -/
def chargeLimit : Nat := 9999999
/-- Limit of an accumulated rise, in mm (R149). -/
def riseLimit : Nat := 20000
/-- Limit of an amount total of the day account (R171). -/
def totalLimit : Nat := 99999999999999
/-- Limit of a count of the day account (R171). -/
def countLimit : Nat := 999999
/-- Greatest level stored, in mm (R4). -/
def levelLimit : Nat := 20000

/-- FREE VALUE (log 11). What a field of `width` octets shows for a value the field cannot hold:
R181 gives times since a moment a field of two octets and no rule bounds them. -/
opaque overlong : (width value : Nat) → Nat

end Sys2Proof.Config
end

