-- ==== Sys2Proof/Decode.lean ====
section
/-! DEFINITION. Reading commands from bits: the console link's frames (R175), a frame's request
(R176, R181, the table of 12.6), and the host's question about words of the command table. -/

namespace Sys2Proof

/-! ### The check of a frame (R175) -/

/-- One shift of the CRC-16 with polynomial 0x1021. -/
def crcShift (c : BitVec 16) : BitVec 16 :=
  if c.msb then (c <<< 1) ^^^ 0x1021#16 else c <<< 1

/-- `n` shifts. -/
def crcShifts : Nat → BitVec 16 → BitVec 16
  | 0, c => c
  | n + 1, c => crcShifts n (crcShift c)

/-- Take one octet into the check. -/
def crcOctet (c : BitVec 16) (o : Octet) : BitVec 16 :=
  crcShifts 8 (c ^^^ ((o.setWidth 16) <<< 8))

/-- CRC-16 over the octets, initial value 0xFFFF. -/
def crc16 (os : List Octet) : BitVec 16 := os.foldl crcOctet 0xFFFF#16

/-- The two check octets, high octet first. -/
def checkOctets (os : List Octet) : List Octet :=
  [(crc16 os).extractLsb' 8 8, (crc16 os).extractLsb' 0 8]

/-- The octets of a frame: start, length, tag, kind, payload, check. -/
def frameOctets (tag kind : Octet) (payload : List Octet) : List Octet :=
  let body := BitVec.ofNat 8 (payload.length + 2) :: tag :: kind :: payload
  0xA5#8 :: body ++ checkOctets body

/-! ### Hunting (R175) -/

/-- What one look at the octets from a start octet finds. -/
inductive Found where
  /-- not all octets of the frame have arrived -/
  | short
  /-- the length is out of range or the check fails -/
  | bad
  | frame (f : ConsoleFrame) (rest : List Octet)
  deriving DecidableEq, Repr

/-- Read one frame from the octets after a start octet. -/
def readFrame (os : List Octet) : Found :=
  match os with
  | [] => .short
  | len :: rest =>
    if len.toNat < 2 ∨ 250 < len.toNat then .bad
    else if rest.length < len.toNat + 2 then .short
    else
      let body := rest.take len.toNat
      if checkOctets (len :: body) = (rest.drop len.toNat).take 2 then
        match body with
        | tag :: kind :: payload => .frame ⟨tag, kind, payload⟩ (rest.drop (len.toNat + 2))
        | _ => .bad
      else .bad

/-- Hunt through octets: the frames completed, in order, and the octets of the frame still being
assembled, from its start octet. `fuel` is the number of octets. After a failed check or a length out
of range hunting resumes at the octet after the start octet. -/
def hunt : Nat → List Octet → List ConsoleFrame × List Octet
  | _, [] => ([], [])
  | 0, os => ([], os)
  | fuel + 1, o :: os =>
    if o = 0xA5#8 then
      match readFrame os with
      | .short => ([], o :: os)
      | .bad => hunt fuel os
      | .frame f rest =>
        let r := hunt fuel rest
        (f :: r.1, r.2)
    else hunt fuel os

/-- Feed arriving octets to the octets already collected. -/
def feed (collected arriving : List Octet) : List ConsoleFrame × List Octet :=
  hunt (collected ++ arriving).length (collected ++ arriving)

/-! ### Payload fields (R181) -/

/-- A number sent high octet first. -/
def numberOf (os : List Octet) : Nat := os.foldl (fun n o => n * 256 + o.toNat) 0

/-- The numbers of a payload laid out in the given widths; none when its length differs. -/
def numbers : List Nat → List Octet → Option (List Nat)
  | [], [] => some []
  | [], _ :: _ => none
  | w :: ws, os =>
    if os.length < w then none
    else (numbers ws (os.drop w)).map fun vs => numberOf (os.take w) :: vs

/-- The characters of a reference: the octets before the filling 0x00 octets. -/
def stripFill (os : List Octet) : List Octet := (os.reverse.dropWhile fun o => o = 0x00#8).reverse

/-- Vessel particulars from their 23 octets (12.5). -/
def vesselOf (os : List Octet) : Option VesselArgs :=
  match numbers [1, 2, 1, 2, 2, 1, 1, 1] (os.drop 12) with
  | some [d, l, b, dr, dw, c, p, r] =>
    some { reference := stripFill (os.take 12), direction := d, length := l, beam := b, draught := dr,
           deadweight := dw, cargo := c, priority := p, reserved := r }
  | _ => none

/-- Pairs of a bound of two octets and a base charge of three. -/
def bandsOf : Nat → List Octet → Option (List Band × List Octet)
  | 0, os => some ([], os)
  | n + 1, os =>
    if os.length < 5 then none
    else
      match bandsOf n (os.drop 5) with
      | some (bs, rest) => some (⟨numberOf (os.take 2), numberOf ((os.drop 2).take 3)⟩ :: bs, rest)
      | none => none

/-- A tariff edition with every field of R151, in order. -/
def editionOf (os : List Octet) : Option Edition :=
  if os.length < 3 then none
  else
    match bandsOf (numberOf ((os.drop 2).take 1)) (os.drop 3) with
    | none => none
    | some (bands, rest) =>
      match numbers [2, 2, 2, 2, 2, 2, 2, 2, 3, 2, 2, 1, 1, 3, 3] rest with
      | some [r0, r1, r2, r3, r4, r5, r6, r7, w, ns, ne, np, pp, mn, mx] =>
        some { number := numberOf (os.take 2), bands := bands,
               rates := [r0, r1, r2, r3, r4, r5, r6, r7], waterRate := w, nightStart := ns,
               nightEnd := ne, nightPercent := np, priorityPercent := pp, minDues := mn, maxDues := mx }
      | _ => none

/-- A collection of passage numbers: a count, then the numbers. -/
def passagesOf (os : List Octet) : Option (List Nat) :=
  match os with
  | [] => none
  | n :: rest => numbers (List.replicate n.toNat 2) rest

/-- The command of a frame handed on (R176): its request, by the table of 12.6 and the layout of its
kind, or the refusal UNKNOWN KIND or MALFORMED. -/
def requestOf (f : ConsoleFrame) : Instr :=
  let p := f.payload
  let t := f.tag
  match f.kind.toNat with
  | 0x01 =>
    match numbers [1, 2, 1, 2, 2, 2, 2, 2, 2] p with
    | some [c, u, w, s, a, l, fu, h, cr] => .setChamber t ⟨c, u, w, s, a, l, fu, h, cr⟩
    | _ => .refuseMalformed f
  | 0x02 =>
    match numbers [2, 1, 2, 2, 1, 2] p with
    | some [a, b, c, d, e, g] => .setLevelSettings t ⟨a, b, c, d, e, g⟩
    | _ => .refuseMalformed f
  | 0x03 =>
    match numbers [1, 1] p with
    | some [c, x] => .setTrust t c x
    | _ => .refuseMalformed f
  | 0x04 =>
    match numbers [1] p with
    | some [c] => .readChamber t c
    | _ => .refuseMalformed f
  | 0x08 =>
    match numbers [2, 2, 2, 2, 2] p with
    | some [a, b, c, d, e] => .setMovementLimits t ⟨a, b, c, d, e⟩
    | _ => .refuseMalformed f
  | 0x0C =>
    match numbers [1, 1, 1, 1] p with
    | some [k, a, b, c] => .setInputModes t ⟨k, a, b, c⟩
    | _ => .refuseMalformed f
  | 0x0D =>
    match numbers [1, 2, 1] p with
    | some [a, b, c] => .setFaultTiming t ⟨a, b, c⟩
    | _ => .refuseMalformed f
  | 0x0E =>
    match numbers [1] p with
    | some [n] => .clearFault t n
    | _ => .refuseMalformed f
  | 0x0F =>
    match numbers [1] p with
    | some [n] => .readFaults t n
    | _ => .refuseMalformed f
  | 0x10 =>
    match numbers [2] p with
    | some [n] => .setSignalInterval t n
    | _ => .refuseMalformed f
  | 0x14 =>
    match numbers [1] p with
    | some [n] => .setLineRate t n
    | _ => .refuseMalformed f
  | 0x15 =>
    match numbers [1] p with
    | some [n] => .resetStation t n
    | _ => .refuseMalformed f
  | 0x16 =>
    match numbers [1] p with
    | some [n] => .readStation t n
    | _ => .refuseMalformed f
  | 0x18 => if p = [] then .allStop t else .refuseMalformed f
  | 0x19 => if p = [] then .clearHalt t else .refuseMalformed f
  | 0x1A => if p = [] then .restart t else .refuseMalformed f
  | 0x20 =>
    match vesselOf p with
    | some v => .registerVessel t v
    | none => .refuseMalformed f
  | 0x21 =>
    match numbers [2] p with
    | some [n] => .withdrawVessel t n
    | _ => .refuseMalformed f
  | 0x22 =>
    match numbers [1, 1] p with
    | some [m, l] => .setQueueLimits t m l
    | _ => .refuseMalformed f
  | 0x23 =>
    match numbers [1] p with
    | some [m] => .setMode t m
    | _ => .refuseMalformed f
  | 0x24 =>
    match numbers [1, 1] p with
    | some [d, n] => .readQueue t d n
    | _ => .refuseMalformed f
  | 0x28 =>
    match numbers [1, 1, 1] p with
    | some [q, s, o] => .setAdmissionSettings t ⟨q, s, o⟩
    | _ => .refuseMalformed f
  | 0x29 =>
    match passagesOf p with
    | some ns => .orderBatch t ns
    | none => .refuseMalformed f
  | 0x2A => if p = [] then .cancelOrder t else .refuseMalformed f
  | 0x2B =>
    match numbers [1] p with
    | some [n] => .abandonBatch t n
    | _ => .refuseMalformed f
  | 0x2C =>
    match numbers [1] p with
    | some [n] => .readBatch t n
    | _ => .refuseMalformed f
  | 0x30 =>
    match numbers [2, 2] p with
    | some [a, b] => .setRunLimits t a b
    | _ => .refuseMalformed f
  | 0x31 =>
    match numbers [1, 1] p with
    | some [b, g] => .confirmMoved t b g
    | _ => .refuseMalformed f
  | 0x32 =>
    match numbers [1] p with
    | some [n] => .suspendBatch t n
    | _ => .refuseMalformed f
  | 0x33 =>
    match numbers [1] p with
    | some [n] => .resumeBatch t n
    | _ => .refuseMalformed f
  | 0x38 =>
    match editionOf p with
    | some e => .setTariff t e
    | none => .refuseMalformed f
  | 0x39 => if p = [] then .switchTariff t else .refuseMalformed f
  | 0x3A =>
    match numbers [1] p with
    | some [n] => .readTariff t n
    | _ => .refuseMalformed f
  | 0x3B =>
    match vesselOf (p.take 23), numbers [1, 1] (p.drop 23) with
    | some v, some [n, c] => .quoteFee t ⟨v, n, c⟩
    | _, _ => .refuseMalformed f
  | 0x40 =>
    match numbers [1] p with
    | some [n] => .setReceiptMargin t n
    | _ => .refuseMalformed f
  | 0x41 =>
    match numbers [1] p with
    | some [n] => .peekReceipts t n
    | _ => .refuseMalformed f
  | 0x42 =>
    match numbers [2, 3] p with
    | some [d, n] => .releaseReceipts t d n
    | _ => .refuseMalformed f
  | 0x43 => if p = [] then .closeDay t else .refuseMalformed f
  | 0x44 =>
    match numbers [3] p with
    | some [n] => .setClock t n
    | _ => .refuseMalformed f
  | 0x45 => if p = [] then .readTotals t else .refuseMalformed f
  | 0x48 =>
    match numbers [1, 1, 1, 1] p with
    | some [a, b, c, d] => .setNotices t ⟨a, b, c, d⟩
    | _ => .refuseMalformed f
  | 0x49 => if p = [] then .readFlight t else .refuseMalformed f
  | 0x4A => if p = [] then .readSettings t else .refuseMalformed f
  | _ => .refuseUnknownKind f

/-! ### Frames of the station line (R67) -/

/-- The line address of the part. -/
def partAddress : Octet := 0#8

/-- The line address of a station: k + 1. -/
def lineAddress : Station → Octet
  | .k0 => 1#8
  | .k1 => 2#8
  | .k2 => 3#8
  | .k3 => 4#8

/-- The station at a line address, 1 to 4. -/
def stationAt (a : Octet) : Option Station :=
  match a.toNat with
  | 1 => some .k0
  | 2 => some .k1
  | 3 => some .k2
  | 4 => some .k3
  | _ => none

/-- The sum of octets modulo 256. -/
def octetSum (os : List Octet) : Octet := os.foldl (· + ·) 0#8

/-- The check octet that brings the sum of a frame to 0. -/
def lineCheck (os : List Octet) : Octet := -(octetSum os)

/-- A frame of the station line: its sender's address, its contents, its check octet. -/
def lineFrame (sender : Octet) (contents : List Octet) : List Octet :=
  sender :: contents ++ [lineCheck (sender :: contents)]

/-- A frame passes its check when the sum of all its octets is 0; an address and a check octet are the
least it holds. -/
def linePasses (os : List Octet) : Bool := decide (2 ≤ os.length) && octetSum os == 0#8

/-- The station whose address opens a frame that passes its check. -/
def lineSender (os : List Octet) : Option Station :=
  match os with
  | a :: _ => if linePasses os then stationAt a else none
  | [] => none

/-! ### Words of the command table -/

/-- spec/opcode_table.json gives no row any bits: no word spells a command. -/
def decodeTableWord (_nbits _w : Nat) : Option Instr := none

end Sys2Proof
end

