-- ==== Sys2Proof/Machine/Settings.lean ====
section
/-! DEFINITION. The settings of the part: the default and range of each, and clamping
(00_scope, "Settings": a timing or margin setting outside its range takes the nearer end). -/

namespace Sys2Proof.Machine

/-- The nearer end of `lo..hi` for a value outside it, the value itself otherwise. -/
def clampTo (lo hi v : Nat) : Nat := if v < lo then lo else if hi < v then hi else v

/-- R3. -/
def defaultLevelSettings : LevelSettings :=
  { freeboard := 150, equalTolerance := 30, agreementTolerance := 50, bandTolerance := 100,
    settleCount := 5, surgeBlank := 200 }

/-- R3: each level setting clamped to its range. -/
def clampLevelSettings (a : LevelSettings) : LevelSettings :=
  { freeboard := clampTo 50 500 a.freeboard
    equalTolerance := clampTo 5 200 a.equalTolerance
    agreementTolerance := clampTo 10 300 a.agreementTolerance
    bandTolerance := clampTo 10 300 a.bandTolerance
    settleCount := clampTo 1 16 a.settleCount
    surgeBlank := clampTo 0 1200 a.surgeBlank }

/-- R26. -/
def defaultMovementLimits : MovementLimits :=
  { gateStart := 50, pathStart := 30, gateTravel := 1200, pathTravel := 450, changeover := 50 }

/-- R26: each movement setting clamped to its range. -/
def clampMovementLimits (a : MovementLimits) : MovementLimits :=
  { gateStart := clampTo 10 300 a.gateStart
    pathStart := clampTo 10 300 a.pathStart
    gateTravel := clampTo 200 6000 a.gateTravel
    pathTravel := clampTo 50 3000 a.pathTravel
    changeover := clampTo 0 600 a.changeover }

/-- R48. -/
def defaultFaultTiming : FaultTiming := { overloadBlank := 20, resumeDelay := 100, resumeLimit := 3 }

/-- R48: each fault timing setting clamped to its range. -/
def clampFaultTiming (a : FaultTiming) : FaultTiming :=
  { overloadBlank := clampTo 0 100 a.overloadBlank
    resumeDelay := clampTo 20 1200 a.resumeDelay
    resumeLimit := clampTo 1 8 a.resumeLimit }

/-- R64: the all-stop interval. -/
def defaultSignalInterval : Nat := 40
def clampSignalInterval (v : Nat) : Nat := clampTo 10 300 v

/-- R109: near-full margin and skip limit. -/
def defaultQueueMargin : Nat := 4
def clampQueueMargin (v : Nat) : Nat := clampTo 0 23 v
def defaultSkipLimit : Nat := 3
def clampSkipLimit (v : Nat) : Nat := clampTo 1 10 v

/-- R121: run quota and spacing (tenths of a metre, that is decimetres). -/
def defaultQuota : Nat := 2
def clampQuota (v : Nat) : Nat := clampTo 1 4 v
def defaultSpacing : Nat := 30
def clampSpacing (v : Nat) : Nat := clampTo 0 100 v

/-- R139: water step limit and move wait. -/
def defaultWaterLimit : Nat := 6000
def defaultMoveWait : Nat := 9000
def clampRunLimit (v : Nat) : Nat := clampTo 600 36000 v

/-- R168: receipt margin. -/
def defaultReceiptMargin : Nat := 8
def clampReceiptMargin (v : Nat) : Nat := clampTo 0 63 v

end Sys2Proof.Machine
end

