-- ==== Sys2Proof/Machine/State.lean ====
section
/-! DEFINITION. The state of the FL-3: every piece of state the spec gives the ten blocks, as plain
data; the reasons a step could stop; and the part right after power-on with no valid retained image.
UNKNOWN, absent and elapsed are `none`. Times are in tenths of a second of `State.now`. -/

namespace Sys2Proof.Machine

/-! ### Fixed numbers of like things -/

/-- One value per chamber. -/
structure Trio (α : Type) where
  c1 : α
  c2 : α
  c3 : α
  deriving DecidableEq, Repr

/-- One value per station, or per gate. -/
structure Quad (α : Type) where
  k0 : α
  k1 : α
  k2 : α
  k3 : α
  deriving DecidableEq, Repr

/-- One value per item. -/
structure Ten (α : Type) where
  gates : Quad α
  sluices : Quad α
  w1 : α
  w2 : α
  deriving DecidableEq, Repr

/-- One value per face. -/
structure Eight (α : Type) where
  upper : Quad α
  lower : Quad α
  deriving DecidableEq, Repr

def Trio.const {α : Type} (a : α) : Trio α := ⟨a, a, a⟩

def Trio.get {α : Type} (t : Trio α) : Chamber → α
  | .c1 => t.c1
  | .c2 => t.c2
  | .c3 => t.c3

def Trio.set {α : Type} (t : Trio α) (c : Chamber) (a : α) : Trio α :=
  match c with
  | .c1 => { t with c1 := a }
  | .c2 => { t with c2 := a }
  | .c3 => { t with c3 := a }

def Quad.const {α : Type} (a : α) : Quad α := ⟨a, a, a, a⟩

def Quad.get {α : Type} (q : Quad α) : Station → α
  | .k0 => q.k0
  | .k1 => q.k1
  | .k2 => q.k2
  | .k3 => q.k3

def Quad.set {α : Type} (q : Quad α) (k : Station) (a : α) : Quad α :=
  match k with
  | .k0 => { q with k0 := a }
  | .k1 => { q with k1 := a }
  | .k2 => { q with k2 := a }
  | .k3 => { q with k3 := a }

def Quad.map {α β : Type} (q : Quad α) (f : α → β) : Quad β := ⟨f q.k0, f q.k1, f q.k2, f q.k3⟩

def Ten.const {α : Type} (a : α) : Ten α := ⟨Quad.const a, Quad.const a, a, a⟩

def Ten.get {α : Type} (t : Ten α) : Item → α
  | .gate k => t.gates.get k
  | .sluice k => t.sluices.get k
  | .byWash .w1 => t.w1
  | .byWash .w2 => t.w2

def Ten.set {α : Type} (t : Ten α) (i : Item) (a : α) : Ten α :=
  match i with
  | .gate k => { t with gates := t.gates.set k a }
  | .sluice k => { t with sluices := t.sluices.set k a }
  | .byWash .w1 => { t with w1 := a }
  | .byWash .w2 => { t with w2 := a }

def Ten.map {α β : Type} (t : Ten α) (f : α → β) : Ten β :=
  ⟨t.gates.map f, t.sluices.map f, f t.w1, f t.w2⟩

def Eight.get {α : Type} (e : Eight α) (f : Face) : α :=
  match f.side with
  | .upper => e.upper.get f.gate
  | .lower => e.lower.get f.gate

def Eight.set {α : Type} (e : Eight α) (f : Face) (a : α) : Eight α :=
  match f.side with
  | .upper => { e with upper := e.upper.set f.gate a }
  | .lower => { e with lower := e.lower.set f.gate a }

/-! ### Steps of a run program (R129, R134) -/

/-- The number of a main step. -/
inductive StepNo where
  | one | two | three | four | five | six | seven | eight
  deriving DecidableEq, Repr

/-- A preparation sub-step (R134). -/
inductive SubStep where
  | fillC1 | equaliseC1C2 | makeC2Low | makeC3Low
  deriving DecidableEq, Repr

/-- A step: main step U1 to U8 or D1 to D8, or a preparation sub-step. -/
inductive Step where
  | main (d : Direction) (n : StepNo)
  | sub (x : SubStep)
  deriving DecidableEq, Repr

/-! ### Level Monitor (chapter 1) -/

inductive Trust where
  | both | upperOnly | lowerOnly
  deriving DecidableEq, Repr

inductive LevelCondition where
  | normal | degraded | disputed | unknown
  deriving DecidableEq, Repr

/-- The target of a chamber (R17). -/
inductive LevelTarget where
  | full | low
  deriving DecidableEq, Repr

/-- Geometry and levels of a configured chamber (R1). -/
structure ChamberConfig where
  usable : Nat
  width : Nat
  sill : Nat
  area : Nat
  low : Nat
  full : Nat
  high : Nat
  crest : Nat
  deriving DecidableEq, Repr

/-- The level part of a chamber record (1.1). -/
structure ChamberRec where
  config : Option ChamberConfig
  trust : Trust
  upper : Option Nat
  lower : Option Nat
  agreed : Option Nat
  condition : LevelCondition
  dispute : Nat
  high : Bool
  crest : Bool
  target : Option LevelTarget
  targetCount : Nat
  /-- expiry of the surge blank timer; none is elapsed -/
  surge : Option Nat
  lastKnown : Option Nat
  deriving DecidableEq, Repr

structure Levels where
  chambers : Trio ChamberRec
  headReading : Option Nat
  tailReading : Option Nat
  headLevel : Option Nat
  tailLevel : Option Nat
  equal : Quad Nat
  riverHold : Bool
  settings : LevelSettings
  /-- the settings in effect: those taken by a request take effect at the next round end (R3) -/
  acting : LevelSettings
  deriving DecidableEq, Repr

/-! ### Machinery Supervisor (chapters 2 and 3) -/

/-- The kind of the last command placed for an item (R23). -/
inductive CmdState where
  | none | opens | closes | stops
  deriving DecidableEq, Repr

/-- The end position a movement is to reach: `shut` is CLOSED for a gate. -/
inductive Target where
  | opened | shut
  deriving DecidableEq, Repr

inductive MovePhase where
  | awaitTaken | awaitStart | travel | held
  deriving DecidableEq, Repr

/-- Travel time elapsed: not begun (0.0 s), running since a moment, or kept from a hold (R36). -/
inductive Travel where
  | notBegun
  | since (t : Nat)
  | frozen (elapsed : Nat)
  deriving DecidableEq, Repr

inductive Owner where
  | batch (number : Nat) (step : Step)
  | protective
  deriving DecidableEq, Repr

/-- The movement record of an item (R23). `serial` orders records by creation (R31). -/
structure Movement where
  target : Target
  phase : MovePhase
  queued : Bool
  unanswered : Bool
  placed : Bool
  travel : Travel
  startLimit : Option Nat
  travelLimit : Option Nat
  resumptions : Nat
  owner : Owner
  serial : Nat
  deriving DecidableEq, Repr

structure ItemRec where
  position : Option Position
  command : CmdState
  movement : Option Movement
  deriving DecidableEq, Repr

inductive InputMode where
  | off | holdWhile | latch
  deriving DecidableEq, Repr

/-- Held input states: some true is ACTIVE, some false INACTIVE, none UNKNOWN (R42). -/
structure InputStates where
  obstruction : Option Bool
  overload : Option Bool
  ice : Option Bool
  localStop : Option Bool
  deriving DecidableEq, Repr

structure InputModes where
  obstruction : InputMode
  overload : InputMode
  ice : InputMode
  deriving DecidableEq, Repr

/-- The unrecorded input faults of a station that are acting (R55). -/
structure InputFlags where
  obstruction : Bool
  overload : Bool
  ice : Bool
  localStop : Bool
  deriving DecidableEq, Repr

/-- Overload blank timer of a station, and the OVERLOAD state of the last report set aside (R44). -/
structure OverloadBlank where
  expiry : Option Nat
  aside : Option Bool
  deriving DecidableEq, Repr

inductive FaultKind where
  | input (i : Input)
  | startTimeout | travelTimeout | moveRefused | uncommandedMove
  | lampFail
  | levelTimeout | noRoom | noLevel
  deriving DecidableEq, Repr

inductive FaultSource where
  | station (k : Station)
  | item (i : Item)
  | face (f : Face)
  | chamber (c : Chamber)
  deriving DecidableEq, Repr

/-- The capture of a record (R54). -/
structure Capture where
  time : Nat
  position : Option Position
  travel : Option Nat
  above : Option Nat
  below : Option Nat
  batch : Option (Nat × Step)
  deriving DecidableEq, Repr

/-- A fault record (R51 to R54). `releasing` is the expiry of the resume delay while the state is
RELEASING, none while it is ACTIVE. -/
structure FaultRec where
  number : Nat
  kind : FaultKind
  source : FaultSource
  latched : Bool
  releasing : Option Nat
  repeats : Nat
  escalated : Bool
  capture : Capture
  deriving DecidableEq, Repr

structure Machinery where
  items : Ten ItemRec
  /-- true is LOCAL -/
  inLocal : Quad Bool
  inputs : Quad InputStates
  modes : Quad InputModes
  overload : Quad OverloadBlank
  /-- time of the last restart of each chamber's changeover timer (R25) -/
  changeover : Trio (Option Nat)
  faults : List FaultRec
  nextFault : Nat
  unrecorded : Quad InputFlags
  limits : MovementLimits
  timing : FaultTiming
  nextSerial : Nat
  deriving DecidableEq, Repr

/-! ### Signal Control (chapter 4) -/

structure FaceRec where
  commanded : Aspect
  reported : Option Aspect
  stopSince : Option Nat
  /-- some true is PROVED, some false FAILED -/
  lamp : Option Bool
  request : Option (Nat × Step)
  stopWait : Option (Nat × Step)
  deriving DecidableEq, Repr

structure Signals where
  faces : Eight FaceRec
  interval : Nat
  deriving DecidableEq, Repr

/-! ### Station Line Controller (chapter 5) -/

inductive LineRate where
  | fast | slow
  deriving DecidableEq, Repr

inductive StationState where
  | unsynced | online | missing | lost | resetting
  deriving DecidableEq, Repr

/-- What an item command orders. -/
inductive ItemOrder where
  | opens | closes | stops
  deriving DecidableEq, Repr

/-- A command a poll can carry (R70). The item is one of the polled station. -/
inductive Command where
  | item (i : Item) (o : ItemOrder)
  | face (s : Side) (a : Aspect)
  | reset
  deriving DecidableEq, Repr

/-- An entry of a station command queue (R77). `inPoll` marks the entry carried by the poll in
progress, `failed` one that was sent in a poll whose answer failed. -/
structure QueueEntry where
  command : Command
  failed : Bool
  inPoll : Bool
  deriving DecidableEq, Repr

structure StationRec where
  state : StationState
  failed : Nat
  queue : List QueueEntry
  deriving DecidableEq, Repr

/-- The poll in progress: whether it could be sent (R84) and the command it carried. -/
structure Poll where
  station : Station
  sent : Bool
  carried : Option Command
  deriving DecidableEq, Repr

structure Line where
  rate : LineRate
  stations : Quad StationRec
  /-- the last poll slot begun in the round, none before slot 0 -/
  slot : Option Station
  /-- an alarm frame has been completed in the open slot (R74) -/
  alarm : Bool
  poll : Option Poll
  pulse : Bool
  /-- a dominant stretch by another device, and whether LINE HALT was handed for it -/
  stretch : Option Bool
  deriving DecidableEq, Repr

/-! ### Halt Control (chapter 6) -/

inductive HaltState where
  | running | halted | recovering
  deriving DecidableEq, Repr

inductive HaltCause where
  | allStop | crest | localStop | lineHalt | faultTableFull | startUp
  deriving DecidableEq, Repr

inductive StartKind where
  | powerOn | restart
  deriving DecidableEq, Repr

inductive StartOutcome where
  | bothValid | oneValid | noneValid | notTested
  deriving DecidableEq, Repr

structure StartRecord where
  kind : StartKind
  outcome : StartOutcome
  generation : Nat
  deriving DecidableEq, Repr

structure Halt where
  state : HaltState
  /-- a set, held in the order of the causes' names in `HaltCause` -/
  causes : List HaltCause
  /-- the cause of the last entry into HALTED (R93) -/
  entry : HaltCause
  /-- none: not awaited; some heard: awaited, with its heard mark -/
  awaited : Quad (Option Bool)
  startUp : StartRecord
  deriving DecidableEq, Repr

/-! ### Traffic Scheduler and Run Controller (chapters 7 to 9) -/

inductive Priority where
  | ordinary | priority | service
  deriving DecidableEq, Repr

inductive PassageState where
  | queued | admitted | inFlight
  deriving DecidableEq, Repr

inductive Location where
  | queue | approach | chamber (c : Chamber)
  deriving DecidableEq, Repr

/-- A passage record (R99). -/
structure Passage where
  number : Nat
  reference : List Octet
  direction : Direction
  length : Nat
  beam : Nat
  draught : Nat
  deadweight : Nat
  cargo : Nat
  priority : Priority
  arrivalDay : Nat
  arrivalTime : Nat
  stamp : Nat
  skips : Nat
  state : PassageState
  location : Location
  /-- batch number and position in the batch, both present or both absent -/
  batch : Option (Nat × Nat)
  deriving DecidableEq, Repr

/-- The suspension reasons (R112), in the order of its table. -/
inductive Reason where
  | halt | fault | stationLost | localControl | highLevel | levelDispute
  | noRoom | noLevel | levelTimeout | byRequest | restart
  deriving DecidableEq, Repr

inductive Phase where
  | claiming | levelWait | readying | opening | flowing | opened | stopping | closing
  deriving DecidableEq, Repr

/-- An open water metering segment; `start` is absent when no level was known at its start (R149). -/
structure Segment where
  start : Option Nat
  deriving DecidableEq, Repr

structure Meter where
  rise : Nat
  segment : Option Segment
  estimated : Bool
  startUpMark : Bool
  deriving DecidableEq, Repr

/-- The step record (R128). Its current step is read from the batch's preparation list and run
position. `readySent` says that MOVE READY was raised in the present open phase (R141). -/
structure StepRec where
  phase : Phase
  claims : List Chamber
  rounds : Nat
  roomMade : List Step
  waterLimit : Option Nat
  moveWait : Option Nat
  overdueSent : Bool
  readySent : Bool
  deriving DecidableEq, Repr

/-- A batch record (R112) with its run state (R128). Its members are their passage records. -/
structure Batch where
  number : Nat
  direction : Direction
  members : List Passage
  admitDay : Nat
  admitTime : Nat
  night : Bool
  edition : Nat
  reasons : List Reason
  position : StepNo
  moved : Bool
  preparation : List SubStep
  meter : Meter
  entered : Bool
  cleared : Bool
  step : Option StepRec
  deriving DecidableEq, Repr

inductive FlightMode where
  | automatic | keeper | closed
  deriving DecidableEq, Repr

/-- The pending keeper order (R122). -/
structure KeeperOrder where
  passages : List Nat
  direction : Direction
  deriving DecidableEq, Repr

structure Traffic where
  up : List Passage
  down : List Passage
  batches : List Batch
  order : Option KeeperOrder
  lastDirection : Option Direction
  consecutive : Nat
  mode : FlightMode
  nextPassage : Nat
  nextStamp : Nat
  nextBatch : Nat
  margin : Nat
  skipLimit : Nat
  quota : Nat
  spacing : Nat
  followOn : Bool
  nearUp : Bool
  nearDown : Bool
  waterLimit : Nat
  moveWait : Nat
  deriving DecidableEq, Repr

/-! ### Toll Unit and Receipt Store (chapters 10 and 11) -/

/-- The day account (R171). -/
structure DayAccount where
  day : Nat
  opened : Nat
  issued : Nat
  dues : Nat
  waterAllocated : Nat
  fees : Nat
  waterCharges : Nat
  unallocated : Nat
  volume : Nat
  batchesUp : Nat
  batchesDown : Nat
  vesselsUp : Nat
  vesselsDown : Nat
  capped : Bool
  deriving DecidableEq, Repr

structure Tolls where
  current : Option Edition
  previous : Option Edition
  pending : Option Edition
  account : DayAccount
  clock : Nat
  deriving DecidableEq, Repr

/-- Clamp adjustment (R158): a raise or a cut with its amount. -/
inductive Clamp where
  | raise (amount : Nat)
  | cut (amount : Nat)
  deriving DecidableEq, Repr

/-- A receipt (R165). -/
structure Receipt where
  day : Nat
  number : Nat
  passage : Nat
  reference : List Octet
  direction : Direction
  batch : Nat
  edition : Nat
  night : Bool
  length : Nat
  deadweight : Nat
  cargo : Nat
  priority : Priority
  base : Nat
  tonnage : Nat
  surcharge : Option Nat
  clamp : Option Clamp
  dues : Nat
  share : Option Nat
  fee : Nat
  volume : Nat
  charge : Nat
  estimated : Bool
  capped : Bool
  deriving DecidableEq, Repr

structure Receipts where
  queue : List Receipt
  margin : Nat
  nearFull : Bool
  hold : Bool
  repeatTimer : Option Nat
  deriving DecidableEq, Repr

/-! ### Console Link (chapter 12) -/

/-- One field of a payload: its octets and its value, absent when UNKNOWN, elapsed or absent (R181). -/
structure Field where
  width : Nat
  value : Option Nat
  deriving DecidableEq, Repr

/-- The notices of R178. The two ACCOUNTS notices share a frame kind and queue apart. -/
inductive NoticeKind where
  | haltEntered | haltCleared | faultRaised | faultReleased | stationState
  | high | dispute | riverHold
  | batchAdmitted | batchSuspended | stepDone | moveReady | overdue | batchComplete | queueNearFull
  | receiptsNearFull | receiptHold
  deriving DecidableEq, Repr

/-- A notice waiting to be sent: kind, object and contents. -/
structure Notice where
  kind : NoticeKind
  object : Nat
  payload : List Field
  deriving DecidableEq, Repr

/-- The class mask (R178). -/
structure NoticeMask where
  safety : Bool
  level : Bool
  traffic : Bool
  accounts : Bool
  deriving DecidableEq, Repr

/-- The refusal codes (R177). -/
inductive RefuseCode where
  | malformed | unknownKind | badValue | badSetting | badTariff | notConfigured | halted | wrongMode
  | inUse | queueFull | tooLong | tooWide | tooDeep | duplicate | noSuchVessel | inBatch
  | orderPending | noOrder | doesNotFit | receiptsFull | notReady | noSuchBatch | alreadySuspended
  | notSuspended | vesselsInside | stillActive | notLatched | noSuchFault | noPendingTariff
  | sameEdition | previousInUse | noSuchReceipt | noSuchStation
  deriving DecidableEq, Repr

/-- The reply of the request handed on. `verdict` none is acceptance. `waits` counts the updates of
the retained store that must complete before the reply is formed (R94). -/
structure Reply where
  tag : Octet
  kind : Octet
  verdict : Option RefuseCode
  data : List Field
  waits : Nat
  isRestart : Bool
  deriving DecidableEq, Repr

/-- The frame the transmitter is sending. -/
structure Sending where
  octets : List Octet
  isReply : Bool
  isRestart : Bool
  deriving DecidableEq, Repr

structure Console where
  /-- octets of the frame being assembled, from its start octet -/
  fragment : List Octet
  order : List ConsoleFrame
  reply : Option Reply
  sending : Option Sending
  lastWasReply : Bool
  notices : List Notice
  mask : NoticeMask
  deriving DecidableEq, Repr

/-! ### The retained store (R94 to R96) -/

/-- The retained part of a chamber record. -/
structure RetainedChamber where
  config : Option ChamberConfig
  trust : Trust
  lastKnown : Option Nat
  deriving DecidableEq, Repr

/-- The retained state (R96). Its batches carry no step record (R128). -/
structure Retained where
  chambers : Trio RetainedChamber
  levelSettings : LevelSettings
  limits : MovementLimits
  modes : Quad InputModes
  timing : FaultTiming
  interval : Nat
  waterLimit : Nat
  moveWait : Nat
  receiptMargin : Nat
  mode : FlightMode
  up : List Passage
  down : List Passage
  batches : List Batch
  lastDirection : Option Direction
  consecutive : Nat
  nextPassage : Nat
  nextStamp : Nat
  nextBatch : Nat
  queueMargin : Nat
  skipLimit : Nat
  quota : Nat
  spacing : Nat
  followOn : Bool
  current : Option Edition
  previous : Option Edition
  pending : Option Edition
  account : DayAccount
  receipts : List Receipt
  mask : NoticeMask
  deriving DecidableEq, Repr

structure Image where
  contents : Retained
  generation : Nat
  deriving DecidableEq, Repr

inductive ImageName where
  | a | b
  deriving DecidableEq, Repr

/-- The two images (none: not valid), the note of the image in use, and the updates not yet
complete, oldest first. -/
structure Store where
  imageA : Option Image
  imageB : Option Image
  inUse : ImageName
  updates : List Retained
  deriving DecidableEq, Repr

/-! ### Hand-overs within a step (log 4) -/

/-- What other blocks hand the Run Controller. -/
inductive RunEvent where
  /-- the movement of an item to a target is COMPLETE for its owner -/
  | complete (batch : Nat) (item : Item) (target : Target)
  /-- an outcome or event that suspends one batch -/
  | suspend (batch : Nat) (reason : Reason)
  /-- an open or close command of a batch's movement was TAKEN -/
  | taken (batch : Nat) (item : Item) (target : Target)
  /-- a path moved shut under a PROTECTIVE owner, which a batch's close may have joined (R28) -/
  | joinedShut (item : Item)
  | faceStopped (batch : Nat) (step : Step)
  | proceedShown (face : Face)
  /-- an event that suspends every batch whose current step uses the item, or the station -/
  | suspendItem (item : Item) (reason : Reason)
  | suspendStation (station : Station) (reason : Reason)
  | disputed (chamber : Chamber)
  | gateReport
  | headSluiceShut
  | roundEnd
  deriving DecidableEq, Repr

/-- Hand-overs not yet taken; empty between steps. -/
structure HandOvers where
  toRun : List RunEvent
  toHalt : List HaltCause
  retest : Bool
  evaluate : Bool
  deriving DecidableEq, Repr

/-! ### The whole part -/

structure State where
  powered : Bool
  now : Nat
  pending : List Instr
  console : Console
  line : Line
  level : Levels
  mach : Machinery
  signal : Signals
  halt : Halt
  traffic : Traffic
  toll : Tolls
  receipts : Receipts
  store : Store
  hand : HandOvers
  deriving DecidableEq, Repr

/-! ### Stopping -/

/-- No step of this block stops with a fault: every row of the command table has an effect, or finds
nothing to act on and leaves the state as it is. -/
inductive Fault where
  deriving DecidableEq, Repr

/-- Why a command has no outcome. -/
inductive Refusal where
  /-- Raised by `exec` for a command whose meaning is not written; no arm raises it now. Safe: the
  machine stops where the part would go on. -/
  | notModelled (mnemonic : String)
  deriving DecidableEq, Repr

/-! ### Reset: power-on with no valid image (R95 NONE VALID, R96, R97) -/

def NoticeMask.all : NoticeMask := ⟨true, true, true, true⟩

/-- R43: the default modes of a station's inputs. -/
def defaultModes : InputModes := { obstruction := .holdWhile, overload := .latch, ice := .holdWhile }

/-- R171: the day account after a failed validity check. -/
def emptyAccount : DayAccount :=
  { day := 1, opened := 0, issued := 0, dues := 0, waterAllocated := 0, fees := 0, waterCharges := 0,
    unallocated := 0, volume := 0, batchesUp := 0, batchesDown := 0, vesselsUp := 0, vesselsDown := 0,
    capped := false }

/-- R96: the retained state after NONE VALID. -/
def Retained.defaults : Retained :=
  { chambers := Trio.const { config := none, trust := .both, lastKnown := none }
    levelSettings := defaultLevelSettings
    limits := defaultMovementLimits
    modes := Quad.const defaultModes
    timing := defaultFaultTiming
    interval := defaultSignalInterval
    waterLimit := defaultWaterLimit
    moveWait := defaultMoveWait
    receiptMargin := defaultReceiptMargin
    mode := .closed
    up := [], down := [], batches := []
    lastDirection := none, consecutive := 0
    nextPassage := 1, nextStamp := 1, nextBatch := 1
    queueMargin := defaultQueueMargin, skipLimit := defaultSkipLimit
    quota := defaultQuota, spacing := defaultSpacing, followOn := true
    current := none, previous := none, pending := none
    account := emptyAccount
    receipts := []
    mask := NoticeMask.all }

/-- R1: the level part of a chamber record at start-up, from what is retained of it. -/
def RetainedChamber.fresh (r : RetainedChamber) : ChamberRec :=
  { config := r.config, trust := r.trust, upper := none, lower := none, agreed := none,
    condition := .unknown, dispute := 0, high := false, crest := false, target := none,
    targetCount := 0, surge := none, lastKnown := r.lastKnown }

/-- R58: a face record at start-up. -/
def FaceRec.fresh (a : Aspect) : FaceRec :=
  { commanded := a, reported := none, stopSince := none, lamp := none, request := none,
    stopWait := none }

/-- R58: CLOSED on the two approach faces, STOP on the six inner faces. -/
def freshFaces : Eight FaceRec :=
  { upper := ⟨.fresh .closed, .fresh .stop, .fresh .stop, .fresh .stop⟩
    lower := ⟨.fresh .stop, .fresh .stop, .fresh .stop, .fresh .closed⟩ }

/-- The part at start-up (R97) with the retained state `r`, before any notice is raised and before
retained batches are suspended: `kind`, `outcome` and `generation` are the start-up record. -/
def State.fresh (r : Retained) (clock now : Nat) (store : Store) (stretch : Option Bool)
    (start : StartRecord) (pending : List Instr) : State :=
  { powered := true
    now := now
    pending := pending
    console :=
      { fragment := [], order := [], reply := none, sending := none, lastWasReply := false,
        notices := [], mask := r.mask }
    line :=
      { rate := .slow
        stations := Quad.const { state := .unsynced, failed := 0, queue := [] }
        slot := none, alarm := false, poll := none, pulse := true, stretch := stretch }
    level :=
      { chambers := ⟨r.chambers.c1.fresh, r.chambers.c2.fresh, r.chambers.c3.fresh⟩
        headReading := none, tailReading := none, headLevel := none, tailLevel := none
        equal := Quad.const 0, riverHold := true, settings := r.levelSettings
        acting := r.levelSettings }
    mach :=
      { items := Ten.const { position := none, command := .none, movement := none }
        inLocal := Quad.const false
        inputs := Quad.const ⟨none, none, none, none⟩
        modes := r.modes
        overload := Quad.const { expiry := none, aside := none }
        changeover := Trio.const none
        faults := [], nextFault := 1
        unrecorded := Quad.const ⟨false, false, false, false⟩
        limits := r.limits, timing := r.timing, nextSerial := 0 }
    signal := { faces := freshFaces, interval := r.interval }
    halt :=
      { state := .halted, causes := [.startUp], entry := .startUp, awaited := Quad.const none,
        startUp := start }
    traffic :=
      { up := r.up, down := r.down, batches := r.batches, order := none
        lastDirection := r.lastDirection, consecutive := r.consecutive, mode := r.mode
        nextPassage := r.nextPassage, nextStamp := r.nextStamp, nextBatch := r.nextBatch
        margin := r.queueMargin, skipLimit := r.skipLimit, quota := r.quota, spacing := r.spacing
        followOn := r.followOn, nearUp := false, nearDown := false
        waterLimit := r.waterLimit, moveWait := r.moveWait }
    toll :=
      { current := r.current, previous := r.previous, pending := r.pending, account := r.account
        clock := clock }
    receipts :=
      { queue := r.receipts, margin := r.receiptMargin, nearFull := false, hold := false
        repeatTimer := none }
    store := store
    hand := { toRun := [], toHalt := [], retest := false, evaluate := false } }

/-- The notice HALT ENTERED of the start-up halt of a blank part (R93, R95): HALTED, the set of
START-UP, 00:00, the cause START-UP, and the start-up record POWER-ON, NONE VALID, generation 0. -/
def resetNotice : Notice :=
  { kind := .haltEntered, object := 0
    payload := [⟨1, some 1⟩, ⟨1, some 32⟩, ⟨3, some 0⟩, ⟨1, some 5⟩, ⟨1, some 0⟩, ⟨1, some 2⟩,
      ⟨3, some 0⟩] }

/-- The part right after power-on with neither image valid (log 1): the defaults are written at once
into image A with generation 0 (R95). -/
def State.reset : State :=
  let s := State.fresh Retained.defaults 0 0
    { imageA := some { contents := Retained.defaults, generation := 0 }, imageB := none,
      inUse := .a, updates := [] }
    none { kind := .powerOn, outcome := .noneValid, generation := 0 } []
  { s with console := { s.console with notices := [resetNotice] } }

end Sys2Proof.Machine
end

