-- ==== Sys2Proof/Machine/Operands.lean ====
section
/-! DEFINITION. The plan of the flight (00_scope), the run programs (R129, R134), and the numbering
of every enumeration in payloads (R181). -/

namespace Sys2Proof.Machine

/-! ### The plan of the flight -/

def allChambers : List Chamber := [.c1, .c2, .c3]
def allStations : List Station := [.k0, .k1, .k2, .k3]
def allInputs : List Input := [.obstruction, .overload, .ice, .localStop]
/-- The ten items in the order G0 to G3, S0 to S3, W1, W2. -/
def allItems : List Item :=
  [.gate .k0, .gate .k1, .gate .k2, .gate .k3, .sluice .k0, .sluice .k1, .sluice .k2, .sluice .k3,
    .byWash .w1, .byWash .w2]
/-- The eight faces in the order of the table of 4.1. -/
def allFaces : List Face :=
  [⟨.k0, .upper⟩, ⟨.k0, .lower⟩, ⟨.k1, .upper⟩, ⟨.k1, .lower⟩, ⟨.k2, .upper⟩, ⟨.k2, .lower⟩,
    ⟨.k3, .upper⟩, ⟨.k3, .lower⟩]

/-- The station that drives an item. -/
def itemStation : Item → Station
  | .gate k => k
  | .sluice k => k
  | .byWash .w1 => .k1
  | .byWash .w2 => .k2

def isGate : Item → Bool
  | .gate _ => true
  | _ => false

/-- The by-wash of a station: W1 at station 1, W2 at station 2. -/
def stationByWash : Station → Option ByWash
  | .k1 => some .w1
  | .k2 => some .w2
  | _ => none

/-- The items a station drives. -/
def stationItems (k : Station) : List Item :=
  match stationByWash k with
  | some w => [.gate k, .sluice k, .byWash w]
  | none => [.gate k, .sluice k]

/-- The gate above a chamber; also the station that reads the chamber from above. -/
def upperGate : Chamber → Station
  | .c1 => .k0
  | .c2 => .k1
  | .c3 => .k2

/-- The gate below a chamber; also the station that reads the chamber from below. -/
def lowerGate : Chamber → Station
  | .c1 => .k1
  | .c2 => .k2
  | .c3 => .k3

/-- The chamber above a gate (none: headwater). -/
def chamberAbove : Station → Option Chamber
  | .k0 => none
  | .k1 => some .c1
  | .k2 => some .c2
  | .k3 => some .c3

/-- The chamber below a gate (none: tailwater). -/
def chamberBelow : Station → Option Chamber
  | .k0 => some .c1
  | .k1 => some .c2
  | .k2 => some .c3
  | .k3 => none

/-- The chambers adjoining a gate (R32). -/
def gateChambers (k : Station) : List Chamber :=
  (chamberAbove k).toList ++ (chamberBelow k).toList

/-- The chambers a water path belongs to (R12); none for a gate. -/
def pathChambers : Item → List Chamber
  | .gate _ => []
  | .sluice k => gateChambers k
  | .byWash .w1 => [.c1]
  | .byWash .w2 => [.c2]

/-- All water paths of a chamber. -/
def chamberPaths : Chamber → List Item
  | .c1 => [.sluice .k0, .sluice .k1, .byWash .w1]
  | .c2 => [.sluice .k1, .sluice .k2, .byWash .w2]
  | .c3 => [.sluice .k2, .sluice .k3]

/-- The feed of a chamber: the sluice in the gate above it. -/
def feedPath (c : Chamber) : Item := .sluice (upperGate c)

/-- The chamber a path feeds: C1 for S0, C2 for S1, C3 for S2. -/
def fedChamber : Item → Option Chamber
  | .sluice k => chamberBelow k
  | _ => none

/-- The gates adjoining the same chambers as a gate (R32). -/
def neighbourGates : Station → List Station
  | .k0 => [.k1]
  | .k1 => [.k0, .k2]
  | .k2 => [.k1, .k3]
  | .k3 => [.k2]

/-- The other face of the same gate. -/
def farFace (f : Face) : Face :=
  { f with side := match f.side with | .upper => .lower | .lower => .upper }

/-- The direction whose vessels wait at an approach face: the G0 upper face for DOWN, the G3 lower
face for UP; none for an inner face. -/
def approachOf (f : Face) : Option Direction :=
  if f = ⟨.k0, .upper⟩ then some .down else if f = ⟨.k3, .lower⟩ then some .up else none

/-- The entry gate of a direction: G3 for UP, G0 for DOWN. -/
def entryGate : Direction → Station
  | .up => .k3
  | .down => .k0

def otherDirection : Direction → Direction
  | .up => .down
  | .down => .up

/-! ### Run programs -/

def allStepNos : List StepNo := [.one, .two, .three, .four, .five, .six, .seven, .eight]

def stepCode : StepNo → Nat
  | .one => 1 | .two => 2 | .three => 3 | .four => 4 | .five => 5 | .six => 6 | .seven => 7
  | .eight => 8

def nextStep : StepNo → StepNo
  | .one => .two | .two => .three | .three => .four | .four => .five | .five => .six
  | .six => .seven | .seven => .eight | .eight => .eight

/-- Odd main steps are water steps. -/
def isWaterNo : StepNo → Bool
  | .one | .three | .five | .seven => true
  | _ => false

/-- The gate a main step works at (R129). -/
def mainGate : Direction → StepNo → Station
  | .up, .one | .up, .two => .k3
  | .up, .three | .up, .four => .k2
  | .up, .five | .up, .six => .k1
  | .up, .seven | .up, .eight => .k0
  | .down, .one | .down, .two => .k0
  | .down, .three | .down, .four => .k1
  | .down, .five | .down, .six => .k2
  | .down, .seven | .down, .eight => .k3

/-- A chamber condition that must hold before water moves (R129). -/
def mainCondition : Direction → StepNo → Option (Chamber × LevelTarget)
  | .up, .three => some (.c2, .full)
  | .up, .five => some (.c1, .full)
  | .down, .three => some (.c2, .low)
  | .down, .five => some (.c3, .low)
  | _, _ => none

/-- How a water step ends: its gate settled equal, or a chamber at its target (R129, R134). -/
inductive WaterEnd where
  | equal (gate : Station)
  | target (c : Chamber) (t : LevelTarget)
  deriving DecidableEq, Repr

/-- What a step works with. -/
inductive Work where
  | water (path : Item) (ends : WaterEnd)
  | passage (gate : Station)
  deriving DecidableEq, Repr

/-- The work of a step (R129, R134). -/
def stepWork : Step → Work
  | .main d n =>
    if isWaterNo n then .water (.sluice (mainGate d n)) (.equal (mainGate d n))
    else .passage (mainGate d n)
  | .sub .fillC1 => .water (.sluice .k0) (.target .c1 .full)
  | .sub .equaliseC1C2 => .water (.sluice .k1) (.equal .k1)
  | .sub .makeC2Low => .water (.byWash .w2) (.target .c2 .low)
  | .sub .makeC3Low => .water (.sluice .k3) (.equal .k3)

/-- The chambers a step claims (R129, R134). -/
def stepClaims : Step → List Chamber
  | .main d n => gateChambers (mainGate d n)
  | .sub .fillC1 => [.c1]
  | .sub .equaliseC1C2 => [.c1, .c2]
  | .sub .makeC2Low => [.c2]
  | .sub .makeC3Low => [.c3]

/-- The side a batch comes from: upbound from below, downbound from above (4.1). -/
def entrySide : Direction → Side
  | .up => .lower
  | .down => .upper

/-- The entry face of a gate step (4.1). -/
def entryFace (d : Direction) (gate : Station) : Face := ⟨gate, entrySide d⟩

/-- The chamber members enter by a gate step; none when they leave the flight (R129). -/
def destination (d : Direction) (gate : Station) : Option Chamber :=
  match d with
  | .up => chamberAbove gate
  | .down => chamberBelow gate

/-- The items a step uses (R129): its water path, or its gate. -/
def stepItem (st : Step) : Item :=
  match stepWork st with
  | .water p _ => p
  | .passage g => .gate g

/-- Whether a station drives an item the step uses, the faces of a gate step included (R129). -/
def stepUsesStation (st : Step) (k : Station) : Bool := itemStation (stepItem st) == k

/-- The chamber of the fault LEVEL TIMEOUT for a path (R138). -/
def timeoutChamber : Item → Chamber
  | .sluice .k0 => .c1
  | .sluice .k1 => .c2
  | .byWash .w2 => .c2
  | .sluice .k2 => .c3
  | .sluice .k3 => .c3
  | .byWash .w1 => .c1
  | .gate _ => .c1

/-! ### Numbering (R181) -/

def stationCode : Station → Nat
  | .k0 => 0 | .k1 => 1 | .k2 => 2 | .k3 => 3

def stationOf : Nat → Option Station
  | 0 => some .k0 | 1 => some .k1 | 2 => some .k2 | 3 => some .k3 | _ => none

/-- Chambers are numbered 1 to 3 (R2). -/
def chamberCode : Chamber → Nat
  | .c1 => 1 | .c2 => 2 | .c3 => 3

def chamberOf : Nat → Option Chamber
  | 1 => some .c1 | 2 => some .c2 | 3 => some .c3 | _ => none

/-- Items in the order G0 to G3, S0 to S3, W1, W2 (log 12). -/
def itemCode : Item → Nat
  | .gate k => stationCode k
  | .sluice k => 4 + stationCode k
  | .byWash .w1 => 8
  | .byWash .w2 => 9

/-- Faces in the order of the table of 4.1 (log 12). -/
def faceCode (f : Face) : Nat :=
  2 * stationCode f.gate + (match f.side with | .upper => 0 | .lower => 1)

def inputCode : Input → Nat
  | .obstruction => 0 | .overload => 1 | .ice => 2 | .localStop => 3

def directionCode : Direction → Nat
  | .up => 0 | .down => 1

def directionOf : Nat → Option Direction
  | 0 => some .up | 1 => some .down | _ => none

def trustCode : Trust → Nat
  | .both => 0 | .upperOnly => 1 | .lowerOnly => 2

def trustOf : Nat → Option Trust
  | 0 => some .both | 1 => some .upperOnly | 2 => some .lowerOnly | _ => none

/-- The condition UNKNOWN is never numbered (R181). -/
def conditionCode : LevelCondition → Option Nat
  | .normal => some 0 | .degraded => some 1 | .disputed => some 2 | .unknown => none

/-- R1: none, FULL or LOW. -/
def targetCode : Option LevelTarget → Nat
  | none => 0 | some .full => 1 | some .low => 2

def positionCode : Position → Nat
  | .shut => 0 | .opening => 1 | .opened => 2 | .closing => 3 | .stopped => 4

def commandCode : CmdState → Nat
  | .none => 0 | .opens => 1 | .closes => 2 | .stops => 3

def phaseMoveCode : MovePhase → Nat
  | .awaitTaken => 0 | .awaitStart => 1 | .travel => 2 | .held => 3

/-- R23: OPEN, or CLOSED / SHUT. -/
def moveTargetCode : Target → Nat
  | .opened => 0 | .shut => 1

def modeCode : InputMode → Nat
  | .off => 0 | .holdWhile => 1 | .latch => 2

def modeOf : Nat → Option InputMode
  | 0 => some .off | 1 => some .holdWhile | 2 => some .latch | _ => none

/-- Fault kinds in the order of R52. -/
def faultKindCode : FaultKind → Nat
  | .input i => inputCode i
  | .startTimeout => 4 | .travelTimeout => 5 | .moveRefused => 6 | .uncommandedMove => 7
  | .lampFail => 8 | .levelTimeout => 9 | .noRoom => 10 | .noLevel => 11

/-- Aspects in the order of R58: STOP, PROCEED, PREPARE, CLOSED. -/
def aspectCode : Aspect → Nat
  | .stop => 0 | .proceed => 1 | .prepare => 2 | .closed => 3

def rateCode : LineRate → Nat
  | .fast => 0 | .slow => 1

def rateOf : Nat → Option LineRate
  | 0 => some .fast | 1 => some .slow | _ => none

/-- The codes of the station status summary (R181). -/
def stationStateCode : StationState → Nat
  | .unsynced => 0 | .online => 1 | .missing => 2 | .lost => 3 | .resetting => 4

/-- Slots in the order of R77: gate, sluice, by-wash, upper face, lower face, station reset. -/
def slotCode : Command → Nat
  | .item (.gate _) _ => 0
  | .item (.sluice _) _ => 1
  | .item (.byWash _) _ => 2
  | .face .upper _ => 3
  | .face .lower _ => 4
  | .reset => 5

def orderCode : ItemOrder → Nat
  | .opens => 0 | .closes => 1 | .stops => 2

def haltStateCode : HaltState → Nat
  | .running => 0 | .halted => 1 | .recovering => 2

def causeCode : HaltCause → Nat
  | .allStop => 0 | .crest => 1 | .localStop => 2 | .lineHalt => 3 | .faultTableFull => 4
  | .startUp => 5

def allCauses : List HaltCause := [.allStop, .crest, .localStop, .lineHalt, .faultTableFull, .startUp]

def startKindCode : StartKind → Nat
  | .powerOn => 0 | .restart => 1

def startOutcomeCode : StartOutcome → Nat
  | .bothValid => 0 | .oneValid => 1 | .noneValid => 2 | .notTested => 3

def priorityCode : Priority → Nat
  | .ordinary => 0 | .priority => 1 | .service => 2

def priorityOf : Nat → Option Priority
  | 0 => some .ordinary | 1 => some .priority | 2 => some .service | _ => none

def passageStateCode : PassageState → Nat
  | .queued => 0 | .admitted => 1 | .inFlight => 2

/-- R99: the queue of its direction, approach, C1, C2 or C3. -/
def locationCode : Location → Nat
  | .queue => 0 | .approach => 1 | .chamber c => 1 + chamberCode c

def reasonCode : Reason → Nat
  | .halt => 0 | .fault => 1 | .stationLost => 2 | .localControl => 3 | .highLevel => 4
  | .levelDispute => 5 | .noRoom => 6 | .noLevel => 7 | .levelTimeout => 8 | .byRequest => 9
  | .restart => 10

def allReasons : List Reason :=
  [.halt, .fault, .stationLost, .localControl, .highLevel, .levelDispute, .noRoom, .noLevel,
    .levelTimeout, .byRequest, .restart]

/-- Steps in payloads: 1 to 8 for main steps, 0x11 to 0x14 for sub-steps (R181). -/
def stepCodeOf : Step → Nat
  | .main _ n => stepCode n
  | .sub .fillC1 => 0x11
  | .sub .equaliseC1C2 => 0x12
  | .sub .makeC2Low => 0x13
  | .sub .makeC3Low => 0x14

/-- Phases in the order of R128, water steps and gate steps each from 0. -/
def phaseCode : Phase → Nat
  | .claiming => 0
  | .levelWait => 1 | .readying => 1
  | .opening => 2
  | .flowing => 3 | .opened => 3
  | .closing => 4
  | .stopping => 4

/-- CLOSING is the fifth phase of a water step and the sixth of a gate step (R128). -/
def phaseCodeIn (st : Step) (p : Phase) : Nat :=
  match stepWork st, p with
  | .passage _, .closing => 5
  | _, p => phaseCode p

def flightModeCode : FlightMode → Nat
  | .automatic => 0 | .keeper => 1 | .closed => 2

def flightModeOf : Nat → Option FlightMode
  | 0 => some .automatic | 1 => some .keeper | 2 => some .closed | _ => none

/-- A flag or yes-or-no value of a request: 1 or 0, anything else out of range (R181). -/
def flagOf : Nat → Option Bool
  | 0 => some false | 1 => some true | _ => none

/-- Follow-on: enabled 0, disabled 1, as R121 lists them (log 12). -/
def followOnOf : Nat → Option Bool
  | 0 => some true | 1 => some false | _ => none

/-- Refusal codes (R177). -/
def refuseCode : RefuseCode → Nat
  | .malformed => 1 | .unknownKind => 2 | .badValue => 3 | .badSetting => 4 | .badTariff => 5
  | .notConfigured => 6 | .halted => 7 | .wrongMode => 8 | .inUse => 9 | .queueFull => 10
  | .tooLong => 11 | .tooWide => 12 | .tooDeep => 13 | .duplicate => 14 | .noSuchVessel => 15
  | .inBatch => 16 | .orderPending => 17 | .noOrder => 18 | .doesNotFit => 19 | .receiptsFull => 20
  | .notReady => 21 | .noSuchBatch => 22 | .alreadySuspended => 23 | .notSuspended => 24
  | .vesselsInside => 25 | .stillActive => 26 | .notLatched => 27 | .noSuchFault => 28
  | .noPendingTariff => 29 | .sameEdition => 30 | .previousInUse => 31 | .noSuchReceipt => 32
  | .noSuchStation => 33

/-- Frame kinds of notices (R178). -/
def noticeCode : NoticeKind → Nat
  | .haltEntered => 0xE0 | .haltCleared => 0xE1 | .faultRaised => 0xE2 | .faultReleased => 0xE3
  | .stationState => 0xE4 | .high => 0xE5 | .dispute => 0xE6 | .riverHold => 0xE7
  | .batchAdmitted => 0xE8 | .batchSuspended => 0xE9 | .stepDone => 0xEA | .moveReady => 0xEB
  | .overdue => 0xEC | .batchComplete => 0xED | .queueNearFull => 0xEE
  | .receiptsNearFull => 0xEF | .receiptHold => 0xEF

/-- Whether the class of a notice is enabled in the mask (R178). -/
def noticeEnabled (m : NoticeMask) : NoticeKind → Bool
  | .haltEntered | .haltCleared | .faultRaised | .faultReleased | .stationState => m.safety
  | .high | .dispute | .riverHold => m.level
  | .batchAdmitted | .batchSuspended | .stepDone | .moveReady | .overdue | .batchComplete
  | .queueNearFull => m.traffic
  | .receiptsNearFull | .receiptHold => m.accounts

end Sys2Proof.Machine
end

