-- ==== Sys2Proof/Machine/Ops.lean ====
section
/-! DEFINITION. The named operations over the state that every block uses: reading and writing one
record of a table, the notice queue (R179), the station command queues (R77 to R79), and the
hand-overs within a step. -/

namespace Sys2Proof.Machine

/-! ### Records by name -/

def State.chamber (s : State) (c : Chamber) : ChamberRec := s.level.chambers.get c

def State.setChamber (s : State) (c : Chamber) (r : ChamberRec) : State :=
  { s with level := { s.level with chambers := s.level.chambers.set c r } }

def State.item (s : State) (i : Item) : ItemRec := s.mach.items.get i

def State.setItem (s : State) (i : Item) (r : ItemRec) : State :=
  { s with mach := { s.mach with items := s.mach.items.set i r } }

def State.setMovement (s : State) (i : Item) (m : Option Movement) : State :=
  s.setItem i { s.item i with movement := m }

def State.face (s : State) (f : Face) : FaceRec := s.signal.faces.get f

def State.setFace (s : State) (f : Face) (r : FaceRec) : State :=
  { s with signal := { s.signal with faces := s.signal.faces.set f r } }

def State.station (s : State) (k : Station) : StationRec := s.line.stations.get k

def State.setStation (s : State) (k : Station) (r : StationRec) : State :=
  { s with line := { s.line with stations := s.line.stations.set k r } }

def State.setQueue (s : State) (k : Station) (q : List QueueEntry) : State :=
  s.setStation k { s.station k with queue := q }

def State.setFaults (s : State) (fs : List FaultRec) : State :=
  { s with mach := { s.mach with faults := fs } }

def State.setBatches (s : State) (bs : List Batch) : State :=
  { s with traffic := { s.traffic with batches := bs } }

/-- The batch with a number, if the table holds one. -/
def State.batch? (s : State) (n : Nat) : Option Batch :=
  s.traffic.batches.find? fun b => b.number == n

/-- Change the batch with a number; nothing when the table holds none. -/
def State.modBatch (s : State) (n : Nat) (f : Batch → Batch) : State :=
  s.setBatches (s.traffic.batches.map fun b => if b.number = n then f b else b)

def inputState (r : InputStates) : Input → Option Bool
  | .obstruction => r.obstruction
  | .overload => r.overload
  | .ice => r.ice
  | .localStop => r.localStop

def setInputState (r : InputStates) (i : Input) (v : Option Bool) : InputStates :=
  match i with
  | .obstruction => { r with obstruction := v }
  | .overload => { r with overload := v }
  | .ice => { r with ice := v }
  | .localStop => { r with localStop := v }

/-- R43: LOCAL STOP has the fixed mode LATCH. -/
def inputMode (r : InputModes) : Input → InputMode
  | .obstruction => r.obstruction
  | .overload => r.overload
  | .ice => r.ice
  | .localStop => .latch

def inputFlag (r : InputFlags) : Input → Bool
  | .obstruction => r.obstruction
  | .overload => r.overload
  | .ice => r.ice
  | .localStop => r.localStop

def setInputFlag (r : InputFlags) (i : Input) (v : Bool) : InputFlags :=
  match i with
  | .obstruction => { r with obstruction := v }
  | .overload => { r with overload := v }
  | .ice => { r with ice := v }
  | .localStop => { r with localStop := v }

def reportedInput (r : InputReport) : Input → Bool
  | .obstruction => r.obstruction
  | .overload => r.overload
  | .ice => r.ice
  | .localStop => r.localStop

def State.held (s : State) (k : Station) (i : Input) : Option Bool :=
  inputState (s.mach.inputs.get k) i

def State.setHeld (s : State) (k : Station) (i : Input) (v : Option Bool) : State :=
  { s with mach := { s.mach with inputs := s.mach.inputs.set k (setInputState (s.mach.inputs.get k) i v) } }

def State.unrecorded (s : State) (k : Station) (i : Input) : Bool :=
  inputFlag (s.mach.unrecorded.get k) i

def State.setUnrecorded (s : State) (k : Station) (i : Input) (v : Bool) : State :=
  { s with mach := { s.mach with
      unrecorded := s.mach.unrecorded.set k (setInputFlag (s.mach.unrecorded.get k) i v) } }

def State.setOverload (s : State) (k : Station) (o : OverloadBlank) : State :=
  { s with mach := { s.mach with overload := s.mach.overload.set k o } }

/-! ### Hand-overs within a step (log 4) -/

def State.emit (s : State) (e : RunEvent) : State :=
  { s with hand := { s.hand with toRun := s.hand.toRun ++ [e] } }

def State.handCause (s : State) (c : HaltCause) : State :=
  { s with hand := { s.hand with toHalt := s.hand.toHalt ++ [c] } }

/-- Mark the waiting movements for a test of their conditions (R30). -/
def State.markRetest (s : State) : State := { s with hand := { s.hand with retest := true } }

/-- Mark an event at which the Traffic Scheduler evaluates an admission opportunity (R115). -/
def State.markAdmit (s : State) : State := { s with hand := { s.hand with evaluate := true } }

/-! ### Time -/

/-- Bring the running time up to `t` (log 2). -/
def State.reach (s : State) (t : Nat) : State := { s with now := max s.now t }

/-- The expiry of a timer started now. -/
def State.after (s : State) (d : Nat) : Nat := s.now + d

/-! ### Notices (R178, R179) -/

/-- Put a notice in a queue: in the place of the waiting one of its kind and object, else last. -/
def placeNotice (n : Notice) : List Notice → List Notice
  | [] => [n]
  | m :: rest => if m.kind = n.kind ∧ m.object = n.object then n :: rest else m :: placeNotice n rest

def State.notify (s : State) (kind : NoticeKind) (object : Nat) (payload : List Field) : State :=
  if noticeEnabled s.console.mask kind then
    { s with console :=
        { s.console with notices := placeNotice ⟨kind, object, payload⟩ s.console.notices } }
  else s

/-! ### Station command queues (R77 to R79) -/

def sameSlot (a b : Command) : Bool := slotCode a == slotCode b

def freshEntry (c : Command) : QueueEntry := { command := c, failed := false, inPoll := false }

/-- R78: whether an entry is a STOP. -/
def isStopCommand : Command → Bool
  | .item _ .stops => true
  | _ => false

/-- R77: take the place of the entry of the same slot, else join at the tail. R78: a move takes the
slot from a STOP and joins at the tail. -/
def placeEntry (c : Command) : List QueueEntry → List QueueEntry
  | [] => [freshEntry c]
  | e :: rest =>
    if sameSlot e.command c then
      if isStopCommand e.command then rest ++ [freshEntry c] else freshEntry c :: rest
    else e :: placeEntry c rest

/-- Withdraw the entry of a slot (R79). -/
def removeSlot (c : Command) (q : List QueueEntry) : List QueueEntry :=
  q.filter fun e => !sameSlot e.command c

/-- R78: a STOP goes before every other entry and takes its item's slot: a STOP that stands there moves to
the head as it is, an OPEN or CLOSE is removed. -/
def placeStop (i : Item) (q : List QueueEntry) : List QueueEntry :=
  let head :=
    match q.find? fun e => e.command == .item i .stops with
    | some e => e
    | none => freshEntry (.item i .stops)
  head :: removeSlot (.item i .stops) q

/-- R80: a reset joins at the tail, or is left where it stands. -/
def placeReset (q : List QueueEntry) : List QueueEntry :=
  if q.any fun e => sameSlot e.command .reset then q else q ++ [freshEntry .reset]

/-- The entry of a slot, if the queue holds one. -/
def findSlot (c : Command) (q : List QueueEntry) : Option QueueEntry :=
  q.find? fun e => sameSlot e.command c

/-- Mark the head entry as carried by the poll in progress (R69). -/
def markPolled : List QueueEntry → List QueueEntry
  | [] => []
  | e :: rest => { e with inPoll := true } :: rest

/-- The entry carried by the poll in progress, if it still stands in the queue (R79). -/
def polledEntry (q : List QueueEntry) : Option QueueEntry := q.find? fun e => e.inPoll

/-- R79: the entry leaves the queue on its verdict. -/
def dropPolled (q : List QueueEntry) : List QueueEntry := q.filter fun e => !e.inPoll

/-- R72: the entry stays and is marked as sent in a poll whose answer failed. -/
def failPolled (q : List QueueEntry) : List QueueEntry :=
  q.map fun e => if e.inPoll then { e with inPoll := false, failed := true } else e

/-! ### Command states (R23, R30) -/

def orderState : ItemOrder → CmdState
  | .opens => .opens
  | .closes => .closes
  | .stops => .stops

/-- Set the command state of an item; a change is an event at which waiting movements are tested. -/
def State.setCommand (s : State) (i : Item) (c : CmdState) : State :=
  if (s.item i).command = c then s else (s.setItem i { s.item i with command := c }).markRetest

/-- R37: a STOP at the head of the queue of the item's station, with command state STOP. -/
def State.orderStop (s : State) (i : Item) : State :=
  let k := itemStation i
  (s.setQueue k (placeStop i (s.station k).queue)).setCommand i .stops

/-- R30: a move command in the item's slot. -/
def State.orderMove (s : State) (i : Item) (t : Target) : State :=
  let k := itemStation i
  let o : ItemOrder := match t with | .opened => .opens | .shut => .closes
  (s.setQueue k (placeEntry (.item i o) (s.station k).queue)).setCommand i (orderState o)

/-- Withdraw any entry of an item's slot. -/
def State.withdraw (s : State) (i : Item) : State :=
  let k := itemStation i
  s.setQueue k (removeSlot (.item i .stops) (s.station k).queue)

/-- Withdraw an OPEN or CLOSE entry of an item, a STOP entry stays (R39). -/
def State.withdrawMove (s : State) (i : Item) : State :=
  match findSlot (.item i .stops) (s.station (itemStation i)).queue with
  | some e => if e.command = .item i .stops then s else s.withdraw i
  | none => s

/-- Whether a STOP for the item waits in its station's queue (R41). -/
def State.stopWaiting (s : State) (i : Item) : Bool :=
  (s.station (itemStation i)).queue.any fun e => e.command == .item i .stops

/-- Whether the queue holds an entry for a face (R60). -/
def State.faceQueued (s : State) (f : Face) : Bool :=
  (findSlot (.face f.side .stop) (s.station f.gate).queue).isSome

/-! ### Sets held in the order of their names -/

/-- The subset of `all` with `x` added. -/
def insertIn {α : Type} [DecidableEq α] (all : List α) (x : α) (xs : List α) : List α :=
  all.filter fun y => decide (y = x ∨ y ∈ xs)

def removeFrom {α : Type} [DecidableEq α] (x : α) (xs : List α) : List α :=
  xs.filter fun y => decide (y ≠ x)

/-! ### Readings of the flight many rules use -/

/-- The number of the chamber's agreed-level side, or the head or tail level, above a gate (R16). -/
def State.levelAbove (s : State) (k : Station) : Option Nat :=
  match chamberAbove k with
  | some c => (s.chamber c).agreed
  | none => s.level.headLevel

def State.levelBelow (s : State) (k : Station) : Option Nat :=
  match chamberBelow k with
  | some c => (s.chamber c).agreed
  | none => s.level.tailLevel

/-- R16: settled equal. -/
def State.settledEqual (s : State) (k : Station) : Bool :=
  decide (s.level.acting.settleCount ≤ s.level.equal.get k)

def isRunning (s : State) : Bool := s.halt.state == .running

/-- R25: the changeover timer has elapsed. -/
def State.changeoverElapsed (s : State) (c : Chamber) : Bool :=
  match s.mach.changeover.get c with
  | none => true
  | some t => decide (t + s.mach.limits.changeover ≤ s.now)

/-- R5: a reading is valid while it is present and its station is ONLINE. -/
def State.validReading (s : State) (k : Station) (r : Option Nat) : Option Nat :=
  if (s.station k).state = .online then r else none

end Sys2Proof.Machine
end

