-- ==== Sys2Proof/Machine/Layout.lean ====
section
/-! DEFINITION. The fields of payloads (R181): numbers, absences, flags, sets and collections, and
the records replies and notices carry. -/

namespace Sys2Proof.Machine

/-! ### Kinds of field -/

def num (w v : Nat) : Field := { width := w, value := some v }
def opt (w : Nat) (v : Option Nat) : Field := { width := w, value := v }
def flag (b : Bool) : Field := num 1 (if b then 1 else 0)

/-- A set drawn from an enumeration: bit n of the last octet for the value numbered n. -/
def setField {α : Type} (w : Nat) (code : α → Nat) (xs : List α) : Field :=
  num w ((xs.map fun x => 2 ^ code x).foldl (· + ·) 0)

/-- A collection: its number of entries, then the entries. -/
def collection {α : Type} (f : α → List Field) (xs : List α) : List Field :=
  num 1 xs.length :: xs.flatMap f

/-- A vessel reference: its characters, then 0x00 octets to twelve. -/
def referenceFields (r : List Octet) : List Field :=
  ((r ++ List.replicate 12 0).take 12).map fun (o : Octet) => num 1 o.toNat

/-- Time remaining on a timer, absent when it is elapsed or stopped. -/
def State.remaining (s : State) (e : Option Nat) : Option Nat := e.map fun t => t - s.now

/-- Time since a moment. -/
def State.elapsedSince (s : State) (t : Option Nat) : Option Nat := t.map fun u => s.now - u

/-! ### Records -/

def sourceFields : FaultKind → FaultSource → List Field
  | .input i, .station k => [num 1 (stationCode k), num 1 (inputCode i)]
  | _, .station k => [num 1 (stationCode k)]
  | _, .item i => [num 1 (itemCode i)]
  | _, .face f => [num 1 (faceCode f)]
  | _, .chamber c => [num 1 (chamberCode c)]

/-- R54, in the order of its table. -/
def captureFields (c : Capture) : List Field :=
  [num 3 c.time, opt 1 (c.position.map positionCode), opt 2 c.travel, opt 2 c.above, opt 2 c.below,
    opt 2 (c.batch.map (·.1)), opt 1 (c.batch.map fun p => stepCodeOf p.2)]

/-- R57: number, kind, source, mode, state, repeat count, escalated flag, capture. The mode has the codes of an
input's mode (log 12). -/
def faultFields (r : FaultRec) : List Field :=
  [num 1 r.number, num 1 (faultKindCode r.kind)] ++ sourceFields r.kind r.source ++
    [num 1 (modeCode (if r.latched then .latch else .holdWhile)),
      num 1 (if r.releasing.isSome then 1 else 0), num 1 r.repeats, flag r.escalated] ++
    captureFields r.capture

/-- A near-full indication, NEAR FULL or CLEAR (R105, R168). -/
def nearFullField (b : Bool) : Field := num 1 (if b then 0 else 1)

def priorityField (p : Priority) : Field := num 1 (priorityCode p)

/-- Vessel particulars, 23 octets (12.5). -/
def vesselFields (p : Passage) : List Field :=
  referenceFields p.reference ++
    [num 1 (directionCode p.direction), num 2 p.length, num 1 p.beam, num 2 p.draught,
      num 2 p.deadweight, num 1 p.cargo, priorityField p.priority, num 1 0]

/-- A passage record with every field of R99, its particulars in their layout. -/
def passageFields (p : Passage) : List Field :=
  num 2 p.number :: vesselFields p ++
    [num 2 p.arrivalDay, num 3 p.arrivalTime, num 2 p.stamp, num 1 p.skips,
      num 1 (passageStateCode p.state), num 1 (locationCode p.location),
      opt 2 (p.batch.map (·.1)), opt 1 (p.batch.map (·.2))]

def clampFields : Option Clamp → Field × Field
  | none => (num 1 0, opt 4 none)
  | some (.raise n) => (num 1 1, num 4 n)
  | some (.cut n) => (num 1 2, num 4 n)

/-- A receipt, 60 octets (12.5). -/
def receiptFields (r : Receipt) : List Field :=
  [num 2 r.day, num 3 r.number, num 2 r.passage] ++ referenceFields r.reference ++
    [num 1 (directionCode r.direction), num 1 r.batch, num 2 r.edition, num 2 r.length,
      num 2 r.deadweight, num 1 (r.cargo + 16 * priorityCode r.priority),
      num 1 ((if r.night then 1 else 0) + (if r.estimated then 2 else 0) + (if r.capped then 4 else 0)),
      (clampFields r.clamp).1, num 3 r.base, num 3 r.tonnage, opt 4 r.surcharge,
      (clampFields r.clamp).2, num 3 r.dues, opt 3 r.share, num 4 r.fee, num 3 r.volume,
      num 3 r.charge]

/-- An edition with every field of R151. -/
def editionFields (e : Edition) : List Field :=
  num 2 e.number :: collection (fun b => [num 2 b.bound, num 3 b.base]) e.bands ++
    e.rates.map (num 2) ++
    [num 3 e.waterRate, num 2 e.nightStart, num 2 e.nightEnd, num 1 e.nightPercent,
      num 1 e.priorityPercent, num 3 e.minDues, num 3 e.maxDues]

/-- The day account with every field of R171. -/
def accountFields (a : DayAccount) : List Field :=
  [num 2 a.day, num 3 a.opened, num 3 a.issued, num 6 a.dues, num 6 a.waterAllocated, num 6 a.fees,
    num 6 a.waterCharges, num 6 a.unallocated, num 6 a.volume, num 3 a.batchesUp, num 3 a.batchesDown,
    num 3 a.vesselsUp, num 3 a.vesselsDown, flag a.capped]

/-- The start-up record (R95) in HALT ENTERED, absent at a halt that is no start-up halt. -/
def startFields (r : Option StartRecord) : List Field :=
  [opt 1 (r.map fun x => startKindCode x.kind), opt 1 (r.map fun x => startOutcomeCode x.outcome),
    opt 3 (r.map (·.generation))]

/-! ### Octets -/

/-- The octets of a number, high octet first. -/
def numberOctets : Nat → Nat → List Octet
  | 0, _ => []
  | w + 1, v => BitVec.ofNat 8 (v / 256 ^ w) :: numberOctets w v

/-- The octets of one field: every bit set when absent. A value the field cannot hold shows a free
value (log 11). -/
def Field.octets (f : Field) : List Octet :=
  match f.value with
  | none => List.replicate f.width 0xFF
  | some v =>
    if v < 256 ^ f.width then numberOctets f.width v
    else numberOctets f.width (Config.overlong f.width v)

def fieldsOctets (fs : List Field) : List Octet := fs.flatMap Field.octets

end Sys2Proof.Machine
end

