-- ==== Sys2Proof/Machine/Flags.lean ====
section
/-! DEFINITION. The conditions and derived values of the flight: interlocks (R27, R31, R32), bands,
predictions and room (R17 to R20), flight dimensions (R1), the steps and occupancy of batches (R128,
R132), queue charge (R104) and free receipt slots (R166). None of them changes the state. -/

namespace Sys2Proof.Machine

/-! ### Faults that hold a gate (R36, R49) -/

/-- A fault of the station's OBSTRUCTION, OVERLOAD or ICE input. -/
def isGateFault (k : Station) (r : FaultRec) : Bool :=
  r.source == .station k &&
    (match r.kind with
      | .input .localStop => false
      | .input _ => true
      | _ => false)

/-- Whether an unrecorded OBSTRUCTION, OVERLOAD or ICE fault of the station acts (R55). -/
def State.unrecordedGate (s : State) (k : Station) : Bool :=
  s.unrecorded k .obstruction || s.unrecorded k .overload || s.unrecorded k .ice

/-- The gate is held by a LATCH fault; an unrecorded input fault acts as one (R49, R55). -/
def State.gateLatched (s : State) (k : Station) : Bool :=
  (s.mach.faults.any fun r => isGateFault k r && r.latched) || s.unrecordedGate k

/-- The gate is held by any fault of its station's inputs. -/
def State.gateHeld (s : State) (k : Station) : Bool :=
  s.mach.faults.any (isGateFault k) || s.unrecordedGate k

/-! ### Interlocks -/

def State.reported (s : State) (i : Item) (p : Position) : Bool := decide ((s.item i).position = some p)

/-- R31: what must hold in a chamber before path `i` of it is commanded open. -/
def State.chamberClear (s : State) (i : Item) (c : Chamber) : Bool :=
  (chamberPaths c).all (fun p => p == i || (s.reported p .shut && (s.item p).command != .opens)) &&
    s.changeoverElapsed c

/-- R31: the changeover conditions of a water path. -/
def State.pathMayOpen (s : State) (i : Item) : Bool := (pathChambers i).all (s.chamberClear i)

/-- Whether every neighbour gate of a gate is reported CLOSED (R32, R140). -/
def State.neighboursClosed (s : State) (k : Station) : Bool :=
  (neighbourGates k).all fun g => s.reported (.gate g) .shut

/-- R32: the gate open interlock. -/
def State.gateMayOpen (s : State) (k : Station) : Bool :=
  s.settledEqual k && s.neighboursClosed k &&
    (neighbourGates k).all fun g => (s.item (.gate g)).command != .opens

/-- The end position of a target (R23). -/
def endPosition : Target → Position
  | .opened => .opened
  | .shut => .shut

/-- R14, R27: the HIGH flag bars opening the feed path of its chamber. -/
def State.feedBarred (s : State) (i : Item) (t : Target) : Bool :=
  match t, fedChamber i with
  | .opened, some c => (s.chamber c).high
  | _, _ => false

/-- R30: the conditions for placing the command of a movement to a target. To R31's conditions of a water
path R14 adds that no command to open a feed path is held while its chamber's HIGH flag is set (log 25). -/
def State.mayPlace (s : State) (i : Item) (t : Target) : Bool :=
  match t, i with
  | .shut, _ => true
  | .opened, .gate k => s.gateMayOpen k
  | .opened, i => s.pathMayOpen i && !s.feedBarred i .opened

/-- R27: the not-available rows, in order, with the suspension reason each brings. -/
def State.notAvailable (s : State) (i : Item) (t : Target) : Option Reason :=
  if s.halt.state ≠ .running then some .halt
  else if (s.item i).position = none then some .stationLost
  else if s.mach.inLocal.get (itemStation i) then some .localControl
  else if isGate i && s.gateLatched (itemStation i) then some .fault
  else if s.feedBarred i t then some .highLevel
  else none

/-! ### Bands, predictions and room -/

/-- R17: the chamber is configured, not DISPUTED, and its agreed level stands in the band. -/
def State.inBand (s : State) (c : Chamber) (t : LevelTarget) : Bool :=
  match (s.chamber c).config, (s.chamber c).agreed with
  | some g, some h =>
    (s.chamber c).condition != .disputed &&
      (match t with
        | .full => decide (g.full - s.level.acting.bandTolerance ≤ h)
        | .low => decide (h ≤ g.low + s.level.acting.bandTolerance))
  | _, _ => false

/-- Division rounded half up (00_scope, "Arithmetic"). -/
def divHalfUp (n d : Nat) : Nat := (n + d / 2) / d

/-- Mean of two readings, rounded half up (R7). -/
def meanHalfUp (a b : Nat) : Nat := (a + b + 1) / 2

/-- The predicted common level of two chambers (R18): half the divisor is added exactly, doubling
both sides so that an odd divisor loses nothing. -/
def predictedLevel (au hu al hl : Nat) : Nat := (2 * (au * hu + al * hl) + (au + al)) / (2 * (au + al))

/-- The room-making target (R20); 0 when the numerator is negative. -/
def roomTarget (limit au hu al : Nat) : Nat := (limit * (au + al) - au * hu) / al

inductive RoomAnswer where
  | room (predicted : Option Nat)
  | noRoom (predicted : Nat) (target : Option Nat)
  | noPrediction
  deriving DecidableEq, Repr

/-- R18: whether a level leaves the freeboard below CREST; a freeboard above CREST leaves no room. -/
def hasRoom (crest freeboard level : Nat) : Bool := decide (level + freeboard ≤ crest)

/-- R18: the prediction for the sluice between two chambers. -/
def State.predictBetween (s : State) (u l : Chamber) : RoomAnswer :=
  match (s.chamber u).config, (s.chamber l).config, (s.chamber u).agreed, (s.chamber l).agreed with
  | some gu, some gl, some hu, some hl =>
    let p := predictedLevel gu.area hu gl.area hl
    if hasRoom gl.crest s.level.acting.freeboard p then .room (some p)
    else .noRoom p (some (roomTarget (gl.crest - s.level.acting.freeboard) gu.area hu gl.area))
  | _, _, _, _ => .noPrediction

/-- R18, R19: the answer for a water path. A ROOM answer for S0 carries the head level, as its NO ROOM
answer does (log 26). -/
def State.predict (s : State) (i : Item) : RoomAnswer :=
  match i with
  | .sluice .k0 =>
    match (s.chamber .c1).config, s.level.headLevel with
    | some g, some h =>
      if hasRoom g.crest s.level.acting.freeboard h then .room (some h) else .noRoom h none
    | _, _ => .noPrediction
  | .sluice .k1 => s.predictBetween .c1 .c2
  | .sluice .k2 => s.predictBetween .c2 .c3
  | _ => .room none

/-! ### Flight dimensions (R1) -/

structure FlightDims where
  usable : Nat
  width : Nat
  sill : Nat
  deriving DecidableEq, Repr

/-- The smallest of each dimension, absent while any chamber is unconfigured. -/
def State.flightDims (s : State) : Option FlightDims :=
  match (s.chamber .c1).config, (s.chamber .c2).config, (s.chamber .c3).config with
  | some a, some b, some c =>
    some { usable := min a.usable (min b.usable c.usable)
           width := min a.width (min b.width c.width)
           sill := min a.sill (min b.sill c.sill) }
  | _, _, _ => none

/-! ### Batches and their steps -/

/-- R112: the state SUSPENDED. -/
def Batch.suspended (b : Batch) : Bool := !b.reasons.isEmpty

/-- R128: the first sub-step of the preparation list, else the main step at the run position. -/
def Batch.current (b : Batch) : Step :=
  match b.preparation with
  | x :: _ => .sub x
  | [] => .main b.direction b.position

/-- The claims held by a batch's step. -/
def Batch.claims (b : Batch) : List Chamber :=
  match b.step with
  | some r => r.claims
  | none => []

/-- The phase of a batch's step, if it has a step record. -/
def Batch.phase? (b : Batch) : Option Phase := b.step.map (·.phase)

/-- The number of gate steps whose members have been confirmed through, and so the chamber in which
they lie: 1, 2, 3 for the first, second and third chamber of the direction (R132). -/
def Batch.passed (b : Batch) : Nat :=
  match b.position, b.moved with
  | .one, _ => 0
  | .two, m => if m then 1 else 0
  | .three, _ => 1
  | .four, m => if m then 2 else 1
  | .five, _ => 2
  | .six, m => if m then 3 else 2
  | .seven, _ => 3
  | .eight, m => if m then 4 else 3

/-- R132: the chamber a batch occupies. -/
def Batch.occupies (b : Batch) : Option Chamber :=
  match b.direction, b.passed with
  | .up, 1 => some .c3
  | .up, 2 => some .c2
  | .up, 3 => some .c1
  | .down, 1 => some .c1
  | .down, 2 => some .c2
  | .down, 3 => some .c3
  | _, _ => none

/-- R130: the batch and step that claim a chamber. -/
def State.claimant (s : State) (c : Chamber) : Option Batch :=
  s.traffic.batches.find? fun b => b.claims.contains c

/-- R132: the batch that occupies a chamber. -/
def State.occupant (s : State) (c : Chamber) : Option Batch :=
  s.traffic.batches.find? fun b => b.occupies == some c

/-- R130: whether a chamber is occupied by a batch other than `n`. -/
def State.occupiedByOther (s : State) (n : Nat) (c : Chamber) : Bool :=
  s.traffic.batches.any fun b => b.number != n && b.occupies == some c

/-- R130: whether a batch's step can take all its chambers. -/
def State.claimsFree (s : State) (b : Batch) : Bool :=
  (stepClaims b.current).all (fun c => (s.claimant c).isNone) &&
    (match stepWork b.current with
      | .water _ _ => (stepClaims b.current).all fun c => !s.occupiedByOther b.number c
      | .passage g =>
        match destination b.direction g with
        | some c => !s.occupiedByOther b.number c
        | none => true)

/-- R130, R131: a batch whose step waits in CLAIMING and finds its chambers free. -/
def State.canClaim (s : State) (b : Batch) : Bool :=
  !b.suspended && b.phase? == some .claiming && s.claimsFree b

/-! ### Queues and receipts -/

def State.queueOf (s : State) : Direction → List Passage
  | .up => s.traffic.up
  | .down => s.traffic.down

def State.setQueueOf (s : State) (d : Direction) (q : List Passage) : State :=
  match d with
  | .up => { s with traffic := { s.traffic with up := q } }
  | .down => { s with traffic := { s.traffic with down := q } }

/-- R104: the records held and the members of batches of the direction not yet entered. -/
def State.charge (s : State) (d : Direction) : Nat :=
  (s.queueOf d).length +
    ((s.traffic.batches.filter fun b => b.direction == d && !b.entered).map
      fun b => b.members.length).foldl (· + ·) 0

/-- R105. -/
def State.nearFullThreshold (s : State) : Nat := Config.queueCapacity - s.traffic.margin

/-- R166: the slots reserved, each batch its member count. -/
def State.reserved (s : State) : Nat :=
  (s.traffic.batches.map fun b => b.members.length).foldl (· + ·) 0

/-- R166: the receipt numbers left in the day. -/
def State.numbersLeft (s : State) : Nat :=
  Config.receiptNumbers - s.toll.account.issued - s.reserved

/-- R166: the free slot count. -/
def State.freeSlots (s : State) : Nat :=
  min (Config.receiptCapacity - s.receipts.queue.length - s.reserved) s.numbersLeft

/-- R168. -/
def State.receiptThreshold (s : State) : Nat := Config.receiptCapacity - s.receipts.margin

/-- Every passage record held (R101). -/
def State.allPassages (s : State) : List Passage :=
  s.traffic.up ++ s.traffic.down ++ s.traffic.batches.flatMap (·.members)

end Sys2Proof.Machine
end

