-- ==== Sys2Proof/Machine/Faults.lean ====
section
/-! DEFINITION. The fault table and the station inputs (chapter 3): raising and repeating a record
(R51 to R55), holding a gate (R36, R45), the HOLD-WHILE lifecycle (R46, R47), removal of a record,
overload blanking (R44). -/

namespace Sys2Proof.Machine

/-! ### Captures (R54) -/

/-- R54: travel time elapsed of a movement; absent before TRAVEL. A movement back in AWAIT-TAKEN or
AWAIT-START shows the time kept from its hold, and none after a reversal (log 26). -/
def travelElapsed (now : Nat) : Travel → Option Nat
  | .notBegun => none
  | .since t => some (now - t)
  | .frozen e => some e

/-- The batch and step of an owner. -/
def ownerBatch : Owner → Option (Nat × Step)
  | .batch n st => some (n, st)
  | .protective => none

/-- R54: the capture for the item concerned and the batch concerned. -/
def State.capture (s : State) (i : Item) (b : Option (Nat × Step)) : Capture :=
  { time := s.toll.clock
    position := (s.item i).position
    travel := (s.item i).movement.bind fun m => travelElapsed s.now m.travel
    above := s.levelAbove (itemStation i)
    below := s.levelBelow (itemStation i)
    batch := b }

/-- The batch owning an item's movement record. -/
def State.movementBatch (s : State) (i : Item) : Option (Nat × Step) :=
  (s.item i).movement.bind fun m => ownerBatch m.owner

/-! ### The table -/

/-- The first free number from `n`, at most `fuel` numbers passed over; `limit` continues at 1. -/
def freeNumber (limit : Nat) (used : List Nat) : Nat → Nat → Nat
  | 0, n => n
  | fuel + 1, n =>
    if used.contains n then freeNumber limit used fuel (if limit ≤ n then 1 else n + 1) else n

/-- The number after `n`, continuing at 1 after `limit`. -/
def nextNumber (limit n : Nat) : Nat := if limit ≤ n then 1 else n + 1

/-- R53: the record with a source and kind. -/
def State.faultOf (s : State) (k : FaultKind) (src : FaultSource) : Option FaultRec :=
  s.mach.faults.find? fun r => r.kind == k && r.source == src

def State.hasFaultRoom (s : State) : Bool := decide (s.mach.faults.length < Config.faultCapacity)

/-- R56: the notice FAULT RAISED carries the whole record. -/
def State.noticeRaised (s : State) (r : FaultRec) : State :=
  s.notify .faultRaised r.number (faultFields r)

/-- R56: FAULT RELEASED carries number, kind, source and manner (RELEASED 0, CLEARED 1). -/
def State.noticeReleased (s : State) (r : FaultRec) (cleared : Bool) : State :=
  s.notify .faultReleased r.number
    ([num 1 r.number, num 1 (faultKindCode r.kind)] ++ sourceFields r.kind r.source ++ [flag cleared])

/-- Replace a record where it stands and send FAULT RAISED when it has changed (R51, R56). -/
def State.changeFault (s : State) (old new : FaultRec) : State :=
  if old = new then s
  else (s.setFaults (s.mach.faults.map fun r => if r.number = old.number then new else r)).noticeRaised new

/-- R53, R45: a repeat; `counts` is false for an input seen UNKNOWN. -/
def repeated (counts : Bool) (r : FaultRec) : FaultRec :=
  { r with repeats := if counts then min 255 (r.repeats + 1) else r.repeats, releasing := none }

/-- R53: a new record at the end of the table. The next fault number of R51 is one past the number given (log
28). -/
def State.newFault (s : State) (k : FaultKind) (src : FaultSource) (latched : Bool) (c : Capture) :
    State :=
  let n := freeNumber 255 (s.mach.faults.map (·.number)) 17 s.mach.nextFault
  let r : FaultRec :=
    { number := n, kind := k, source := src, latched := latched, releasing := none, repeats := 0,
      escalated := false, capture := c }
  let t := s.setFaults (s.mach.faults ++ [r])
  ({ t with mach := { t.mach with nextFault := nextNumber 255 n } } : State).noticeRaised r

/-- R53, R55: raise a fault: a repeat, a new record, or the cause FAULT TABLE FULL. -/
def State.raiseFault (s : State) (k : FaultKind) (src : FaultSource) (latched counts : Bool) (i : Item)
    (b : Option (Nat × Step)) : State :=
  match s.faultOf k src with
  | some r => s.changeFault r (repeated counts r)
  | none =>
    if s.hasFaultRoom then s.newFault k src latched (s.capture i b) else s.handCause .faultTableFull

/-! ### Holding a gate (R36, R45) -/

/-- Hand the owner of a movement, if a batch, an outcome that suspends it. -/
def State.handOwner (s : State) (o : Owner) (r : Reason) : State :=
  match o with
  | .batch n _ => s.emit (.suspend n r)
  | .protective => s

/-- R36: put a movement in HELD, keeping the travel time it had. -/
def heldMovement (now : Nat) (m : Movement) : Movement :=
  { m with
    phase := .held, queued := false, unanswered := false, startLimit := none, travelLimit := none
    travel := match m.travel with | .since t => .frozen (now - t) | t => t }

/-- R36: place the STOP of a movement that is being held. -/
def State.stopForHold (s : State) (i : Item) : State :=
  match (s.item i).command with
  | .opens | .closes => s.orderStop i
  | _ => s

/-- R36: hold the gate's movement; a LATCH fault then ends it with FAILED for its batch. -/
def State.holdGate (s : State) (k : Station) : State :=
  let g := Item.gate k
  match (s.item g).movement with
  | none => s
  | some m =>
    let t := if m.phase = .held then s
      else (s.stopForHold g).setMovement g (some (heldMovement s.now m))
    match s.gateLatched k, m.owner with
    | true, .batch n _ => (t.setMovement g none).emit (.suspend n .fault)
    | _, _ => t

/-! ### Inputs (R42 to R46) -/

/-- R49: whether any LOCAL STOP record stands or any unrecorded LOCAL STOP fault acts. -/
def State.localStopPresent (s : State) : Bool :=
  (s.mach.faults.any fun r => r.kind == .input .localStop) ||
    allStations.any fun k => s.unrecorded k .localStop

/-- R93: HALT ENTERED with the halt state, the causes, the clock, the cause of the entry and, at a
start-up halt, the start-up record. -/
def State.noticeHalt (s : State) : State :=
  s.notify .haltEntered 0
    ([num 1 (haltStateCode s.halt.state), setField 1 causeCode s.halt.causes, num 3 s.toll.clock,
      num 1 (causeCode s.halt.entry)] ++
      startFields (if s.halt.entry = .startUp then some s.halt.startUp else none))

/-- R89: a condition cause that ends while HALTED leaves the set. -/
def State.endCause (s : State) (c : HaltCause) : State :=
  if s.halt.state = .halted ∧ c ∈ s.halt.causes then
    ({ s with halt := { s.halt with causes := removeFrom c s.halt.causes } } : State).noticeHalt
  else s

/-- R49: the test for the end of the cause LOCAL STOP. -/
def State.testLocalStop (s : State) : State :=
  if s.localStopPresent then s else s.endCause .localStop

def isGateInput : Input → Bool
  | .localStop => false
  | _ => true

/-- The record of an input fault is raised, or the fault acts unrecorded (R45, R55). -/
def State.raiseInput (s : State) (k : Station) (i : Input) (latched : Bool) : State :=
  let b := s.movementBatch (.gate k)
  if s.hasFaultRoom then
    (s.newFault (.input i) (.station k) latched (s.capture (.gate k) b)).setUnrecorded k i false
  else s.setUnrecorded k i true

/-- R45: an input becomes active; `before` is the held state before the report. -/
def State.inputActive (s : State) (k : Station) (i : Input) (before : Option Bool) : State :=
  match s.faultOf (.input i) (.station k) with
  | some r =>
    let t := s.changeFault r (repeated (before = some false) r)
    if isGateInput i then t else t.handCause .localStop
  | none =>
    match inputMode (s.mach.modes.get k) i with
    | .off => s
    | m =>
      let full := !s.hasFaultRoom
      let t := s.raiseInput k i (m = .latch)
      let t := if isGateInput i then t.holdGate k else t.handCause .localStop
      if full then t.handCause .faultTableFull else t

/-- R46, R49, R55: an input becomes inactive. -/
def State.inputInactive (s : State) (k : Station) (i : Input) : State :=
  let s := if s.unrecorded k i then
      let t := s.setUnrecorded k i false
      if isGateInput i then t else t.testLocalStop
    else s
  match s.faultOf (.input i) (.station k) with
  | some r =>
    if r.latched || r.releasing.isSome then s
    else s.changeFault r { r with releasing := some (s.after s.mach.timing.resumeDelay) }
  | none => s

/-- R42: an input state taken from a report. -/
def State.applyInput (s : State) (k : Station) (i : Input) (v : Bool) : State :=
  let before := s.held k i
  let t := s.setHeld k i (some v)
  if before = some v then t
  else if v then t.inputActive k i before
  else t.inputInactive k i

/-- R44: an OVERLOAD state is set aside while the station's blank timer runs. -/
def State.takeOverload (s : State) (k : Station) (v : Bool) : State :=
  match (s.mach.overload.get k).expiry with
  | some e => s.setOverload k { expiry := some e, aside := some v }
  | none => s.applyInput k .overload v

/-- R42, R44: the four input states of a report. -/
def State.applyInputs (s : State) (k : Station) (r : InputReport) : State :=
  let s := s.applyInput k .obstruction r.obstruction
  let s := s.takeOverload k r.overload
  let s := s.applyInput k .ice r.ice
  s.applyInput k .localStop r.localStop

/-- R44: the gate begins to move; a blank time of 0 starts no timer. -/
def State.startOverloadBlank (s : State) (k : Station) : State :=
  if s.mach.timing.overloadBlank = 0 then s
  else s.setOverload k
    { (s.mach.overload.get k) with expiry := some (s.after s.mach.timing.overloadBlank) }

/-- R44: the expiry of an overload blank timer; nothing when it is not running. -/
def State.endOverloadBlank (s : State) (k : Station) : State :=
  match (s.mach.overload.get k).expiry with
  | none => s
  | some e =>
    let t := (s.reach e).setOverload k { expiry := none, aside := none }
    match (s.mach.overload.get k).aside with
    | some v => t.applyInput k .overload v
    | none => t

/-- R46: the RELEASING records of a station's inputs return to ACTIVE, repeat count unchanged. -/
def State.stopReleases (s : State) (k : Station) : State :=
  (s.mach.faults.filter fun r => r.source == .station k && r.releasing.isSome).foldl
    (fun s r => s.changeFault r { r with releasing := none }) s

/-- R42, R44, R46: a station enters UNSYNCED, LOST or RESETTING. -/
def State.loseInputs (s : State) (k : Station) : State :=
  let s := { s with mach := { s.mach with inputs := s.mach.inputs.set k ⟨none, none, none, none⟩ } }
  let s := s.setOverload k { expiry := none, aside := none }
  s.stopReleases k

/-! ### Removal (R47, R50, R55) -/

/-- R55: raise one unrecorded input fault that acts, if there is room. -/
def State.recordUnrecorded (s : State) (k : Station) (i : Input) : State :=
  if s.unrecorded k i && s.hasFaultRoom then
    s.raiseInput k i (inputMode (s.mach.modes.get k) i = .latch)
  else s

/-- R55: the unrecorded input faults, in station and input order, while room lasts. -/
def State.recordAllUnrecorded (s : State) : State :=
  allStations.foldl (fun s k => allInputs.foldl (fun s i => s.recordUnrecorded k i) s) s

/-- Take a record out of the table and send FAULT RELEASED (R50, R56). -/
def State.dropFault (s : State) (r : FaultRec) (cleared : Bool) : State :=
  (s.setFaults (s.mach.faults.filter fun x => x.number != r.number)).noticeReleased r cleared

/-- The further acts at a removal (R49, R55). -/
def State.afterRemoval (s : State) (r : FaultRec) : State :=
  let s := s.recordAllUnrecorded
  if r.kind = .input .localStop then s.testLocalStop else s

/-- R47: a held movement is released to AWAIT-TAKEN, counted when it had placed a command. -/
def releasedMovement (m : Movement) : Movement :=
  { m with phase := .awaitTaken, queued := false
           resumptions := if m.placed then m.resumptions + 1 else m.resumptions }

/-- R47: a held movement that its gate's release would escalate. -/
def State.escalates (s : State) (m : Movement) : Bool :=
  decide (m.phase = .held) && m.placed && decide (s.mach.timing.resumeLimit ≤ m.resumptions)

/-- R47: the fault escalates to LATCH and ends the held movement. No STOP is placed beside the one of the hold,
also where the hold placed none (log 29). -/
def State.escalate (s : State) (r : FaultRec) (k : Station) (m : Movement) : State :=
  let t := s.changeFault r { r with latched := true, escalated := true, releasing := none }
  (t.setMovement (.gate k) none).handOwner m.owner .fault

/-- R47: the expiry of a resume delay, for the record `r` of station `k`. -/
def State.releaseFault (s : State) (r : FaultRec) (k : Station) : State :=
  let g := Item.gate k
  let others := (s.mach.faults.any fun x => isGateFault k x && x.number != r.number) ||
    s.unrecordedGate k
  if others then (s.dropFault r false).afterRemoval r
  else
    match (s.item g).movement with
    | none => (s.dropFault r false).afterRemoval r
    | some m =>
      if s.escalates m then s.escalate r k m
      else
        let t := s.dropFault r false
        let t := if m.phase = .held then t.setMovement g (some (releasedMovement m)) else t
        t.afterRemoval r

/-- R47: the record with a number whose resume delay runs, with its expiry and its station. -/
def State.resumeDelayOf (s : State) (n : Nat) : Option (FaultRec × Nat × Station) :=
  match s.mach.faults.find? fun r => r.number == n with
  | none => none
  | some r =>
    match r.releasing, r.source with
    | some e, .station k => some (r, e, k)
    | _, _ => none

/-- R47: the resume delay of the record with a number expires; nothing when none runs. -/
def State.endResumeDelay (s : State) (n : Nat) : State :=
  match s.resumeDelayOf n with
  | some (r, e, k) => (s.reach e).releaseFault r k
  | none => s

end Sys2Proof.Machine
end

