-- ==== Sys2Proof/Machine/Machinery.lean ====
section
/-! DEFINITION. Movements (chapter 2): requests (R27 to R29), placing and withdrawing commands (R30),
verdicts (R33), reports (R24, R25, R34), failures (R35), STOP (R37), station changes (R39), the halt
(R40), uncommanded motion (R41), and the surge blanking a report starts (R12). -/

namespace Sys2Proof.Machine

/-! ### Placing commands (R30) -/

/-- R30: place the command of a waiting movement when its conditions hold. -/
def State.tryPlace (s : State) (i : Item) : State :=
  match (s.item i).movement with
  | some m =>
    if m.phase = .awaitTaken ∧ m.queued = false ∧ s.mayPlace i m.target = true then
      (s.orderMove i m.target).setMovement i
        (some { m with queued := true, unanswered := false, placed := true })
    else s
  | none => s

/-- R30: an open command placed and not TAKEN whose conditions no longer hold is withdrawn, or undone
by a STOP when it was sent unanswered. -/
def State.tryWithdraw (s : State) (i : Item) : State :=
  match (s.item i).movement with
  | some m =>
    if m.phase = .awaitTaken ∧ m.queued = true ∧ s.mayPlace i m.target = false then
      let t := if m.unanswered then s.orderStop i else (s.withdraw i).setCommand i .none
      t.setMovement i (some { m with queued := false, unanswered := false })
    else s
  | none => s

/-- Insert by serial. -/
def insertSerial (x : Nat × Item) : List (Nat × Item) → List (Nat × Item)
  | [] => [x]
  | y :: rest => if x.1 ≤ y.1 then x :: y :: rest else y :: insertSerial x rest

/-- The items with a movement in AWAIT-TAKEN, the oldest record first (R31). -/
def State.waitingItems (s : State) : List Item :=
  let ws := allItems.filterMap fun i =>
    match (s.item i).movement with
    | some m => if m.phase = .awaitTaken then some (m.serial, i) else none
    | none => none
  (ws.foldr insertSerial []).map (·.2)

/-- R30: test every waiting movement, in the order in which the records were created. -/
def State.retest (s : State) : State :=
  s.waitingItems.foldl (fun s i => (s.tryWithdraw i).tryPlace i) s

/-! ### Requests (R27 to R29) -/

inductive MoveAnswer where
  | complete
  | inProgress
  | notAvailable (r : Reason)
  deriving DecidableEq, Repr

/-- R27: a new record. -/
def newMovement (t : Target) (p : MovePhase) (o : Owner) (serial : Nat) : Movement :=
  { target := t, phase := p, queued := false, unanswered := false, placed := false,
    travel := .notBegun, startLimit := none, travelLimit := none, resumptions := 0, owner := o,
    serial := serial }

/-- R27: a request for an item with no movement record, past the not-available rows. -/
def State.requestNew (s : State) (i : Item) (t : Target) (o : Owner) : MoveAnswer × State :=
  if (s.item i).position = some (endPosition t) then (.complete, s)
  else
    let held := match i with | .gate k => s.gateHeld k | _ => false
    let u := s.setMovement i
      (some (newMovement t (if held then .held else .awaitTaken) o s.mach.nextSerial))
    let u := { u with mach := { u.mach with nextSerial := u.mach.nextSerial + 1 } }
    (.inProgress, u.tryPlace i)

/-- The outcome SUPERSEDED for the old owner: only a PROTECTIVE new owner adds a reason (R145). -/
def State.supersede (s : State) (old new : Owner) : State :=
  match old, new with
  | .batch n _, .protective => s.emit (.suspend n .highLevel)
  | _, _ => s

/-- R28: a request joins the movement of the same target. -/
def State.requestJoin (s : State) (i : Item) (m : Movement) (o : Owner) : MoveAnswer × State :=
  match o with
  | .protective =>
    (.inProgress, (s.setMovement i (some { m with owner := .protective })).supersede m.owner o)
  | .batch _ _ => (.inProgress, s)

/-- R29: a request reverses the movement of the opposite target. -/
def State.requestReverse (s : State) (i : Item) (m : Movement) (t : Target) (o : Owner) :
    MoveAnswer × State :=
  match m.phase with
  | .held =>
    (.inProgress, (s.setMovement i (some { m with target := t, owner := o })).supersede m.owner o)
  | .awaitTaken =>
    let u := (if m.queued then s.withdrawMove i else s).supersede m.owner o
    if (s.item i).position = some (endPosition t) then (.complete, u.setMovement i none)
    else
      let m' := { m with target := t, owner := o, queued := false, unanswered := false }
      (.inProgress, (u.setMovement i (some m')).tryPlace i)
  | _ =>
    let m' := { m with target := t, owner := o, phase := .awaitTaken, queued := false
                       unanswered := false, travel := .notBegun, startLimit := none
                       travelLimit := none }
    (.inProgress, ((s.supersede m.owner o).setMovement i (some m')).tryPlace i)

/-- R27 to R29: a movement request and its answer. -/
def State.requestMove (s : State) (i : Item) (t : Target) (o : Owner) : MoveAnswer × State :=
  match s.notAvailable i t with
  | some r => (.notAvailable r, s)
  | none =>
    match (s.item i).movement with
    | none => s.requestNew i t o
    | some m => if m.target = t then s.requestJoin i m o else s.requestReverse i m t o

/-- R37: a STOP request. -/
def State.requestStop (s : State) (i : Item) : State := (s.setMovement i none).orderStop i

/-! ### Failures and verdicts (R33, R35) -/

/-- R35: a movement fails; its fault is recorded while its record still stands (R53). -/
def State.failMovement (s : State) (i : Item) (k : FaultKind) : State :=
  match (s.item i).movement with
  | none => s
  | some m =>
    let t := (s.orderStop i).raiseFault k (.item i) true true i (ownerBatch m.owner)
    (t.setMovement i none).handOwner m.owner .fault

def startLimitFor (l : MovementLimits) (i : Item) : Nat := if isGate i then l.gateStart else l.pathStart
def travelLimitFor (l : MovementLimits) (i : Item) : Nat :=
  if isGate i then l.gateTravel else l.pathTravel

/-- The target an item order moves to; none for a STOP. -/
def orderTarget : ItemOrder → Option Target
  | .opens => some .opened
  | .closes => some .shut
  | .stops => none

/-- R33: a verdict on an item command, while the command still stands in the queue. -/
def State.itemVerdict (s : State) (i : Item) (o : ItemOrder) (v : Verdict) : State :=
  match (s.item i).movement with
  | none => s
  | some m =>
    if m.phase = .awaitTaken ∧ m.queued = true ∧ orderTarget o = some m.target then
      match v with
      | .taken =>
        let t := s.setMovement i (some
          { m with phase := .awaitStart, queued := false, unanswered := false
                   startLimit := some (s.after (startLimitFor s.mach.limits i)) })
        match m.owner with
        | .batch n _ => t.emit (.taken n i m.target)
        | .protective => t
      | .refused _ => s.failMovement i .moveRefused
    else s

/-- R33, R72: an item command went out in a poll whose answer failed. -/
def State.markUnanswered (s : State) (i : Item) (o : ItemOrder) : State :=
  match (s.item i).movement with
  | none => s
  | some m =>
    if m.phase = .awaitTaken ∧ m.queued = true ∧ orderTarget o = some m.target then
      s.setMovement i (some { m with unanswered := true })
    else s

/-- R34: the expiry of the start limit that runs for an item's movement. -/
def State.startLimitOf (s : State) (i : Item) : Option Nat :=
  (s.item i).movement.bind fun m => if m.phase = .awaitStart then m.startLimit else none

/-- R34: the expiry of the travel limit that runs for an item's movement. -/
def State.travelLimitOf (s : State) (i : Item) : Option Nat :=
  (s.item i).movement.bind fun m => if m.phase = .travel then m.travelLimit else none

/-- R34: the start limit of an item's movement expires; nothing when it does not run. -/
def State.endStartLimit (s : State) (i : Item) : State :=
  match s.startLimitOf i with
  | some e => (s.reach e).failMovement i .startTimeout
  | none => s

/-- R34: the travel limit of an item's movement expires; nothing when it does not run. -/
def State.endTravelLimit (s : State) (i : Item) : State :=
  match s.travelLimitOf i with
  | some e => (s.reach e).failMovement i .travelTimeout
  | none => s

/-! ### Reports (R12, R24, R25, R34, R41) -/

def isMotion : Position → Bool
  | .opening | .closing => true
  | _ => false

/-- R12: start the surge blank timer of a chamber; a surge blank time of 0 starts none (R3). -/
def State.startSurge (s : State) (c : Chamber) : State :=
  if s.level.acting.surgeBlank = 0 then s
  else s.setChamber c { s.chamber c with surge := some (s.after s.level.acting.surgeBlank) }

/-- R25: restart a chamber's changeover timer. -/
def State.restartChangeover (s : State) (c : Chamber) : State :=
  { s with mach := { s.mach with changeover := s.mach.changeover.set c (some s.now) } }

/-- R25: a path is reported SHUT when it was held in motion, open or stopped before. -/
def leftShut : Option Position → Bool
  | some .opening | some .opened | some .closing | some .stopped => true
  | _ => false

/-- What a report starts before it is applied to the movement: surge blanking, the changeover timers,
overload blanking, and the SHUT report that ends metering segments (R149). -/
def State.reportStarts (s : State) (i : Item) (prev : Option Position) (p : Position) : State :=
  let begins := isMotion p && prev != some p
  let s := if begins then (pathChambers i).foldl (fun s c => s.startSurge c) s else s
  let s := match i, begins with
    | .gate k, true => s.startOverloadBlank k
    | _, _ => s
  let shuts := p == .shut && leftShut prev
  let s := if shuts then (pathChambers i).foldl (fun s c => s.restartChangeover c) s else s
  if shuts && i == .sluice .k0 then s.emit .headSluiceShut else s

/-- The motion toward a target (R34). -/
def motionToward : Target → Position
  | .opened => .opening
  | .shut => .closing

/-- R34: the outcome of a completed movement. -/
def State.handComplete (s : State) (i : Item) (m : Movement) : State :=
  match m.owner, m.target with
  | .batch n _, t => s.emit (.complete n i t)
  | .protective, .shut => s.emit (.joinedShut i)
  | .protective, .opened => s

/-- R34: a report acts on the movement of its item. -/
def State.reportMovement (s : State) (i : Item) (p : Position) : State :=
  match (s.item i).movement with
  | none => s
  | some m =>
    if m.phase = .awaitStart ∨ m.phase = .travel then
      if p = endPosition m.target then (s.setMovement i none).handComplete i m
      else if m.phase = .awaitStart ∧ p = motionToward m.target then
        s.setMovement i (some
          { m with phase := .travel, startLimit := none, travel := .since s.now
                   travelLimit := some (s.after (travelLimitFor s.mach.limits i)) })
      else s
    else s

/-- R41: uncommanded motion. -/
def State.uncommanded (s : State) (i : Item) (prev : Option Position) (p : Position) : Bool :=
  isMotion p && prev.isSome && prev != some p && (s.item i).movement.isNone &&
    !((s.item i).command == .stops && s.stopWaiting i) && isRunning s &&
    !s.mach.inLocal.get (itemStation i)

/-- R41: what uncommanded motion brings. -/
def State.stopUncommanded (s : State) (i : Item) : State :=
  ((s.orderStop i).raiseFault .uncommandedMove (.item i) true true i none).emit (.suspendItem i .fault)

/-- R24: one item position of a report. -/
def State.reportPosition (s : State) (i : Item) (p : Position) : State :=
  let prev := (s.item i).position
  let stray := s.uncommanded i prev p
  let s := s.reportStarts i prev p
  let s := s.setItem i { s.item i with position := some p }
  let s := if stray then s.stopUncommanded i else s.reportMovement i p
  let s := if isGate i then s.emit .gateReport else s
  if prev = some p then s else s.markRetest

/-- R24: the positions of a report, a by-wash position where the station has one. -/
def State.reportPositions (s : State) (k : Station) (r : StationReport) : State :=
  let s := s.reportPosition (.gate k) r.gate
  let s := s.reportPosition (.sluice k) r.sluice
  match stationByWash k, r.byWash with
  | some w, some p => s.reportPosition (.byWash w) p
  | _, _ => s

/-! ### Station changes and halt (R24, R39, R40) -/

/-- R24: the positions of a station's items become UNKNOWN. -/
def State.forgetPositions (s : State) (k : Station) : State :=
  (stationItems k).foldl (fun s i => s.setItem i { s.item i with position := none }) s

/-- R39: end the movement of an item at a station change. -/
def State.endMovement (s : State) (i : Item) (r : Reason) : State :=
  match (s.item i).movement with
  | some m => (s.setMovement i none).handOwner m.owner r
  | none => s

/-- R39: a station becomes LOST or RESETTING. -/
def State.loseMovements (s : State) (k : Station) : State :=
  (stationItems k).foldl
    (fun s i => ((s.endMovement i .stationLost).withdrawMove i).setCommand i .none) s

/-- R39: an item's movement at a change from REMOTE to LOCAL, with any entry queued for it. -/
def State.localMovement (s : State) (i : Item) : State :=
  match (s.item i).movement with
  | some _ => (s.endMovement i .localControl).withdraw i
  | none => s

/-- R24, R39: the LOCAL or REMOTE setting of a report. -/
def State.reportControl (s : State) (k : Station) (v : Bool) : State :=
  let was := s.mach.inLocal.get k
  let s := { s with mach := { s.mach with inLocal := s.mach.inLocal.set k v } }
  if v && !was then
    ((stationItems k).foldl (fun s i => (s.localMovement i).setCommand i .none) s).emit
      (.suspendStation k .localControl)
  else s

/-- R24, R42: the part of a report that goes to the Machinery Supervisor. -/
def State.reportMachinery (s : State) (k : Station) (r : StationReport) : State :=
  ((s.reportControl k r.inLocal).reportPositions k r).applyInputs k r.inputs

/-- R40: cancel every movement; every command state becomes NONE. -/
def State.cancelMovements (s : State) : State :=
  { s with mach := { s.mach with
      items := s.mach.items.map fun r => { r with movement := none, command := .none } } }

end Sys2Proof.Machine
end

