-- ==== Sys2Proof/Machine/Levels.lean ====
section
/-! DEFINITION. The Level Monitor (chapter 1): readings and CREST (R4, R5, R15), the round end (R7 to
R10, R13 to R17, R21), targets (R17), and the answers of READ CHAMBER (R22). -/

namespace Sys2Proof.Machine

/-! ### Readings (R4, R5, R15) -/

/-- R4: a value above 20,000 is stored as 20,000. -/
def storedReading (r : Option Nat) : Option Nat := r.map fun v => min v Config.levelLimit

/-- R15: a chamber reading above CREST sets the indication and hands the cause CREST. -/
def State.testCrest (s : State) (c : Chamber) (r : Option Nat) : State :=
  match (s.chamber c).config, r with
  | some g, some v =>
    if g.crest < v then (s.setChamber c { s.chamber c with crest := true }).handCause .crest else s
  | _, _ => s

/-- R4: the reading above a station's gate. -/
def State.storeAbove (s : State) (k : Station) (r : Option Nat) : State :=
  match chamberAbove k with
  | none => { s with level := { s.level with headReading := r } }
  | some c => (s.setChamber c { s.chamber c with lower := r }).testCrest c r

/-- R4: the reading below a station's gate. -/
def State.storeBelow (s : State) (k : Station) (r : Option Nat) : State :=
  match chamberBelow k with
  | none => { s with level := { s.level with tailReading := r } }
  | some c => (s.setChamber c { s.chamber c with upper := r }).testCrest c r

/-- R4: the two readings of a full status report. The CREST test takes the value stored, at most 20,000,
where R15 does not say whether it is that or the value reported (log 26). -/
def State.storeReadings (s : State) (k : Station) (above below : Option Nat) : State :=
  (s.storeAbove k (storedReading above)).storeBelow k (storedReading below)

/-- R5: both readings of a station become absent. -/
def State.loseReadings (s : State) (k : Station) : State :=
  let s := match chamberAbove k with
    | none => { s with level := { s.level with headReading := none } }
    | some c => s.setChamber c { s.chamber c with lower := none }
  match chamberBelow k with
  | none => { s with level := { s.level with tailReading := none } }
  | some c => s.setChamber c { s.chamber c with upper := none }

/-! ### Targets (R17) -/

/-- R17: naming or withdrawing a target sets the target counter to 0. -/
def State.setTarget (s : State) (c : Chamber) (t : Option LevelTarget) : State :=
  s.setChamber c { s.chamber c with target := t, targetCount := 0 }

/-- R17: the target is reached while the counter is at or above the settle count. -/
def State.targetReached (s : State) (c : Chamber) : Bool :=
  decide (s.level.acting.settleCount ≤ (s.chamber c).targetCount)

/-! ### The agreed level (R7 to R11) -/

/-- The difference of two readings. -/
def apart (a b : Nat) : Nat := max a b - min a b

/-- What one round end makes of a chamber: its record, and whether it entered or left DISPUTED. -/
structure Derived where
  record : ChamberRec
  entered : Bool
  left : Bool
  deriving DecidableEq, Repr

/-- R11: give the agreed level a value. -/
def ChamberRec.agree (r : ChamberRec) (v : Nat) : ChamberRec :=
  { r with agreed := some v, lastKnown := some v }

/-- R7: trust BOTH, both readings valid, not DISPUTED. -/
def deriveTwo (set : LevelSettings) (r : ChamberRec) (u l : Nat) : Derived :=
  let near := decide (apart u l ≤ set.agreementTolerance)
  let normal : ChamberRec := { r.agree (meanHalfUp u l) with condition := .normal }
  match near, r.surge with
  | true, none => ⟨{ normal with dispute := 0 }, false, false⟩
  | false, none =>
    if set.settleCount ≤ r.dispute + 1 then
      ⟨{ r.agree (max u l) with condition := .disputed, dispute := 0, targetCount := 0 }, true, false⟩
    else ⟨{ normal with dispute := r.dispute + 1 }, false, false⟩
  | _, some _ => ⟨normal, false, false⟩

/-- R9: a DISPUTED chamber. -/
def deriveDisputed (set : LevelSettings) (r : ChamberRec) (u l : Option Nat) : Derived :=
  match u, l with
  | some u, some l =>
    let near := decide (apart u l ≤ set.agreementTolerance)
    let high := r.agree (max u l)
    match near, r.surge with
    | true, none =>
      if set.settleCount ≤ r.dispute + 1 then
        ⟨{ r.agree (meanHalfUp u l) with condition := .normal, dispute := 0 }, false, true⟩
      else ⟨{ high with dispute := r.dispute + 1 }, false, false⟩
    | false, none => ⟨{ high with dispute := 0 }, false, false⟩
    | _, some _ => ⟨high, false, false⟩
  | some v, none => ⟨{ r.agree v with dispute := 0 }, false, false⟩
  | none, some v => ⟨{ r.agree v with dispute := 0 }, false, false⟩
  | none, none => ⟨{ r with agreed := none, dispute := 0 }, false, false⟩

/-- R10: one considered reading, or none. -/
def deriveOne (r : ChamberRec) (v : Option Nat) : Derived :=
  match v with
  | some v => ⟨{ r.agree v with condition := .degraded, dispute := 0 }, false, false⟩
  | none => ⟨{ r with agreed := none, condition := .unknown, dispute := 0 }, false, false⟩

/-- R7 to R10: a chamber from its valid readings. -/
def deriveChamber (set : LevelSettings) (r : ChamberRec) (u l : Option Nat) : Derived :=
  if r.condition = .disputed then deriveDisputed set r u l
  else
    match r.trust, u, l with
    | .both, some u, some l => deriveTwo set r u l
    | .both, some v, none => deriveOne r (some v)
    | .both, none, v => deriveOne r v
    | .upperOnly, v, _ => deriveOne r v
    | .lowerOnly, _, v => deriveOne r v

/-- The chamber's upper-station reading, while valid (R5). -/
def State.validUpper (s : State) (c : Chamber) : Option Nat :=
  s.validReading (upperGate c) (s.chamber c).upper

def State.validLower (s : State) (c : Chamber) : Option Nat :=
  s.validReading (lowerGate c) (s.chamber c).lower

/-- R8, R9: the notice DISPUTE. -/
def State.noticeDispute (s : State) (c : Chamber) (present : Bool) : State :=
  s.notify .dispute (chamberCode c) [num 1 (chamberCode c), flag present]

/-- Set a gate's equality counter. -/
def State.setEqual (s : State) (k : Station) (n : Nat) : State :=
  { s with level := { s.level with equal := s.level.equal.set k n } }

/-- R6, R8: the equality counters of a chamber's two gates are set to 0. -/
def State.clearEqual (s : State) (c : Chamber) : State :=
  (s.setEqual (upperGate c) 0).setEqual (lowerGate c) 0

/-- R7 to R11: derive one chamber at a round end. -/
def State.derive (s : State) (c : Chamber) : State :=
  let d := deriveChamber s.level.acting (s.chamber c) (s.validUpper c) (s.validLower c)
  let t := s.setChamber c d.record
  if d.entered then ((t.clearEqual c).noticeDispute c true).emit (.disputed c)
  else if d.left then t.noticeDispute c false
  else t

/-- R10: the head and tail levels. -/
def State.deriveRiver (s : State) : State :=
  { s with level := { s.level with
      headLevel := s.validReading .k0 s.level.headReading
      tailLevel := s.validReading .k3 s.level.tailReading } }

/-! ### HIGH, CREST, counters, river hold -/

/-- R13, R14: the notice HIGH. -/
def State.noticeHigh (s : State) (c : Chamber) (v : Bool) : State :=
  s.notify .high (chamberCode c) [num 1 (chamberCode c), flag v]

/-- R13, R14, R38: what setting the HIGH flag brings: the protective close, the suspensions, and, where
the close is dropped, the withdrawal of an open command that has not been TAKEN (log 25). -/
def State.setHigh (s : State) (c : Chamber) : State :=
  let s := (s.setChamber c { s.chamber c with high := true }).noticeHigh c true
  let s := (s.requestMove (feedPath c) .shut .protective).2
  (s.tryWithdraw (feedPath c)).emit (.suspendItem (feedPath c) .highLevel)

/-- R13, R14: the HIGH test of a chamber. -/
def State.testHigh (s : State) (c : Chamber) : State :=
  match (s.chamber c).config, (s.chamber c).agreed, (s.chamber c).surge with
  | some g, some h, none =>
    if g.high < h then (if (s.chamber c).high then s else s.setHigh c)
    else if (s.chamber c).high then
      (s.setChamber c { s.chamber c with high := false }).noticeHigh c false
    else s
  | _, _, _ => s

/-- Whether a reading exceeds a CREST level. -/
def exceeds (crest : Nat) (r : Option Nat) : Bool :=
  match r with
  | some v => decide (crest < v)
  | none => false

/-- R15: the clearing of a CREST indication at a round end. -/
def State.clearCrest (s : State) (c : Chamber) : State :=
  match (s.chamber c).config with
  | some g =>
    if (s.chamber c).crest && ((s.validUpper c).isSome || (s.validLower c).isSome) &&
        !(exceeds g.crest (s.validUpper c)) && !(exceeds g.crest (s.validLower c)) then
      s.setChamber c { s.chamber c with crest := false }
    else s
  | none => s

def State.anyCrest (s : State) : Bool := allChambers.any fun c => (s.chamber c).crest

/-- R15, R87: the clearing of CREST indications; the cause ends with the last of them. -/
def State.clearCrests (s : State) : State :=
  let t := allChambers.foldl (fun s c => s.clearCrest c) s
  if s.anyCrest && !t.anyCrest then t.endCause .crest else t

/-- R16: a side that keeps the counter at 0: a chamber DISPUTED or under surge blanking. `held` are
the chambers DISPUTED before this round end (R9). -/
def State.sideHeld (s : State) (held : List Chamber) (c : Option Chamber) : Bool :=
  match c with
  | none => false
  | some c => (s.chamber c).condition == .disputed || held.contains c || (s.chamber c).surge.isSome

/-- R16: one gate's equality counter at a round end. -/
def State.countEqual (s : State) (held : List Chamber) (k : Station) : State :=
  match s.levelAbove k, s.levelBelow k with
  | some a, some b =>
    if !(s.sideHeld held (chamberAbove k)) && !(s.sideHeld held (chamberBelow k)) &&
        decide (apart a b ≤ s.level.acting.equalTolerance) then
      s.setEqual k (min 16 (s.level.equal.get k + 1))
    else s.setEqual k 0
  | _, _ => s.setEqual k 0

/-- R17: one chamber's target counter at a round end. -/
def State.countTarget (s : State) (held : List Chamber) (c : Chamber) : State :=
  let r := s.chamber c
  let counts := match r.target with
    | some t => s.inBand c t && !held.contains c && r.surge.isNone
    | none => false
  s.setChamber c { r with targetCount := if counts then min 16 (r.targetCount + 1) else 0 }

/-- R21: whether river hold is present. -/
def State.riverHeld (s : State) : Bool :=
  match (s.chamber .c1).config, (s.chamber .c3).config, s.level.headLevel, s.level.tailLevel with
  | some a, some c, some h, some t =>
    !(hasRoom a.crest s.level.acting.freeboard h && hasRoom c.crest s.level.acting.freeboard t)
  | _, _, _, _ => true

/-- R21: the river hold evaluation. -/
def State.evaluateRiver (s : State) : State :=
  let h := s.riverHeld
  if h = s.level.riverHold then s
  else
    (({ s with level := { s.level with riverHold := h } } : State).notify .riverHold 0 [flag h]).markAdmit

/-- R3: new level settings take effect at a round end. -/
def State.takeSettings (s : State) : State :=
  { s with level := { s.level with acting := s.level.settings } }

/-- R7: the round-end operation of the Level Monitor, in its order, each stage by number (log 27). -/
def State.levelRoundEnd (s : State) : State :=
  let s := s.takeSettings
  let held := allChambers.filter fun c => (s.chamber c).condition == .disputed
  let s := allChambers.foldl (fun s c => s.derive c) s
  let s := s.deriveRiver
  let s := allChambers.foldl (fun s c => s.testHigh c) s
  let s := s.clearCrests
  let s := allStations.foldl (fun s k => s.countEqual held k) s
  let s := allChambers.foldl (fun s c => s.countTarget held c) s
  s.evaluateRiver

/-! ### The surge blank timer (R12) -/

/-- R12: the expiry of a surge blank timer; it acts on no counter and raises no notice. -/
def State.endSurge (s : State) (c : Chamber) : State :=
  match (s.chamber c).surge with
  | some e => (s.reach e).setChamber c { s.chamber c with surge := none }
  | none => s

/-! ### READ CHAMBER (R22) -/

/-- Answers of R18 and R19: ROOM 0, NO ROOM 1, NO PREDICTION 2, with the predicted level and the
room-making target where they exist. -/
def roomFields : RoomAnswer → List Field
  | .room p => [num 1 0, opt 2 p, opt 2 none]
  | .noRoom p t => [num 1 1, num 2 p, opt 2 t]
  | .noPrediction => [num 1 2, opt 2 none, opt 2 none]

/-- R22, in its order. The changeover time is the time since the last restart, elapsed or not (log 12). -/
def State.chamberFields (s : State) (c : Chamber) : List Field :=
  let r := s.chamber c
  let g := fun (w : Nat) (f : ChamberConfig → Nat) => opt w (r.config.map f)
  [flag r.config.isSome, g 2 (·.usable), g 1 (·.width), g 2 (·.sill), g 2 (·.area), g 2 (·.low),
    g 2 (·.full), g 2 (·.high), g 2 (·.crest),
    opt 2 r.upper, flag (s.validUpper c).isSome, opt 2 r.lower, flag (s.validLower c).isSome,
    num 1 (trustCode r.trust),
    opt 2 r.agreed, opt 1 (conditionCode r.condition), num 1 r.dispute, flag r.high, flag r.crest,
    num 1 (targetCode r.target), num 1 r.targetCount, opt 2 (s.remaining r.surge), opt 2 r.lastKnown] ++
  roomFields (s.predict (feedPath c)) ++
  [opt 2 ((s.claimant c).map (·.number)), opt 1 ((s.claimant c).map fun b => stepCodeOf b.current),
    opt 2 ((s.occupant c).map (·.number)), opt 2 (s.elapsedSince (s.mach.changeover.get c))]

end Sys2Proof.Machine
end

