-- ==== Sys2Proof/Machine/Signals.lean ====
section
/-! DEFINITION. Signal Control (chapter 4): the aspect of each face (R61 to R63), placing face commands
(R60), face reports (R59, R65) and stop waits (R62). -/

namespace Sys2Proof.Machine

/-! ### Which aspect a face is commanded (R61 to R63) -/

def isStopAspect : Aspect → Bool
  | .stop | .closed => true
  | _ => false

/-- Reported STOP or CLOSED. -/
def FaceRec.stopped (r : FaceRec) : Bool :=
  match r.reported with
  | some a => isStopAspect a
  | none => false

/-- R61: the far face is commanded and has been reported STOP or CLOSED for the all-stop interval. -/
def State.farStopped (s : State) (f : Face) : Bool :=
  let r := s.face (farFace f)
  isStopAspect r.commanded && r.stopped &&
    (match r.stopSince with
      | some t => decide (t + s.signal.interval ≤ s.now)
      | none => false)

/-- R61, R66: a LAMP FAIL record stands on the face. -/
def State.lampFault (s : State) (f : Face) : Bool := (s.faultOf .lampFail (.face f)).isSome

/-- R61: the conditions for PROCEED besides those R63 adds for an approach face. -/
def State.mayProceed (s : State) (f : Face) : Bool :=
  isRunning s && s.reported (.gate f.gate) .opened && s.farStopped f && !s.lampFault f &&
    (s.face f).lamp != some false

/-- R61, R62: a waiting request is granted, or a granted one stands while its gate is OPEN. -/
def State.proceedGranted (s : State) (f : Face) : Bool :=
  (s.face f).request.isSome &&
    (((s.face f).commanded == .proceed && isRunning s && s.reported (.gate f.gate) .opened) ||
      s.mayProceed f)

/-- R63: a batch of the direction is admitted with its entered flag clear. -/
def State.awaitsEntry (s : State) (d : Direction) : Bool :=
  s.traffic.batches.any fun b => b.direction == d && !b.entered

/-- R63: the rows that give CLOSED. -/
def State.approachClosed (s : State) (d : Direction) : Bool :=
  !isRunning s || s.level.riverHold || (s.traffic.mode == .closed && !s.awaitsEntry d)

/-- R63: the aspect of an approach face. -/
def State.approachAspect (s : State) (f : Face) (d : Direction) : Aspect :=
  if s.approachClosed d then .closed
  else if s.proceedGranted f then .proceed
  else if s.awaitsEntry d && !s.reported (.gate (entryGate d)) .opened then .prepare
  else .stop

/-- The aspect Signal Control commands on a face. -/
def State.aspectFor (s : State) (f : Face) : Aspect :=
  match approachOf f with
  | some d => s.approachAspect f d
  | none => if s.proceedGranted f then .proceed else .stop

/-- R60: place a face command. -/
def State.placeFace (s : State) (f : Face) (a : Aspect) : State :=
  s.setQueue f.gate (placeEntry (.face f.side a) (s.station f.gate).queue)

/-- R60: derive a face afresh; a change of the commanded aspect places a command. -/
def State.deriveFace (s : State) (f : Face) : State :=
  let a := s.aspectFor f
  if (s.face f).commanded = a then s
  else (s.setFace f { s.face f with commanded := a }).placeFace f a

def State.deriveFaces (s : State) : State := allFaces.foldl (fun s f => s.deriveFace f) s

/-! ### Requests of the Run Controller (R61, R62) -/

/-- R61: record a PROCEED request and test it. -/
def State.requestProceed (s : State) (f : Face) (n : Nat) (st : Step) : State :=
  (s.setFace f { s.face f with request := some (n, st) }).deriveFace f

/-- R62: answer a stop wait when the face is reported stopped with no entry queued. -/
def State.answerStopWait (s : State) (f : Face) : State :=
  match (s.face f).stopWait with
  | some (n, st) =>
    if (s.face f).stopped && !s.faceQueued f then
      (s.setFace f { s.face f with stopWait := none }).emit (.faceStopped n st)
    else s
  | none => s

/-- R62: a STOP request on a face. -/
def State.requestFaceStop (s : State) (f : Face) (n : Nat) (st : Step) : State :=
  let t := (s.setFace f { s.face f with request := none }).deriveFace f
  (t.setFace f { t.face f with stopWait := some (n, st) }).answerStopWait f

/-- Withdraw the stop wait of a batch on a face (R62, R126, R146). -/
def State.withdrawStopWait (s : State) (f : Face) (n : Nat) : State :=
  match (s.face f).stopWait with
  | some (m, _) => if m = n then s.setFace f { s.face f with stopWait := none } else s
  | none => s

/-! ### Reports (R59, R60, R65) -/

/-- R65: the batch and gate step in progress at a gate. -/
def State.stepAtGate (s : State) (k : Station) : Option (Nat × Step) :=
  match s.traffic.batches.find? fun b =>
      !b.suspended && b.phase? != some .claiming && b.phase?.isSome &&
        stepWork b.current == .passage k with
  | some b => some (b.number, b.current)
  | none => none

/-- R65: lamp proving becomes FAILED after PROVED; the aspect commanded is the one before the report (log 15). -/
def State.lampFailed (s : State) (f : Face) : State :=
  let t := s.raiseFault .lampFail (.face f) true true (.gate f.gate) (s.stepAtGate f.gate)
  if (s.face f).commanded = .proceed then
    let u := (t.setFace f { t.face f with request := none }).deriveFace f
    match (s.face f).request with
    | some (n, _) => u.emit (.suspend n .fault)
    | none => u
  else t

/-- R59: the stop-since time after a report. -/
def stopSinceAfter (now : Nat) (r : FaceRec) (a : Aspect) : Option Nat :=
  if isStopAspect a then (if r.stopped then r.stopSince else some now) else none

/-- R59, R60, R62, R65: one face of a report. -/
def State.reportFace (s : State) (f : Face) (r : FaceReport) : State :=
  let old := s.face f
  let s := s.setFace f
    { old with reported := some r.aspect, lamp := some r.proved
               stopSince := stopSinceAfter s.now old r.aspect }
  let s := if old.lamp = some true ∧ r.proved = false then s.lampFailed f else s
  let s := s.answerStopWait f
  let s := if r.aspect = .proceed then s.emit (.proceedShown f) else s
  if !s.mach.inLocal.get f.gate && r.aspect != (s.face f).commanded && !s.faceQueued f then
    s.placeFace f (s.face f).commanded
  else s

/-- R59: both faces of a report. -/
def State.reportFaces (s : State) (k : Station) (r : StationReport) : State :=
  (s.reportFace ⟨k, .upper⟩ r.upper).reportFace ⟨k, .lower⟩ r.lower

/-- R59: a face whose station leaves ONLINE. -/
def FaceRec.lost (r : FaceRec) : FaceRec := { r with reported := none, lamp := none, stopSince := none }

/-- R59: the faces of a station that leaves ONLINE. -/
def State.loseFaces (s : State) (k : Station) : State :=
  let s := s.setFace ⟨k, .upper⟩ (s.face ⟨k, .upper⟩).lost
  s.setFace ⟨k, .lower⟩ (s.face ⟨k, .lower⟩).lost

/-- R62: at the entry into HALTED every PROCEED request and stop wait is removed. -/
def State.dropFaceRequests (s : State) : State :=
  allFaces.foldl (fun s f => s.setFace f { s.face f with request := none, stopWait := none }) s

/-- Whether a face's PROCEED request waits (R61). -/
def State.proceedWaits (s : State) (f : Face) : Bool :=
  (s.face f).request.isSome && (s.face f).commanded != .proceed

end Sys2Proof.Machine
end

