-- ==== Sys2Proof/WellFormed.lean ====
section
/-! DEFINITION. Which terms of `Instr` the outside can send: every number fits the octets of its field
(R181), and a station's report has the items and aspects its station has (R70, 4.1). The part's
meaning of a command is total and does not rest on this check. -/

namespace Sys2Proof

/-- A number that fits `w` octets. -/
def fits (w v : Nat) : Bool := decide (v < 256 ^ w)

/-- A reference fits its 12 octets and ends in no filling octet. -/
def referenceFits (r : List Octet) : Bool :=
  decide (r.length ≤ 12) && decide (r.getLast? ≠ some 0x00#8)

def vesselFits (v : VesselArgs) : Bool :=
  referenceFits v.reference && fits 1 v.direction && fits 2 v.length && fits 1 v.beam &&
    fits 2 v.draught && fits 2 v.deadweight && fits 1 v.cargo && fits 1 v.priority && fits 1 v.reserved

def editionFits (e : Edition) : Bool :=
  fits 2 e.number && decide (e.bands.length < 256) &&
    e.bands.all (fun b => fits 2 b.bound && fits 3 b.base) && decide (e.rates.length = 8) &&
    e.rates.all (fits 2) && fits 3 e.waterRate && fits 2 e.nightStart && fits 2 e.nightEnd &&
    fits 1 e.nightPercent && fits 1 e.priorityPercent && fits 3 e.minDues && fits 3 e.maxDues

/-- 4.1: an inner face shows STOP or PROCEED; the G0 upper and G3 lower faces show all four. -/
def aspectFits (k : Station) (s : Side) (a : Aspect) : Bool :=
  match k, s, a with
  | .k0, .upper, _ => true
  | .k3, .lower, _ => true
  | _, _, .stop => true
  | _, _, .proceed => true
  | _, _, _ => false

/-- A report has a by-wash position exactly at stations 1 and 2, and aspects its faces can show. -/
def reportFits (k : Station) (r : StationReport) : Bool :=
  (match k with
    | .k1 | .k2 => r.byWash.isSome
    | _ => r.byWash.isNone) &&
  aspectFits k .upper r.upper.aspect && aspectFits k .lower r.lower.aspect

/-- A frame's length octet allows 0 to 248 payload octets (R175). -/
def frameFits (f : ConsoleFrame) : Bool := decide (f.payload.length ≤ 248)

/-- A well-formed command. -/
def Instr.wellFormed : Instr → Bool
  | .powerOn | .retainedUpdateComplete | .transmitterFree => true
  | .consoleFrameComplete _ | .consoleFrameGap _ | .frameLengthOutOfRange _ => true
  | .refuseUnknownKind f | .refuseMalformed f => frameFits f
  | .setChamber _ a =>
    fits 1 a.chamber && fits 2 a.usable && fits 1 a.width && fits 2 a.sill && fits 2 a.area &&
      fits 2 a.low && fits 2 a.full && fits 2 a.high && fits 2 a.crest
  | .setLevelSettings _ a =>
    fits 2 a.freeboard && fits 1 a.equalTolerance && fits 2 a.agreementTolerance &&
      fits 2 a.bandTolerance && fits 1 a.settleCount && fits 2 a.surgeBlank
  | .setTrust _ c t => fits 1 c && fits 1 t
  | .readChamber _ c => fits 1 c
  | .setMovementLimits _ a =>
    fits 2 a.gateStart && fits 2 a.pathStart && fits 2 a.gateTravel && fits 2 a.pathTravel &&
      fits 2 a.changeover
  | .setInputModes _ a => fits 1 a.station && fits 1 a.obstruction && fits 1 a.overload && fits 1 a.ice
  | .setFaultTiming _ a => fits 1 a.overloadBlank && fits 2 a.resumeDelay && fits 1 a.resumeLimit
  | .clearFault _ n => fits 1 n
  | .readFaults _ n => fits 1 n
  | .setSignalInterval _ n => fits 2 n
  | .setLineRate _ n => fits 1 n
  | .resetStation _ n => fits 1 n
  | .readStation _ n => fits 1 n
  | .allStop _ | .clearHalt _ | .restart _ => true
  | .registerVessel _ v => vesselFits v
  | .withdrawVessel _ n => fits 2 n
  | .setQueueLimits _ m l => fits 1 m && fits 1 l
  | .setMode _ m => fits 1 m
  | .readQueue _ d n => fits 1 d && fits 1 n
  | .setAdmissionSettings _ a => fits 1 a.quota && fits 1 a.spacing && fits 1 a.followOn
  | .orderBatch _ ns => decide (ns.length < 256) && ns.all (fits 2)
  | .cancelOrder _ => true
  | .abandonBatch _ n => fits 1 n
  | .readBatch _ n => fits 1 n
  | .setRunLimits _ a b => fits 2 a && fits 2 b
  | .confirmMoved _ b g => fits 1 b && fits 1 g
  | .suspendBatch _ n => fits 1 n
  | .resumeBatch _ n => fits 1 n
  | .setTariff _ e => editionFits e
  | .switchTariff _ => true
  | .readTariff _ n => fits 1 n
  | .quoteFee _ a => vesselFits a.vessel && fits 1 a.night && fits 1 a.choice
  | .setReceiptMargin _ n => fits 1 n
  | .peekReceipts _ n => fits 1 n
  | .releaseReceipts _ d n => fits 2 d && fits 3 n
  | .closeDay _ => true
  | .setClock _ n => fits 3 n
  | .readTotals _ => true
  | .setNotices _ a => fits 1 a.safety && fits 1 a.level && fits 1 a.traffic && fits 1 a.accounts
  | .readFlight _ | .readSettings _ => true
  | .pollSlotStart _ => true
  | .goodAnswer k a => reportFits k a.report
  | .pollFailed _ => true
  | .alarmFrame k r => reportFits k r
  | .stationFrameDiscarded _ => true
  | .roundEnd | .haltPulseEnd | .lineHalt => true
  | .surgeBlankExpiry _ | .changeoverTimerExpiry _ => true
  | .startLimitExpiry _ | .travelLimitExpiry _ => true
  | .overloadBlankExpiry _ => true
  | .resumeDelayExpiry n => decide (1 ≤ n) && decide (n ≤ 255)
  | .waterStepLimitExpiry n => decide (1 ≤ n) && decide (n ≤ 255)
  | .moveWaitExpiry n => decide (1 ≤ n) && decide (n ≤ 255)
  | .allStopIntervalElapsed _ => true
  | .receiptsRepeatExpiry | .clockTick | .powerFail => true
  | .dominantStretchStart | .dominantStretchEnd => true

end Sys2Proof
end

