-- ==== Sys2Proof/Machine/StationLine.lean ====
section
/-! DEFINITION. The Station Line Controller (chapter 5): station states and what each brings (R75,
R76), polls and their outcomes (R69 to R73, R79, R81), alarm frames (R74), the line rate (R68), the
halt pulse (R83), dominant stretches (R84), and the status summary (12.5). -/

namespace Sys2Proof.Machine

def State.setLine (s : State) (l : Line) : State := { s with line := l }
def State.setPoll (s : State) (p : Option Poll) : State := s.setLine { s.line with poll := p }
/-- A slot begins, or the round ends: no alarm frame has been completed in it yet (R74). -/
def State.setSlot (s : State) (k : Option Station) : State :=
  s.setLine { s.line with slot := k, alarm := false }

/-! ### Station states (R75, R76) -/

def reasonOfStation : StationReason → Nat
  | .localControl => 0 | .itemFault => 1 | .busy => 2

/-- R76, R81: STATION STATE, with the verdict on a reset and its reason, both absent at a change that is no
verdict (log 12). -/
def State.noticeStation (s : State) (k : Station) (v : Option Verdict) : State :=
  s.notify .stationState (stationCode k)
    [num 1 (stationCode k), num 1 (stationStateCode (s.station k).state),
      opt 1 (v.map fun | .taken => 0 | .refused _ => 1),
      opt 1 (v.bind fun | .taken => none | .refused r => some (reasonOfStation r))]

/-- R76: what leaving ONLINE for MISSING brings. -/
def State.stationMissing (s : State) (k : Station) : State := (s.forgetPositions k).loseFaces k

/-- R76: what UNSYNCED brings. -/
def State.stationUnsynced (s : State) (k : Station) : State :=
  (((s.loseReadings k).forgetPositions k).loseInputs k).loseFaces k

/-- R76: what LOST or RESETTING brings. -/
def State.stationGone (s : State) (k : Station) : State :=
  ((s.stationUnsynced k).loseMovements k).emit (.suspendStation k .stationLost)

/-- R76: what a new station state brings. -/
def State.stationEffects (s : State) (k : Station) (st : StationState) : State :=
  match st with
  | .online => s
  | .missing => s.stationMissing k
  | .unsynced => s.stationUnsynced k
  | .lost | .resetting => s.stationGone k

/-- R75, R76: a station takes a state and a failed poll count, its notice after what the change brings (log
27). -/
def State.enterStation (s : State) (k : Station) (st : StationState) (n : Nat) : State :=
  let old := (s.station k).state
  let s := s.setStation k { s.station k with state := st, failed := n }
  if old = st then s else (s.stationEffects k st).noticeStation k none

/-- R75: the state after a failed poll that makes the count `n`. -/
def afterFailed (st : StationState) (n : Nat) : StationState :=
  if 5 ≤ n then .lost
  else match st with
    | .unsynced => .unsynced
    | .online => .missing
    | .missing => .missing
    | .resetting => .resetting
    | .lost => .lost

/-- R72, R75: the state and count of a station after a failed poll. -/
def State.countFailure (s : State) (k : Station) : State :=
  let n := min 5 ((s.station k).failed + 1)
  s.enterStation k (afterFailed (s.station k).state n) n

/-! ### Polls (R69, R72, R73, R79) -/

/-- R69: the poll slots follow one another from slot 0. -/
def slotAfter : Option Station → Option Station
  | none => some .k0
  | some .k0 => some .k1
  | some .k1 => some .k2
  | some .k2 => some .k3
  | some .k3 => none

/-- R69: whether poll slot `k` can begin now. -/
def State.slotDue (s : State) (k : Station) : Bool :=
  !s.line.pulse && s.line.poll.isNone && slotAfter s.line.slot == some k

/-- R69, R84: the poll of a slot: sent with the head entry, or not sent while the line is held. -/
def State.beginPoll (s : State) (k : Station) : State :=
  let s := s.setSlot (some k)
  if s.line.stretch.isSome then s.setPoll (some { station := k, sent := false, carried := none })
  else
    let q := (s.station k).queue
    (s.setQueue k (markPolled q)).setPoll
      (some { station := k, sent := true, carried := q.head?.map (·.command) })

/-- R72, R73: the command of a poll that was sent and whose answer failed stays, marked. -/
def State.failCarried (s : State) (k : Station) : State :=
  match polledEntry (s.station k).queue with
  | none => s
  | some e =>
    let t := s.setQueue k (failPolled (s.station k).queue)
    match e.command with
    | .item i o => t.markUnanswered i o
    | _ => t

/-- R72: the poll in progress fails. -/
def State.failPoll (s : State) (k : Station) : State := ((s.setPoll none).failCarried k).countFailure k

/-- R73: abort the round in progress. -/
def State.abortRound (s : State) : State :=
  let t := match s.line.poll with
    | some p => (s.setPoll none).failCarried p.station
    | none => s
  t.setSlot none

/-- The poll in progress of a station. -/
def State.pollOf (s : State) (k : Station) : Option Poll :=
  match s.line.poll with
  | some p => if p.station = k then some p else none
  | none => none

/-- R70: an answer whose contents the part can take as good: the poll was sent, a verdict exactly when a
command was carried, and fields within their kinds. -/
def answerGood (k : Station) (p : Poll) (a : Answer) : Bool :=
  p.sent && (a.verdict.isSome == p.carried.isSome) && reportFits k a.report

/-- R70, R84: a good answer; a stretch that lasts fails the answer it overlaps (log 13). -/
def State.goodAnswer (s : State) (k : Station) (p : Poll) (a : Answer) : Bool :=
  s.line.stretch.isNone && answerGood k p a

/-! ### Good answers (R71, R79, R81) -/

/-- R79, R33, R60: the verdict on an entry that still stands leaves the queue and goes to its owner. -/
def State.takeVerdict (s : State) (k : Station) (v : Option Verdict) : State :=
  match polledEntry (s.station k).queue, v with
  | some e, some v =>
    let t := s.setQueue k (dropPolled (s.station k).queue)
    match e.command with
    | .item i o => t.itemVerdict i o v
    | _ => t
  | _, _ => s

/-- R81: a TAKEN reset. -/
def State.resetTaken (s : State) (k : Station) : State :=
  let s := s.setQueue k (dropPolled (s.station k).queue)
  let s := s.setStation k { s.station k with state := .resetting, failed := 0 }
  (s.stationGone k).noticeStation k (some .taken)

/-- R81: a refused reset raises STATION STATE with the verdict. -/
def State.resetRefused (s : State) (k : Station) (c : Option Command) (v : Option Verdict) : State :=
  if c = some .reset then s.noticeStation k v else s

/-- R71: a good answer is handed on: station state, readings, verdict, report. -/
def State.takeAnswer (s : State) (k : Station) (p : Poll) (a : Answer) : State :=
  let s := s.setPoll none
  if p.carried = some .reset ∧ a.verdict = some .taken then s.resetTaken k
  else
    let s := s.enterStation k .online 0
    let s := s.storeReadings k a.above a.below
    let s := s.takeVerdict k a.verdict
    let s := s.resetRefused k p.carried a.verdict
    (s.reportMachinery k a.report).reportFaces k a.report

/-! ### Alarm frames (R74) -/

/-- R69: the open slot passes. -/
def State.inOpenSlot (s : State) : Bool :=
  s.line.slot == some .k3 && s.line.poll.isNone && !s.line.pulse

/-- R67, R74, R84: an alarm frame can be completed: in the open slot, once, while no other device holds the
line. -/
def State.alarmHeard (s : State) : Bool := s.inOpenSlot && !s.line.alarm && s.line.stretch.isNone

/-- R74: an alarm frame that is completed is applied while its station is ONLINE. -/
def State.alarmTaken (s : State) (k : Station) (r : StationReport) : Bool :=
  s.alarmHeard && (s.station k).state == .online && reportFits k r

/-- R74: an alarm frame has been completed in the open slot. -/
def State.markAlarm (s : State) : State := s.setLine { s.line with alarm := true }

/-- R74: the partial status report of an alarm frame. -/
def State.takeAlarm (s : State) (k : Station) (r : StationReport) : State :=
  (s.reportMachinery k r).reportFaces k r

/-! ### Frames in octets (R67) -/

/-- R67, R69: an answer of a station can arrive: its poll was sent and is in progress. -/
def State.answerDue (s : State) (k : Station) : Bool :=
  s.line.stretch.isNone && (match s.pollOf k with | some p => p.sent | none => false)

/-- R67: the part discards a frame that fails its check, names a line address other than 1 to 4, or arrives
outside the slot in which its kind may be sent. -/
def State.discards (s : State) (octets : List Octet) : Bool :=
  match lineSender octets with
  | some k => !s.answerDue k && !s.alarmHeard
  | none => true

/-! ### Line rate and halt pulse (R68, R83) -/

/-- R68: every station that is not LOST becomes UNSYNCED with count 0, in the order 0 to 3 (log 27). -/
def State.unsyncAll (s : State) : State :=
  allStations.foldl
    (fun s k => if (s.station k).state = .lost then s else s.enterStation k .unsynced 0) s

/-- R68: a change of rate. -/
def State.changeRate (s : State) (r : LineRate) : State :=
  let s := s.abortRound
  (s.setLine { s.line with rate := r }).unsyncAll

/-- R79: empty the four station command queues. -/
def State.emptyQueues (s : State) : State := allStations.foldl (fun s k => s.setQueue k []) s

/-- R83: the Station Line Controller at an entry into HALTED. -/
def State.lineHalted (s : State) (c : HaltCause) : State :=
  let s := if c = .lineHalt then s
    else
      let t := s.abortRound
      t.setLine { t.line with pulse := true }
  let s := s.emptyQueues
  if s.line.rate = .fast then s.changeRate .slow else s

/-! ### RESET STATION and READ STATION (R80, R85) -/

/-- R80: the reset entry joins at the tail, or is left where it stands. -/
def State.placeStationReset (s : State) (k : Station) : State :=
  s.setQueue k (placeReset (s.station k).queue)

/-- R80: the current step of a batch that is not suspended uses an item of the station. -/
def State.stationInUse (s : State) (k : Station) : Bool :=
  s.traffic.batches.any fun b => !b.suspended && stepUsesStation b.current k

/-- The first five octets of the summary, which READ FLIGHT carries too. -/
def State.stationHead (s : State) (k : Station) : List Field :=
  [num 1 (stationCode k), num 1 (stationStateCode (s.station k).state), num 1 (s.station k).failed,
    num 1 (rateCode s.line.rate), flag (s.mach.inLocal.get k)]

def bit (b : Bool) (n : Nat) : Nat := if b then 2 ^ n else 0

/-- 12.5: an item block of 12 octets. -/
def State.itemBlock (s : State) (i : Item) : List Field :=
  let r := s.item i
  [opt 1 (r.position.map positionCode), num 1 (commandCode r.command)] ++
    match r.movement with
    | none => [opt 1 none, opt 1 none, opt 1 none, opt 1 none, opt 2 none, opt 2 none, opt 1 none,
        opt 1 none]
    | some m =>
      [num 1 (phaseMoveCode m.phase), num 1 (moveTargetCode m.target),
        num 1 (bit m.queued 0 + bit m.unanswered 1 + bit (m.owner == .protective) 2 + bit m.placed 3),
        num 1 m.resumptions, num 2 ((travelElapsed s.now m.travel).getD 0),
        opt 2 (s.remaining m.startLimit), opt 1 ((ownerBatch m.owner).map (·.1)),
        opt 1 ((ownerBatch m.owner).map fun p => stepCodeOf p.2)]

/-- 12.5: a face block of 9 octets. -/
def State.faceBlock (s : State) (f : Face) : List Field :=
  let r := s.face f
  [num 1 (aspectCode r.commanded), opt 1 (r.reported.map aspectCode),
    opt 1 (r.lamp.map fun b => if b then 0 else 1), opt 2 (s.elapsedSince r.stopSince),
    opt 1 (r.request.map (·.1)), opt 1 (r.request.map fun p => stepCodeOf p.2),
    opt 1 (r.stopWait.map (·.1)), opt 1 (r.stopWait.map fun p => stepCodeOf p.2)]

def inputField (v : Option Bool) : Field := opt 1 (v.map fun b => if b then 1 else 0)

/-- What a queue entry carries, in its second octet; nothing for a reset (log 12). -/
def commandPayload : Command → Option Nat
  | .item _ o => some (orderCode o)
  | .face _ a => some (aspectCode a)
  | .reset => none

/-- 12.5: a queue entry of 2 octets. -/
def entryFields (e : QueueEntry) : List Field :=
  [num 1 (slotCode e.command + bit e.failed 7), opt 1 (commandPayload e.command)]

/-- 12.5: the six places for queue entries, unused ones 0xFFFF. -/
def queueFields (q : List QueueEntry) : List Field :=
  (q.take 6).flatMap entryFields ++
    (List.replicate (6 - min 6 q.length) [opt 1 none, opt 1 none]).flatten

/-- 12.5: the station status summary, 85 octets. -/
def State.stationSummary (s : State) (k : Station) : List Field :=
  let above := match chamberAbove k with
    | some c => (s.chamber c).lower
    | none => s.level.headReading
  let below := match chamberBelow k with
    | some c => (s.chamber c).upper
    | none => s.level.tailReading
  let modes := s.mach.modes.get k
  s.stationHead k ++ [opt 2 above, opt 2 below] ++
    s.itemBlock (.gate k) ++ s.itemBlock (.sluice k) ++
    (match stationByWash k with
      | some w => s.itemBlock (.byWash w)
      | none => List.replicate 12 (opt 1 none)) ++
    (allInputs.map fun i => inputField (s.held k i)) ++
    [num 1 (modeCode modes.obstruction), num 1 (modeCode modes.overload), num 1 (modeCode modes.ice),
      opt 2 (s.remaining (s.mach.overload.get k).expiry)] ++
    s.faceBlock ⟨k, .upper⟩ ++ s.faceBlock ⟨k, .lower⟩ ++
    num 1 (s.station k).queue.length :: queueFields (s.station k).queue

end Sys2Proof.Machine
end

