-- ==== Sys2Proof/Machine/Tolls.lean ====
section
/-! DEFINITION. The Toll Unit and the Receipt Store (chapters 10 and 11): editions (R151 to R155),
dues (R156 to R159), the water charge and its split (R160, R161), assessment (R162), quotes (R164),
receipts (R165 to R170), the day account (R171, R172) and the clock (R173). -/

namespace Sys2Proof.Machine

def natSum (xs : List Nat) : Nat := xs.foldr (· + ·) 0

/-! ### Editions (R151 to R155) -/

def ascending : List Nat → Bool
  | a :: b :: rest => decide (a < b) && ascending (b :: rest)
  | _ => true

/-- R151, R152: an edition SET TARIFF accepts. -/
def editionValid (e : Edition) : Bool :=
  decide (1 ≤ e.number) && decide (e.number ≤ 65535) &&
    decide (1 ≤ e.bands.length) && decide (e.bands.length ≤ 8) &&
    e.bands.all (fun b => decide (1 ≤ b.bound) && decide (b.bound ≤ 9999) && decide (b.base ≤ 999999)) &&
    ascending (e.bands.map (·.bound)) &&
    (match e.bands.getLast? with | some b => decide (1350 ≤ b.bound) | none => false) &&
    e.rates.all (fun r => decide (r ≤ 10000)) && decide (e.waterRate ≤ 100000) &&
    decide (e.nightStart ≤ 1439) && decide (e.nightEnd ≤ 1439) &&
    decide (e.nightPercent ≤ 200) && decide (e.priorityPercent ≤ 200) &&
    decide (e.minDues ≤ 9999999) && decide (e.maxDues ≤ 9999999) && decide (e.minDues ≤ e.maxDues)

/-- R151: the edition a batch refers to, in the current or the previous slot. -/
def State.editionOf (s : State) (n : Nat) : Option Edition :=
  match s.toll.current with
  | some e => if e.number = n then some e
      else match s.toll.previous with
        | some p => if p.number = n then some p else none
        | none => none
  | none =>
    match s.toll.previous with
    | some p => if p.number = n then some p else none
    | none => none

/-- R154, R155: the batches that refer to an edition number. -/
def State.batchesUnder (s : State) (n : Nat) : Nat :=
  (s.traffic.batches.filter fun b => b.edition == n).length

/-- R154: the slots after a switch. -/
def switchSlots (t : Tolls) : Tolls :=
  { t with current := t.pending, previous := t.current, pending := none }

/-- R120: the night flag of an admission at a time of day under an edition. -/
def isNight (e : Edition) (clock : Nat) : Bool :=
  let m := clock / 60
  if e.nightStart < e.nightEnd then decide (e.nightStart ≤ m) && decide (m < e.nightEnd)
  else if e.nightEnd < e.nightStart then decide (e.nightStart ≤ m) || decide (m < e.nightEnd)
  else false

/-! ### Dues (R156 to R159) -/

/-- The items of one vessel's dues. The surcharge amount is absent for a SERVICE vessel only (R159). -/
structure Dues where
  base : Nat
  tonnage : Nat
  surcharge : Option Nat
  clamp : Option Clamp
  dues : Nat
  deriving DecidableEq, Repr

/-- R156: the base charge of a length. -/
def baseCharge (e : Edition) (length : Nat) : Nat :=
  match e.bands.find? fun b => decide (length ≤ b.bound) with
  | some b => b.base
  | none => 0

/-- R156: the tonnage charge. -/
def tonnageCharge (e : Edition) (deadweight cargo : Nat) : Nat :=
  divHalfUp (deadweight * e.rates.getD cargo 0) 10

/-- R157: the surcharge percent. -/
def surchargePercent (e : Edition) (p : Priority) (night : Bool) : Nat :=
  (if night then e.nightPercent else 0) + (if p = .priority then e.priorityPercent else 0)

/-- R157: the surcharged dues. -/
def surcharged (dues0 percent : Nat) : Nat := divHalfUp (dues0 * (100 + percent)) 100

/-- R158: the dues held within bounds, and the clamp adjustment. -/
def clampDues (e : Edition) (dues1 : Nat) : Nat × Option Clamp :=
  if dues1 < e.minDues then (e.minDues, some (.raise (e.minDues - dues1)))
  else if e.maxDues < dues1 then (e.maxDues, some (.cut (dues1 - e.maxDues)))
  else (dues1, none)

/-- R156 to R159: the dues of a vessel. -/
def duesFor (e : Edition) (length deadweight cargo : Nat) (p : Priority) (night : Bool) : Dues :=
  let base := baseCharge e length
  let tonnage := tonnageCharge e deadweight cargo
  if p = .service then { base, tonnage, surcharge := none, clamp := none, dues := 0 }
  else
    let dues1 := surcharged (base + tonnage) (surchargePercent e p night)
    let extra := dues1 - (base + tonnage)
    { base, tonnage, surcharge := some extra
      clamp := (clampDues e dues1).2, dues := (clampDues e dues1).1 }

/-- R157, R165: a receipt records a surcharge amount of 0 as absent. -/
def recordedSurcharge (d : Dues) : Option Nat := d.surcharge.filter fun n => n != 0

/-! ### The water charge (R160) and its split (R161) -/

/-- A volume, a charge and whether it was capped. -/
structure Water where
  volume : Nat
  charge : Nat
  capped : Bool
  deriving DecidableEq, Repr

/-- R160: the charge for a volume under a water rate. -/
def chargeFor (volume rate : Nat) : Water :=
  let c := divHalfUp (volume * rate) 100
  { volume, charge := min c Config.chargeLimit, capped := decide (Config.chargeLimit < c) }

/-- R160: the volume and charge of a rise of C1 with a plan area. -/
def waterFor (area rise rate : Nat) : Water := chargeFor (divHalfUp (area * rise) 1000) rate

/-- C1's plan area; R2 keeps it while a batch stands in the table. -/
def State.areaC1 (s : State) : Nat :=
  match (s.chamber .c1).config with
  | some g => g.area
  | none => 0

/-- R160, R163: the water of a batch. -/
def State.batchWater (s : State) (b : Batch) : Water :=
  waterFor s.areaC1 b.meter.rise (match s.editionOf b.edition with | some e => e.waterRate | none => 0)

/-- R161: a sharer's rank among the lengths `ls`: how many of them stand before sharer `i`, by greater
remainder numerator, or by equal numerator and smaller entry position. -/
def shareRank (remainder : Nat → Nat) (n i : Nat) : Nat :=
  ((List.range n).filter fun j =>
    decide (remainder i < remainder j) || (decide (remainder j = remainder i) && decide (j < i))).length

/-- R161: the shares of a charge among sharers of the given lengths, in entry order. -/
def waterShares (cw : Nat) (ls : List Nat) : List Nat :=
  let total := natSum ls
  let floor := fun i => cw * ls.getD i 0 / total
  let rem := fun i => cw * ls.getD i 0 % total
  let leftover := cw - natSum ((List.range ls.length).map floor)
  (List.range ls.length).map fun i =>
    floor i + (if shareRank rem ls.length i < leftover then 1 else 0)

def isSharer (p : Passage) : Bool := p.priority != .service

/-- R161: give the shares to the members in entry order; a SERVICE member has none. -/
def spreadShares : List Passage → List Nat → List (Option Nat)
  | [], _ => []
  | p :: ps, shares =>
    if isSharer p then
      match shares with
      | [] => some 0 :: spreadShares ps []
      | x :: xs => some x :: spreadShares ps xs
    else none :: spreadShares ps shares

/-- R161: the shares of the members. -/
def memberShares (cw : Nat) (ms : List Passage) : List (Option Nat) :=
  spreadShares ms (waterShares cw ((ms.filter isSharer).map (·.length)))

/-! ### Assessment (R162, R163, R167) -/

/-- R162, R165: one member's receipt. -/
def receiptFor (e : Edition) (b : Batch) (w : Water) (day number : Nat) (p : Passage)
    (share : Option Nat) : Receipt :=
  let d := duesFor e p.length p.deadweight p.cargo p.priority b.night
  { day := day, number := number, passage := p.number, reference := p.reference
    direction := b.direction, batch := b.number, edition := b.edition, night := b.night
    length := p.length, deadweight := p.deadweight, cargo := p.cargo, priority := p.priority
    base := d.base, tonnage := d.tonnage, surcharge := recordedSurcharge d, clamp := d.clamp, dues := d.dues
    share := share, fee := d.dues + share.getD 0, volume := w.volume, charge := w.charge
    estimated := b.meter.estimated, capped := w.capped }

/-- R167: the receipts of a batch, numbered from `number`. -/
def receiptsFor (e : Edition) (b : Batch) (w : Water) (day : Nat) :
    Nat → List Passage → List (Option Nat) → List Receipt
  | _, [], _ => []
  | n, p :: ps, shares =>
    receiptFor e b w day n p (shares.headD none) :: receiptsFor e b w day (n + 1) ps (shares.drop 1)

/-- R171: add to a total, saturating; true when it saturates. -/
def addSat (limit a b : Nat) : Nat × Bool := (min limit (a + b), decide (limit < a + b))

/-- R162, R171: what the day account is handed. -/
structure HandOver where
  dues : Nat
  allocated : Nat
  fees : Nat
  charge : Nat
  unallocated : Nat
  volume : Nat
  direction : Direction
  batches : Nat
  vessels : Nat
  issued : Nat
  deriving DecidableEq, Repr

/-- R171: the account after a hand-over. -/
def addAccount (a : DayAccount) (h : HandOver) : DayAccount :=
  let charge := addSat Config.totalLimit a.waterCharges h.charge
  let unalloc := addSat Config.totalLimit a.unallocated h.unallocated
  let volume := addSat Config.totalLimit a.volume h.volume
  let up := decide (h.direction = .up)
  let bu := addSat Config.countLimit a.batchesUp (if up then h.batches else 0)
  let bd := addSat Config.countLimit a.batchesDown (if up then 0 else h.batches)
  let vu := addSat Config.countLimit a.vesselsUp (if up then h.vessels else 0)
  let vd := addSat Config.countLimit a.vesselsDown (if up then 0 else h.vessels)
  { a with
    issued := a.issued + h.issued
    dues := a.dues + h.dues, waterAllocated := a.waterAllocated + h.allocated
    fees := a.fees + h.fees
    waterCharges := charge.1, unallocated := unalloc.1, volume := volume.1
    batchesUp := bu.1, batchesDown := bd.1, vesselsUp := vu.1, vesselsDown := vd.1
    capped := a.capped || charge.2 || unalloc.2 || volume.2 || bu.2 || bd.2 || vu.2 || vd.2 }

/-- R162: the totals of a completed batch from its receipts. -/
def totalsOf (b : Batch) (w : Water) (rs : List Receipt) : HandOver :=
  let allocated := natSum (rs.map fun r => r.share.getD 0)
  { dues := natSum (rs.map (·.dues)), allocated := allocated
    fees := natSum (rs.map (·.fee)), charge := w.charge
    unallocated := if b.members.any isSharer then 0 else w.charge
    volume := w.volume, direction := b.direction, batches := 1, vessels := b.members.length
    issued := b.members.length }

/-- R163: the totals of an abandoned batch. -/
def abandonTotals (b : Batch) (w : Water) : HandOver :=
  { dues := 0, allocated := 0, fees := 0, charge := w.charge, unallocated := w.charge
    volume := w.volume, direction := b.direction, batches := 0, vessels := 0, issued := 0 }

def State.setAccount (s : State) (a : DayAccount) : State := { s with toll := { s.toll with account := a } }

/-- An edition with no charges: what an assessment would use were a batch's edition missing; R154 keeps
every batch's edition in the current or previous slot. -/
def noEdition : Edition :=
  { number := 0, bands := [], rates := [], waterRate := 0, nightStart := 0, nightEnd := 0
    nightPercent := 0, priorityPercent := 0, minDues := 0, maxDues := 0 }

/-- R162: the receipts of a batch completed now. -/
def State.batchReceipts (s : State) (b : Batch) : List Receipt :=
  let w := s.batchWater b
  receiptsFor ((s.editionOf b.edition).getD noEdition) b w s.toll.account.day
    (s.toll.account.issued + 1) b.members (memberShares w.charge b.members)

/-- R162, R167: write the receipts and hand the totals to the day account. -/
def State.assess (s : State) (b : Batch) : State :=
  let rs := s.batchReceipts b
  let t := s.setAccount (addAccount s.toll.account (totalsOf b (s.batchWater b) rs))
  { t with receipts := { t.receipts with queue := t.receipts.queue ++ rs } }

/-! ### Near-full and hold (R168) -/

/-- R168: RECEIPTS NEAR FULL; an empty queue has no oldest receipt to show (log 12). -/
def State.noticeReceipts (s : State) : State :=
  s.notify .receiptsNearFull 0
    [num 1 1, nearFullField s.receipts.nearFull, num 1 s.receipts.queue.length, num 1 s.freeSlots,
      opt 2 (s.receipts.queue.head?.map (·.day)), opt 3 (s.receipts.queue.head?.map (·.number))]

/-- R168: the near-full indication evaluated. -/
def State.evaluateReceipts (s : State) : State :=
  let n := decide (s.receiptThreshold ≤ s.receipts.queue.length)
  if n = s.receipts.nearFull then s
  else
    ({ s with receipts := { s.receipts with
        nearFull := n
        repeatTimer := if n then some (s.after Config.receiptsRepeat) else none } } : State).noticeReceipts

/-- R168: RECEIPT HOLD follows the free slot count. -/
def State.evaluateHold (s : State) : State :=
  let h := decide (s.freeSlots = 0)
  if h = s.receipts.hold then s
  else
    ({ s with receipts := { s.receipts with hold := h } } : State).notify .receiptHold 0 [num 1 2, flag h]

/-- R168: the repeat timer expires; nothing when it is stopped. -/
def State.endReceiptsRepeat (s : State) : State :=
  match s.receipts.repeatTimer with
  | none => s
  | some e =>
    let t := s.reach e
    ({ t with receipts := { t.receipts with
        repeatTimer := some (t.after Config.receiptsRepeat) } } : State).noticeReceipts

/-! ### Release, day and clock (R170, R172, R173) -/

/-- R170: the receipts newer than the one named; none when no receipt carries the pair. -/
def releaseUpTo (day number : Nat) : List Receipt → Option (List Receipt)
  | [] => none
  | r :: rest => if r.day = day ∧ r.number = number then some rest else releaseUpTo day number rest

/-- R172: the account of the new day. -/
def openDay (a : DayAccount) (clock : Nat) : DayAccount :=
  { emptyAccount with day := nextNumber 9999 a.day, opened := clock }

/-- R173: the clock advances by one second. -/
def advanceClock (c : Nat) : Nat := if 86399 ≤ c then 0 else c + 1

/-! ### Quotes (R164) -/

/-- R164: the nominal water of one full lift of C1. -/
def State.nominalWater (s : State) (e : Edition) : Option Water :=
  (s.chamber .c1).config.map fun g => waterFor g.area (g.full - g.low) e.waterRate

/-- R164: the data of a quote. -/
def State.quoteFields (s : State) (e : Edition) (v : VesselArgs) (p : Priority) (night : Bool) :
    List Field :=
  let d := duesFor e v.length v.deadweight v.cargo p night
  let w := s.nominalWater e
  let share := if p = .service then none else w.map (·.charge)
  [num 2 e.number, num 3 d.base, num 3 d.tonnage, opt 4 d.surcharge, (clampFields d.clamp).1,
    (clampFields d.clamp).2, num 3 d.dues, opt 3 (w.map (·.volume)), opt 3 (w.map (·.charge)),
    opt 3 share, flag (match w with | some x => x.capped | none => false), num 4 (d.dues + share.getD 0)]

/-! ### Reads (R155, R169, R174) -/

/-- R155: the edition of a slot with the number of batches that refer to it; an empty slot shows no edition
and the number 0 (log 12). -/
def slotFields (slot : Option Edition) (batches : Edition → Nat) : List Field :=
  match slot with
  | none => [flag false, num 1 0]
  | some e => flag true :: editionFields e ++ [num 1 (batches e)]

/-- R155: the current or the previous slot. -/
def State.tariffFields (s : State) (slot : Option Edition) : List Field :=
  slotFields slot fun e => s.batchesUnder e.number

/-- R155: the pending slot, to whose edition no batch refers (R151, R153). -/
def pendingFields (slot : Option Edition) : List Field := slotFields slot fun _ => 0

/-- R169, in the layout of 12.5. -/
def State.peekFields (s : State) (n : Nat) : List Field :=
  let rs := s.receipts.queue.take n
  num 1 s.receipts.queue.length :: num 1 rs.length :: rs.flatMap receiptFields

/-- R174, in its order. -/
def State.totalFields (s : State) : List Field :=
  let q := s.receipts.queue
  accountFields s.toll.account ++ [num 3 s.toll.clock, num 1 q.length, num 1 s.reserved] ++
    collection (fun b => [num 1 b.members.length]) s.traffic.batches ++
    [num 1 s.freeSlots, num 3 s.numbersLeft, nearFullField s.receipts.nearFull, num 1 s.receiptThreshold,
      opt 1 (s.remaining s.receipts.repeatTimer), flag s.receipts.hold,
      opt 2 (q.head?.map (·.day)), opt 3 (q.head?.map (·.number)),
      opt 2 (q.getLast?.map (·.day)), opt 3 (q.getLast?.map (·.number))]

end Sys2Proof.Machine
end

