-- ==== Sys2Proof/Machine/Traffic.lean ====
section
/-! DEFINITION. The Traffic Scheduler (chapters 7 and 8): vessel particulars (R99, R102), queue order
(R103), charge indications (R105), skip counts (R108), admission opportunities (R114, R115), direction
choice (R116), packing (R117, R118), admission (R119), keeper orders (R122, R123). -/

namespace Sys2Proof.Machine

def State.setTraffic (s : State) (t : Traffic) : State := { s with traffic := t }

/-! ### Vessel particulars (R99, R102) -/

def between (lo hi v : Nat) : Bool := decide (lo ≤ v) && decide (v ≤ hi)

def referenceValid (r : List Octet) : Bool :=
  between 1 12 r.length && r.all fun (o : Octet) => between 0x20 0x7E o.toNat

/-- R99: the measures of a vessel within their values; the reserved octet is 0 (12.5). -/
def measuresValid (v : VesselArgs) : Bool :=
  between 50 1350 v.length && between 20 150 v.beam && between 30 400 v.draught &&
    decide (v.deadweight ≤ 4000) && decide (v.cargo ≤ 7) && decide (v.reserved = 0)

/-- R102: the flight dimensions a vessel must keep within; the first reason that applies. -/
def State.unfit (s : State) (length beam draught : Nat) : Option RefuseCode :=
  match s.flightDims with
  | none => some .notConfigured
  | some d =>
    if d.usable < length then some .tooLong
    else if d.width < beam + 4 then some .tooWide
    else if d.sill < draught + 30 then some .tooDeep
    else none

/-- R117: a candidate is eligible under the present flight dimensions. -/
def State.eligible (s : State) (p : Passage) : Bool := (s.unfit p.length p.beam p.draught).isNone

/-! ### Queue order (R103) -/

def firstGroup (p : Passage) : Bool := p.priority != .ordinary

/-- R103: whether a record stands before another. -/
def standsBefore (a b : Passage) : Bool :=
  if firstGroup a = firstGroup b then decide (a.stamp ≤ b.stamp) else firstGroup a

/-- R103: place a record in a queue, behind the records that stand before it. -/
def placePassage (p : Passage) : List Passage → List Passage
  | [] => [p]
  | q :: rest => if standsBefore q p then q :: placePassage p rest else p :: q :: rest

/-- The position of a passage in a queue, from 0 at the head. -/
def positionOf (n : Nat) : List Passage → Nat
  | [] => 0
  | p :: rest => if p.number = n then 0 else positionOf n rest + 1

/-! ### Numbers (R100) -/

/-- R100: renumber the stamps of all records held from 1 upward, keeping their order. -/
def State.stampRank (s : State) (p : Passage) : Nat :=
  (s.allPassages.filter fun q => decide (q.stamp ≤ p.stamp)).length

def State.renumber (s : State) : State :=
  let f := fun (p : Passage) => { p with stamp := s.stampRank p }
  s.setTraffic { s.traffic with
    up := s.traffic.up.map f, down := s.traffic.down.map f
    batches := s.traffic.batches.map fun b => { b with members := b.members.map f }
    nextStamp := s.allPassages.length + 1 }

/-- R100: the stamps are renumbered when the next would exceed 65,535. -/
def State.stampReady (s : State) : State := if 65535 < s.traffic.nextStamp then s.renumber else s

/-- R102: the record of an accepted registration. -/
def State.newPassage (s : State) (v : VesselArgs) (d : Direction) (p : Priority) : Passage :=
  { number := freeNumber 65535 (s.allPassages.map (·.number)) 57 s.traffic.nextPassage
    reference := v.reference, direction := d, length := v.length, beam := v.beam
    draught := v.draught, deadweight := v.deadweight, cargo := v.cargo, priority := p
    arrivalDay := s.toll.account.day, arrivalTime := s.toll.clock
    stamp := s.traffic.nextStamp, skips := 0, state := .queued, location := .queue, batch := none }

/-- R102: create the record and place it; the stamps are ready. The passage counter of R100 stands one past
the number given (log 28). -/
def State.addPassage (s : State) (p : Passage) : State :=
  let t := s.setQueueOf p.direction (placePassage p (s.queueOf p.direction))
  t.setTraffic { t.traffic with
    nextPassage := nextNumber 65535 p.number, nextStamp := t.traffic.nextStamp + 1 }

/-! ### Near-full (R105) -/

def State.nearFullOf (s : State) : Direction → Bool
  | .up => s.traffic.nearUp
  | .down => s.traffic.nearDown

def State.setNearFull (s : State) (d : Direction) (v : Bool) : State :=
  match d with
  | .up => s.setTraffic { s.traffic with nearUp := v }
  | .down => s.setTraffic { s.traffic with nearDown := v }

/-- R105: evaluate a queue's near-full indication. -/
def State.evaluateQueue (s : State) (d : Direction) : State :=
  let n := decide (s.nearFullThreshold ≤ s.charge d)
  if n = s.nearFullOf d then s
  else
    (s.setNearFull d n).notify .queueNearFull (directionCode d)
      [num 1 (directionCode d), nearFullField n, num 1 (s.charge d), num 1 (s.queueOf d).length]

/-! ### Skip counts (R108) -/

/-- R108: increase a skip count, up to the limit. -/
def raiseSkips (limit : Nat) (p : Passage) : Passage := { p with skips := min limit (p.skips + 1) }

/-- R108: raise the counts of records of the queue standing ahead of a member and not members. -/
def skipAhead (limit : Nat) (members : List Nat) : List Passage → List Passage
  | [] => []
  | p :: rest =>
    if !members.contains p.number && rest.any fun q => members.contains q.number then
      raiseSkips limit p :: skipAhead limit members rest
    else p :: skipAhead limit members rest

/-- R109: a lowered skip limit lowers the counts above it. -/
def lowerSkips (limit : Nat) (p : Passage) : Passage := { p with skips := min limit p.skips }

/-- R109: lower the counts of every record held. -/
def State.lowerAllSkips (s : State) (limit : Nat) : State :=
  s.setTraffic { s.traffic with
    up := s.traffic.up.map (lowerSkips limit), down := s.traffic.down.map (lowerSkips limit)
    batches := s.traffic.batches.map fun b => { b with members := b.members.map (lowerSkips limit) } }

/-! ### Packing (R117, R118) -/

/-- R117: the batch length of a set of members. -/
def batchLength (spacing : Nat) : List Passage → Nat
  | [] => 0
  | [p] => p.length
  | ps => natSum (ps.map fun p => p.length + spacing)

/-- R117: whether a set fits the flight usable length. -/
def State.setFits (s : State) (ps : List Passage) : Bool :=
  match s.flightDims with
  | some d => decide (batchLength s.traffic.spacing ps ≤ d.usable)
  | none => false

/-- R118: the walk over a queue: the members added, in order. -/
def State.walk (s : State) (limit : Nat) : List Passage → List Passage → List Passage
  | [], set => set
  | p :: rest, set =>
    if limit ≤ set.length then set
    else if s.eligible p && s.setFits (set ++ [p]) then s.walk limit rest (set ++ [p])
    else if p.skips < s.traffic.skipLimit then s.walk limit rest set
    else set

/-- R117, R118: the members packed from a queue. -/
def State.pack (s : State) (d : Direction) : List Passage :=
  s.walk (min Config.memberLimit s.freeSlots) (s.queueOf d) []

/-! ### Opportunity and direction (R114, R116) -/

/-- R114: the conditions common to both modes and both ways of taking a batch. -/
def State.admissionOpen (s : State) : Bool :=
  isRunning s && s.toll.current.isSome && s.flightDims.isSome && !s.level.riverHold

/-- R114: the one batch in the table that a follow-on could follow, and its direction. -/
def State.leader (s : State) : Option Batch :=
  match s.traffic.batches with
  | [b] => if s.traffic.followOn && b.cleared then some b else none
  | _ => none

/-- R116: the keep conditions of a direction. -/
def State.keeps (s : State) (d : Direction) : Bool :=
  let o := otherDirection d
  !(s.queueOf d).isEmpty &&
    (decide (s.traffic.consecutive < s.traffic.quota) || (s.queueOf o).isEmpty) &&
    !(s.queueOf o).any firstGroup

/-- R116: with no last direction and both queues holding records. -/
def State.firstDirection (s : State) : Option Direction :=
  match s.traffic.up, s.traffic.down with
  | [], [] => none
  | _ :: _, [] => some .up
  | [], _ :: _ => some .down
  | u :: _, w :: _ =>
    if firstGroup u && !firstGroup w then some .up
    else if firstGroup w && !firstGroup u then some .down
    else if u.stamp < w.stamp then some .up else some .down

/-- R116: the direction choice with the table empty. -/
def State.emptyChoice (s : State) : Option Direction :=
  match s.traffic.lastDirection with
  | none => s.firstDirection
  | some d =>
    if s.keeps d then some d
    else if (s.queueOf (otherDirection d)).isEmpty then none else some (otherDirection d)

/-- R114, R115: the members of the batch an AUTOMATIC evaluation admits; none for no admission. -/
def State.automaticBatch (s : State) : Option (Direction × List Passage) :=
  if s.freeSlots = 0 then none
  else
    match s.traffic.batches with
    | [] =>
      match s.emptyChoice with
      | none => none
      | some d =>
        match s.pack d, s.pack (otherDirection d) with
        | [], [] => none
        | [], ms => some (otherDirection d, ms)
        | ms, _ => some (d, ms)
    | _ =>
      match s.leader with
      | none => none
      | some b =>
        if s.keeps b.direction then
          match s.pack b.direction with
          | [] => none
          | ms => some (b.direction, ms)
        else none

/-! ### Keeper orders (R122, R123) -/

/-- The QUEUED record with a passage number, in either queue. -/
def State.queued? (s : State) (n : Nat) : Option Passage :=
  (s.traffic.up ++ s.traffic.down).find? fun p => p.number == n

/-- The records an order names, in the order named. -/
def State.orderRecords (s : State) (ns : List Nat) : List Passage := ns.filterMap s.queued?

/-- R122, R123: every named vessel is eligible and the named set fits. -/
def State.orderFits (s : State) (ns : List Nat) : Bool :=
  let ps := s.orderRecords ns
  decide (ps.length = ns.length) && ps.all s.eligible && s.setFits ps

/-- R114: an opportunity exists for the order. -/
def State.orderOpen (s : State) (o : KeeperOrder) : Bool :=
  s.admissionOpen && decide (o.passages.length ≤ s.freeSlots) &&
    (s.traffic.batches.isEmpty ||
      (match s.leader with | some b => b.direction == o.direction | none => false))

/-- R123: discard the pending order. -/
def State.discardOrder (s : State) : State := s.setTraffic { s.traffic with order := none }

/-! ### Admission (R119) -/

/-- R119: a member of a new batch. -/
def admitted (batch pos : Nat) (p : Passage) : Passage :=
  { p with state := .admitted, location := .approach, batch := some (batch, pos) }

/-- R119: the members with their entry positions. -/
def admitAll (batch : Nat) : Nat → List Passage → List Passage
  | _, [] => []
  | pos, p :: ps => admitted batch pos p :: admitAll batch (pos + 1) ps

/-- R128: the step record of a step that begins in CLAIMING. -/
def StepRec.start : StepRec :=
  { phase := .claiming, claims := [], rounds := 0, roomMade := [], waterLimit := none
    moveWait := none, overdueSent := false, readySent := false }

/-- R112: a batch record at admission. -/
def State.newBatch (s : State) (d : Direction) (e : Edition) (ms : List Passage) : Batch :=
  let n := freeNumber 255 (s.traffic.batches.map (·.number)) 3 s.traffic.nextBatch
  { number := n, direction := d, members := admitAll n 1 ms
    admitDay := s.toll.account.day, admitTime := s.toll.clock
    night := isNight e s.toll.clock, edition := e.number, reasons := [], position := .one
    moved := false, preparation := []
    meter := { rise := 0, segment := none, estimated := false, startUpMark := false }
    entered := false, cleared := false, step := some StepRec.start }

/-- R116: the history after an admission. -/
def admitHistory (t : Traffic) (d : Direction) : Traffic :=
  if t.lastDirection = some d then { t with consecutive := min 255 (t.consecutive + 1) }
  else { t with lastDirection := some d, consecutive := 1 }

/-- R119: BATCH ADMITTED. -/
def State.noticeAdmitted (s : State) (b : Batch) : State :=
  s.notify .batchAdmitted b.number
    ([num 1 b.number, num 1 (directionCode b.direction)] ++
      collection (fun (p : Passage) => [num 2 p.number]) b.members ++ [num 2 b.edition, flag b.night])

/-- R113, R119: the admission of a batch of the given members. The counter stands one past the number given
(log 28), and BATCH ADMITTED goes before what the first step raises (log 27). -/
def State.admitBatch (s : State) (d : Direction) (ms : List Passage) : State :=
  match s.toll.current with
  | none => s
  | some e =>
    let b := s.newBatch d e ms
    let names := ms.map (·.number)
    let q := (skipAhead s.traffic.skipLimit names (s.queueOf d)).filter fun p => !names.contains p.number
    let s := s.setQueueOf d q
    let s := s.setTraffic (admitHistory
      { s.traffic with batches := s.traffic.batches ++ [b], nextBatch := nextNumber 255 b.number } d)
    s.noticeAdmitted b

/-- R115, R123: test the pending keeper order. -/
def State.testOrder (s : State) (o : KeeperOrder) : State :=
  if s.orderFits o.passages then
    if s.orderOpen o then s.discardOrder.admitBatch o.direction (s.orderRecords o.passages) else s
  else s.discardOrder

/-- R115: one evaluation of an admission opportunity; at most one batch is admitted. -/
def State.evaluateAdmission (s : State) : State :=
  match s.traffic.mode with
  | .closed => s
  | .keeper =>
    match s.traffic.order with
    | none => s
    | some o => s.testOrder o
  | .automatic =>
    if s.admissionOpen then
      match s.automaticBatch with
      | some (d, ms) => s.admitBatch d ms
      | none => s
    else s

/-! ### Abandonment (R126) -/

/-- R126: a member returned to its queue. -/
def returned (p : Passage) : Passage :=
  { p with state := .queued, location := .queue, batch := none }

/-- R126: return every member to the queue of its direction. -/
def State.returnMembers (s : State) (b : Batch) : State :=
  s.setQueueOf b.direction
    (b.members.foldl (fun q p => placePassage (returned p) q) (s.queueOf b.direction))

/-- Take a batch out of the table (R113). -/
def State.removeBatch (s : State) (n : Nat) : State :=
  s.setBatches (s.traffic.batches.filter fun b => b.number != n)

/-! ### Reads (R111, R180) -/

/-- The records from a position onward, at most `n`. -/
def window {α : Type} (start n : Nat) (xs : List α) : List α := (xs.drop start).take n

/-- Passages with their positions. -/
def numberFrom : Nat → List Passage → List (Nat × Passage)
  | _, [] => []
  | n, p :: ps => (n, p) :: numberFrom (n + 1) ps

/-- R111: whether a pending order names a vessel of the queue. -/
def State.orderNames (s : State) (d : Direction) : Bool :=
  match s.traffic.order with
  | some o => (s.queueOf d).any fun p => o.passages.contains p.number
  | none => false

/-- R111, in its order. -/
def State.queueReply (s : State) (d : Direction) (start : Nat) : List Field :=
  [num 1 (s.queueOf d).length, num 1 (s.charge d), nearFullField (s.nearFullOf d), num 1 s.nearFullThreshold,
    num 1 (flightModeCode s.traffic.mode)] ++
  collection (fun (x : Nat × Passage) => num 1 x.1 :: passageFields x.2)
    (numberFrom start (window start 6 (s.queueOf d))) ++
  [flag (s.orderNames d)]

/-- The pending order as a record: present or not, its numbers and its direction (R123), in the layout of log
12. -/
def orderFields : Option KeeperOrder → List Field
  | none => [flag false, num 1 0, opt 1 none]
  | some o => flag true :: collection (fun n => [num 2 n]) o.passages ++ [num 1 (directionCode o.direction)]

end Sys2Proof.Machine
end

