-- ==== Sys2Proof/Machine/Run.lean ====
section
/-! DEFINITION. The Run Controller (chapter 9): suspension (R145, R146), water metering (R149, R150),
water steps (R133 to R138), gate steps (R140 to R143), completion (R144), claims (R130, R131) and what
other blocks hand it. -/

namespace Sys2Proof.Machine

/-! ### Batches by number -/

/-- The batch with a number and its step record, while it is not suspended. -/
def State.active? (s : State) (n : Nat) : Option (Batch × StepRec) :=
  match s.batch? n with
  | some b =>
    match b.step with
    | some r => if b.suspended then none else some (b, r)
    | none => none
  | none => none

/-- Change the step record of a batch. -/
def State.modStep (s : State) (n : Nat) (f : StepRec → StepRec) : State :=
  s.modBatch n fun b => { b with step := b.step.map f }

def State.setPhase (s : State) (n : Nat) (p : Phase) : State := s.modStep n fun r => { r with phase := p }

/-! ### Suspension (R145, R146) -/

/-- R145: BATCH SUSPENDED with the step and the set of reasons. -/
def State.noticeSuspended (s : State) (b : Batch) (reasons : List Reason) : State :=
  s.notify .batchSuspended b.number
    [num 1 b.number, num 1 (stepCodeOf b.current), setField 2 reasonCode reasons]

/-- R145: add a reason to a batch's set; an addition that changes the set raises the notice. -/
def State.addReason (s : State) (n : Nat) (r : Reason) : State :=
  match s.batch? n with
  | none => s
  | some b =>
    if b.reasons.contains r then s
    else
      let rs := insertIn allReasons r b.reasons
      (s.modBatch n fun b => { b with reasons := rs }).noticeSuspended b rs

/-- R146: a not available answer to a request sent while making a batch safe adds its reason. -/
def addAnswer (n : Nat) (a : MoveAnswer × State) : State :=
  match a.1 with
  | .notAvailable r => a.2.addReason n r
  | _ => a.2

/-- R146: withdraw the target of a step that named one. -/
def State.withdrawTarget (s : State) (st : Step) (p : Phase) : State :=
  match stepWork st, p with
  | .water _ (.target c _), .opening => s.setTarget c none
  | .water _ (.target c _), .flowing => s.setTarget c none
  | _, _ => s

/-- R146: the requests that make a step safe while RUNNING. -/
def State.safeRequests (s : State) (n : Nat) (d : Direction) (st : Step) (p : Phase) : State :=
  match stepWork st, p with
  | .water path _, .opening | .water path _, .flowing | .water path _, .closing =>
    addAnswer n (s.requestMove path .shut (.batch n st))
  | .passage g, .opening | .passage g, .closing => s.requestStop (.gate g)
  | .passage g, .opened =>
    ((s.requestStop (.gate g)).requestFaceStop (entryFace d g) n st).withdrawStopWait (entryFace d g) n
  | .passage g, .stopping => (s.requestStop (.gate g)).withdrawStopWait (entryFace d g) n
  | _, _ => s

/-- R146: what the first reason does to the step record: limits stopped, marks cleared, claims
released. -/
def StepRec.halted (r : StepRec) : StepRec :=
  { r with claims := [], roomMade := [], waterLimit := none, moveWait := none }

/-- R146: make a batch safe; `b` is the batch before its first reason. -/
def State.makeSafe (s : State) (b : Batch) : State :=
  match b.step with
  | none => s.modBatch b.number fun x => { x with preparation := [] }
  | some r =>
    let s := s.withdrawTarget b.current r.phase
    let s := s.modBatch b.number fun x => { x with preparation := [], step := x.step.map StepRec.halted }
    if isRunning s then s.safeRequests b.number b.direction b.current r.phase else s

/-- R145, R146: suspend a batch for a reason. -/
def State.suspend (s : State) (n : Nat) (r : Reason) : State :=
  match s.batch? n with
  | none => s
  | some b => if b.suspended then s.addReason n r else (s.addReason n r).makeSafe b

/-! ### Water metering (R149, R150) -/

/-- R149: C1's level for a segment end, and whether it is estimated. -/
def State.meterLevel (s : State) : Option Nat × Bool :=
  match (s.chamber .c1).agreed with
  | some v => (some v, false)
  | none => ((s.chamber .c1).lastKnown, true)

/-- R149: open a segment when none is open. -/
def Meter.begin (m : Meter) (level : Option Nat × Bool) : Meter :=
  match m.segment with
  | some _ => m
  | none => { m with segment := some { start := level.1 }, estimated := m.estimated || level.2 }

/-- R149: the rise of a segment; 0 when negative or when an end has no level. -/
def segmentRise (start finish : Option Nat) : Nat :=
  match start, finish with
  | some a, some b => b - a
  | _, _ => 0

/-- R149, R150: close an open segment. A marked segment closes with ESTIMATED set. -/
def Meter.close (m : Meter) (level : Option Nat × Bool) : Meter :=
  match m.segment with
  | none => m
  | some g =>
    { rise := min Config.riseLimit (m.rise + segmentRise g.start level.1), segment := none
      estimated := m.estimated || level.2 || m.startUpMark || g.start.isNone || level.1.isNone
      startUpMark := false }

def State.openSegment (s : State) (n : Nat) : State :=
  s.modBatch n fun b => { b with meter := b.meter.begin s.meterLevel }

def State.closeSegment (s : State) (n : Nat) : State :=
  s.modBatch n fun b => { b with meter := b.meter.close s.meterLevel }

/-- R149: the SHUT report of S0 closes every open segment. -/
def State.closeSegments (s : State) : State :=
  s.setBatches (s.traffic.batches.map fun b => { b with meter := b.meter.close s.meterLevel })

/-- R150: the start-up close at a round end with C1's agreed level a value. -/
def State.startUpClose (s : State) : State :=
  if (s.chamber .c1).agreed.isSome then
    s.setBatches (s.traffic.batches.map fun b =>
      if b.meter.startUpMark then { b with meter := b.meter.close s.meterLevel } else b)
  else s

/-! ### The end of a step (R134, R137, R143, R144) -/

/-- R137: STEP DONE. -/
def State.noticeStepDone (s : State) (b : Batch) (moved : Bool) : State :=
  s.notify .stepDone b.number [num 1 b.number, num 1 (stepCodeOf b.current), flag moved]

/-- R134, R137, R143: the batch after its current step has ended: claims released, the sub-step off
the list or the run position advanced, the next step in CLAIMING. -/
def Batch.advance (b : Batch) : Batch :=
  match b.preparation with
  | x :: rest =>
    { b with
      preparation := rest
      step := b.step.map fun r =>
        { StepRec.start with rounds := r.rounds, roomMade := removeFrom (.sub x) r.roomMade } }
  | [] => { b with position := nextStep b.position, moved := false, step := some StepRec.start }

/-- R137: the end of a water step. -/
def State.endWaterStep (s : State) (b : Batch) (moved : Bool) : State :=
  let s := if stepItem b.current = .sluice .k0 then s.closeSegment b.number else s
  (s.noticeStepDone b moved).modBatch b.number Batch.advance

/-- R144: BATCH COMPLETE with the outcome COMPLETED (0); the outcome's codes are log 12's. -/
def State.noticeComplete (s : State) (b : Batch) (rs : List Receipt) (charge : Nat) : State :=
  s.notify .batchComplete b.number
    ([num 1 0, num 1 b.number] ++ collection (fun (p : Passage) => [num 2 p.number]) b.members ++
      collection (fun (r : Receipt) => [num 3 r.number]) rs ++
      [opt 2 (rs.head?.map (·.day)), num 3 charge])

/-- R144: a batch completes. BATCH COMPLETE is raised before the admission evaluation (log 27). -/
def State.completeBatch (s : State) (b : Batch) : State :=
  let rs := s.batchReceipts b
  let w := s.batchWater b
  let s := ((s.assess b).removeBatch b.number).evaluateReceipts
  (s.noticeComplete b rs w.charge).markAdmit

/-- R143: the end of a gate step. -/
def State.endGateStep (s : State) (b : Batch) : State :=
  let s := s.noticeStepDone b false
  if b.position = .eight then s.completeBatch b else s.modBatch b.number Batch.advance

/-- The end of the current step of a batch in CLOSING. -/
def State.endStep (s : State) (b : Batch) : State :=
  match stepWork b.current with
  | .water _ _ => s.endWaterStep b true
  | .passage _ => s.endGateStep b

/-- R137, R143: a close request of the current step, in CLOSING. -/
def State.requestClose (s : State) (n : Nat) : State :=
  match s.batch? n with
  | none => s
  | some b =>
    let s := s.setPhase n .closing
    let a := s.requestMove (stepItem b.current) .shut (.batch n b.current)
    match a.1 with
    | .complete => a.2.endStep b
    | .inProgress => a.2
    | .notAvailable r => a.2.suspend n r

/-! ### Water steps (R133 to R138) -/

/-- R137: enter FLOWING; the water step limit starts if it is not running. -/
def State.enterFlowing (s : State) (n : Nat) : State :=
  s.modStep n fun r =>
    { r with phase := .flowing
             waterLimit := match r.waterLimit with
               | some e => some e
               | none => some (s.after s.traffic.waterLimit) }

/-- R137: the target a sub-step names on entering OPENING. -/
def State.nameTarget (s : State) (st : Step) : State :=
  match stepWork st with
  | .water _ (.target c t) => s.setTarget c (some t)
  | _ => s

/-- R137: the open request of a water step. -/
def State.requestOpen (s : State) (b : Batch) : State :=
  let n := b.number
  let s := (s.setPhase n .opening).nameTarget b.current
  let a := s.requestMove (stepItem b.current) .opened (.batch n b.current)
  match a.1 with
  | .notAvailable r => a.2.suspend n r
  | .inProgress => a.2
  | .complete =>
    let t := if stepItem b.current = .sluice .k0 then a.2.openSegment n else a.2
    t.enterFlowing n

/-- R133: enter LEVEL WAIT, keeping the claims. -/
def State.levelWait (s : State) (n : Nat) : State := s.setPhase n .levelWait

/-- R133: the step returns to CLAIMING with its claims released and its limit stopped. -/
def StepRec.reclaim (r : StepRec) : StepRec :=
  { r with phase := .claiming, claims := [], waterLimit := none }

/-- R134: the recipe of a failed condition. -/
def State.recipe (s : State) (c : Chamber) (t : LevelTarget) : List SubStep :=
  match c, t with
  | .c1, .full => [.fillC1]
  | .c2, .full => if s.inBand .c1 .full then [.equaliseC1C2] else [.fillC1, .equaliseC1C2]
  | .c2, .low => [.makeC2Low]
  | .c3, .low => [.makeC3Low]
  | .c1, .low => []
  | .c3, .full => []

/-- The fault of a water step that cannot proceed, and the suspension it brings (R135, R136, R138). -/
def State.stepFault (s : State) (b : Batch) (k : FaultKind) (c : Chamber) (r : Reason) : State :=
  (s.raiseFault k (.chamber c) true true (stepItem b.current) (some (b.number, b.current))).suspend
    b.number r

/-- R134, R135: build a preparation list in front of the main step, or give up after three rounds. -/
def State.buildList (s : State) (b : Batch) (r : StepRec) (c : Chamber) (t : LevelTarget) : State :=
  if Config.preparationRounds ≤ r.rounds then s.stepFault b .noLevel c .noLevel
  else
    s.modBatch b.number fun x =>
      { x with preparation := s.recipe c t
               step := x.step.map fun y => { y.reclaim with rounds := y.rounds + 1 } }

/-- R136: the chamber below a sluice and its make-LOW sub-step. -/
def lowerChamber : Item → Chamber × SubStep
  | .sluice .k1 => (.c2, .makeC2Low)
  | _ => (.c3, .makeC3Low)

/-- R136: room-making in front of the current step. -/
def State.makeRoom (s : State) (b : Batch) (sub : SubStep) : State :=
  s.modBatch b.number fun x =>
    { x with
      preparation := sub :: x.preparation
      step := x.step.map fun y =>
        { y.reclaim with
          roomMade := b.current :: y.roomMade
          rounds := if x.preparation.isEmpty then y.rounds + 1 else y.rounds } }

/-- R136: a NO ROOM answer for the step's path. -/
def State.noRoom (s : State) (b : Batch) (r : StepRec) (path : Item) : State :=
  if path = .sluice .k0 then s.suspend b.number .noRoom
  else
    let low := lowerChamber path
    if r.roomMade.contains b.current || s.inBand low.1 .low ||
        (b.preparation.isEmpty && decide (Config.preparationRounds ≤ r.rounds)) then
      s.stepFault b .noRoom low.1 .noRoom
    else s.makeRoom b low.2

/-- R136, R137: the room check, and the open request when there is room. -/
def State.roomCheck (s : State) (b : Batch) (r : StepRec) (path : Item) : State :=
  match s.predict path with
  | .room _ => s.requestOpen b
  | .noPrediction => s.levelWait b.number
  | .noRoom _ _ => s.noRoom b r path

/-- R133: whether the end condition already holds before water is moved, with no counting. -/
def State.alreadyThere (s : State) : WaterEnd → Bool
  | .equal g => s.settledEqual g
  | .target c t => s.inBand c t

/-- R133: the condition of a step: of main steps only. -/
def conditionOf : Step → Option (Chamber × LevelTarget)
  | .main d n => mainCondition d n
  | .sub _ => none

/-- R133: the tests of a water step holding its claims. -/
def State.waterTests (s : State) (b : Batch) (r : StepRec) (path : Item) (e : WaterEnd) : State :=
  if (stepClaims b.current).any fun c => (s.chamber c).condition == .disputed then
    s.suspend b.number .levelDispute
  else if s.alreadyThere e then s.endWaterStep b false
  else
    match conditionOf b.current with
    | some (c, t) =>
      if s.inBand c t then s.roomCheck b r path
      else if (s.chamber c).agreed.isNone then s.levelWait b.number
      else s.buildList b r c t
    | none => s.roomCheck b r path

/-- R137: whether the end condition of a flowing step holds. -/
def State.endReached (s : State) : WaterEnd → Bool
  | .equal g => s.settledEqual g
  | .target c _ => s.targetReached c

/-- R137: the end condition holds: target withdrawn, limit stopped, path requested SHUT. -/
def State.closeWater (s : State) (b : Batch) : State :=
  let s := s.withdrawTarget b.current .flowing
  (s.modStep b.number fun r => { r with waterLimit := none }).requestClose b.number

/-- R138: whether the water step limit of a batch's step runs. -/
def State.waterLimitRuns (s : State) (n : Nat) : Bool :=
  match s.active? n with
  | some (_, r) => r.waterLimit.isSome
  | none => false

/-- R138: the water step limit of a batch expires; nothing when it is stopped. -/
def State.endWaterLimit (s : State) (n : Nat) : State :=
  match s.active? n with
  | none => s
  | some (b, r) =>
    match r.waterLimit with
    | none => s
    | some e => (s.reach e).stepFault b .levelTimeout (timeoutChamber (stepItem b.current)) .levelTimeout

/-! ### Gate steps (R140 to R143) -/

/-- R141: a gate step enters its open phase. -/
def State.enterOpen (s : State) (b : Batch) (g : Station) : State :=
  (s.modStep b.number fun r =>
      { r with phase := .opened, moveWait := some (s.after s.traffic.moveWait), overdueSent := false
               readySent := false }).requestProceed (entryFace b.direction g) b.number b.current

/-- R140: a gate step in READYING tests its gate and neighbours. -/
def State.tryReady (s : State) (b : Batch) (g : Station) : State :=
  if s.settledEqual g && s.neighboursClosed g then
    let s := s.setPhase b.number .opening
    let a := s.requestMove (.gate g) .opened (.batch b.number b.current)
    match a.1 with
    | .notAvailable r => a.2.suspend b.number r
    | .complete => a.2.enterOpen b g
    | .inProgress => a.2
  else s

/-- R142, R143: ask for STOP on the entry face and enter STOPPING. -/
def State.enterStopping (s : State) (b : Batch) (g : Station) : State :=
  (s.modStep b.number fun r => { r with phase := .stopping, moveWait := none }).requestFaceStop
    (entryFace b.direction g) b.number b.current

/-- R141: MOVE READY. -/
def State.moveReady (s : State) (b : Batch) (g : Station) : State :=
  (s.modStep b.number fun r => { r with readySent := true }).notify .moveReady b.number
    [num 1 b.number, num 1 (stepCodeOf b.current), num 1 (stationCode g),
      num 1 (faceCode (entryFace b.direction g))]

/-- R141: the move wait of a batch expires; nothing when it is stopped. -/
def State.endMoveWait (s : State) (n : Nat) : State :=
  match s.active? n with
  | none => s
  | some (b, r) =>
    match r.moveWait with
    | none => s
    | some e =>
      let t := (s.reach e).modStep n fun r => { r with moveWait := none, overdueSent := true }
      if r.overdueSent then t
      else t.notify .overdue n [num 1 n, num 1 (stepCodeOf b.current)]

/-! ### Claims (R130, R131) -/

/-- R130, R133, R140: a step takes its claims and begins. -/
def State.takeClaims (s : State) (b : Batch) : State :=
  let claims := stepClaims b.current
  let s := s.modStep b.number fun r => { r with claims := claims }
  match stepWork b.current with
  | .water p e => s.waterTests b (b.step.getD StepRec.start) p e
  | .passage g =>
    if b.moved then s.enterStopping b g else (s.setPhase b.number .readying).tryReady b g

/-! ### What other blocks hand over -/

/-- R133, R137, R140: the round-end tests of one batch. -/
def State.batchRoundEnd (s : State) (n : Nat) : State :=
  match s.active? n with
  | none => s
  | some (b, r) =>
    match stepWork b.current, r.phase with
    | .water p e, .levelWait =>
      let s := s.modStep n fun r =>
        { r with waterLimit := match r.waterLimit with
            | some x => some x
            | none => some (s.after s.traffic.waterLimit) }
      s.waterTests b r p e
    | .water _ e, .flowing => if s.endReached e then s.closeWater b else s
    | .passage g, .readying => s.tryReady b g
    | _, _ => s

/-- R140: the test at a report of a gate position. -/
def State.batchGateReport (s : State) (n : Nat) : State :=
  match s.active? n with
  | none => s
  | some (b, r) =>
    match stepWork b.current, r.phase with
    | .passage g, .readying => s.tryReady b g
    | _, _ => s

/-- R137, R140, R143: COMPLETE of a movement of the batch. -/
def State.takeComplete (s : State) (n : Nat) (i : Item) (t : Target) : State :=
  match s.active? n with
  | none => s
  | some (b, r) =>
    if stepItem b.current = i then
      match r.phase, t with
      | .closing, .shut => s.endStep b
      | .opening, .opened =>
        match stepWork b.current with
        | .passage g => s.enterOpen b g
        | .water _ _ => s
      | _, _ => s
    else s

/-- R137, R149: TAKEN of a movement of the batch, its owner. A TAKEN handed before the step's request joined
the movement is not handed again (log 28). -/
def State.takeTaken (s : State) (n : Nat) (i : Item) (t : Target) : State :=
  let s := if i = .sluice .k0 ∧ t = .opened then s.openSegment n else s
  match s.active? n with
  | none => s
  | some (b, r) =>
    if stepItem b.current = i ∧ isGate i = false ∧ r.phase = .opening ∧ t = .opened then
      s.enterFlowing n
    else s

/-- R28: a close that joined a PROTECTIVE movement learns the item's position from its record. -/
def State.takeJoined (s : State) (i : Item) : State :=
  match s.traffic.batches.find? fun b =>
      !b.suspended && stepItem b.current == i && b.phase? == some .closing with
  | some b => s.endStep b
  | none => s

/-- R143: face stopped. -/
def State.takeFaceStopped (s : State) (n : Nat) (st : Step) : State :=
  match s.active? n with
  | none => s
  | some (b, r) => if b.current = st ∧ r.phase = .stopping then s.requestClose n else s

/-- R141: a report of PROCEED on a face. -/
def State.takeProceed (s : State) (f : Face) : State :=
  s.traffic.batches.foldl (fun s b =>
    match s.active? b.number with
    | some (b, r) =>
      match stepWork b.current with
      | .passage g =>
        if r.phase = .opened ∧ entryFace b.direction g = f ∧ r.readySent = false then s.moveReady b g
        else s
      | .water _ _ => s
    | none => s) s

/-- Suspend the batches in the table that satisfy a test, in table order. -/
def State.suspendWhere (s : State) (p : Batch → Bool) (r : Reason) : State :=
  (s.traffic.batches.filter p).foldl (fun s b => s.suspend b.number r) s

/-- R8: whether a batch's current step is a water step that claims a chamber. -/
def claimsWater (c : Chamber) (b : Batch) : Bool :=
  b.claims.contains c && (match stepWork b.current with | .water _ _ => true | .passage _ => false)

/-- Each batch in the table, in order, by number. -/
def State.eachBatch (s : State) (f : State → Nat → State) : State :=
  (s.traffic.batches.map (·.number)).foldl f s

/-- Take one hand-over. -/
def State.deliver (s : State) (e : RunEvent) : State :=
  match e with
  | .complete n i t => s.takeComplete n i t
  | .suspend n r => s.suspend n r
  | .taken n i t => s.takeTaken n i t
  | .joinedShut i => s.takeJoined i
  | .faceStopped n st => s.takeFaceStopped n st
  | .proceedShown f => s.takeProceed f
  | .suspendItem i r => s.suspendWhere (fun b => stepItem b.current == i) r
  | .suspendStation k r => s.suspendWhere (fun b => stepUsesStation b.current k) r
  | .disputed c => s.suspendWhere (claimsWater c) .levelDispute
  | .gateReport => s.eachBatch State.batchGateReport
  | .headSluiceShut => s.closeSegments
  | .roundEnd => s.startUpClose.eachBatch State.batchRoundEnd

/-! ### RESUME BATCH (R148) -/

/-- R148: a LATCH fault stands on the item the step uses, or for a gate step on its entry face. -/
def State.latchedOn (s : State) (d : Direction) (st : Step) : Bool :=
  (s.mach.faults.any fun r => r.latched && r.source == .item (stepItem st)) ||
    (match stepWork st with
      | .passage g => s.gateLatched g || s.lampFault (entryFace d g)
      | .water _ _ => false)

def isChamberKind : FaultKind → Bool
  | .levelTimeout | .noRoom | .noLevel => true
  | _ => false

/-- R148: the STILL ACTIVE conditions of a main step. -/
def State.stillActive (s : State) (d : Direction) (st : Step) : Bool :=
  let k := itemStation (stepItem st)
  s.latchedOn d st ||
    ((stepClaims st).any fun c => s.mach.faults.any fun r =>
      r.latched && isChamberKind r.kind && r.source == .chamber c) ||
    (s.station k).state != .online || s.mach.inLocal.get k ||
    (stepClaims st).any fun c => (s.chamber c).condition == .disputed

/-- R148: the batch after an accepted RESUME BATCH, its segment closed. -/
def resumed (level : Option Nat × Bool) (b : Batch) : Batch :=
  { b with reasons := [], preparation := [], meter := b.meter.close level, step := some StepRec.start }

/-! ### READ BATCH (R127, R128) -/

def batchStateCode (b : Batch) : Nat := if b.suspended then 2 else if b.entered then 1 else 0

/-- R112, R127, R128: every field of the batch record, its place, its members' passage records (a collection,
R181), and the step record. A batch with no step record shows its main step, no claims and marks, OVERDUE not
sent, and phase, rounds and timers absent; the marks are a collection of steps, and C1 is bit 0 of the claims
(log 12). -/
def State.batchFields (s : State) (b : Batch) (place : Nat) : List Field :=
  [num 1 b.number, num 1 (directionCode b.direction)] ++
    collection (fun (p : Passage) => [num 2 p.number]) b.members ++
    [num 2 b.admitDay, num 3 b.admitTime, flag b.night, num 2 b.edition, num 1 b.members.length,
      setField 2 reasonCode b.reasons, num 1 (stepCode b.position), flag b.moved] ++
    collection (fun x => [num 1 (stepCodeOf (.sub x))]) b.preparation ++
    [num 2 b.meter.rise, opt 2 (b.meter.segment.bind (·.start)), flag b.meter.estimated,
      flag b.meter.startUpMark, flag b.entered, flag b.cleared, num 1 (batchStateCode b), num 1 place] ++
    collection passageFields b.members ++
    [num 1 (stepCodeOf b.current), opt 1 (b.phase?.map (phaseCodeIn b.current)),
      setField 1 (fun c => chamberCode c - 1) b.claims, opt 1 (b.step.map (·.rounds))] ++
    collection (fun x => [num 1 (stepCodeOf x)]) ((b.step.map (·.roomMade)).getD []) ++
    [opt 2 (s.remaining (b.step.bind (·.waterLimit))), opt 2 (s.remaining (b.step.bind (·.moveWait))),
      flag ((b.step.map (·.overdueSent)).getD false)]

end Sys2Proof.Machine
end

