-- ==== Sys2Proof/Machine/Halt.lean ====
section
/-! DEFINITION. Halt Control (chapter 6): causes (R88, R89), CLEAR HALT (R91), the awaited set and the
return to RUNNING (R92), and the end of every step: the hand-overs are taken until none is left
(log 4), the causes handed are taken, and the faces and indications follow the state. -/

namespace Sys2Proof.Machine

/-! ### Taking the hand-overs of a step (log 4) -/

/-- The hand-overs without their first event. -/
def State.popEvent (s : State) : State := { s with hand := { s.hand with toRun := s.hand.toRun.drop 1 } }

/-- One hand-over: an event for the Run Controller, else a claim that can be taken, else an admission
evaluation, else a test of the waiting movements. -/
def State.settleOne (s : State) : Option State :=
  match s.hand.toRun with
  | e :: _ => some (s.popEvent.deliver e)
  | [] =>
    match s.traffic.batches.find? s.canClaim with
    | some b => some (s.takeClaims b)
    | none =>
      if s.hand.evaluate then
        some ({ s with hand := { s.hand with evaluate := false } } : State).evaluateAdmission
      else if s.hand.retest then some ({ s with hand := { s.hand with retest := false } } : State).retest
      else none

/-- Take hand-overs until none is left. -/
def State.settleLoop : Nat → State → State
  | 0, s => s
  | fuel + 1, s =>
    match s.settleOne with
    | some t => State.settleLoop fuel t
    | none => s

/-- The rounds of hand-overs a step can need: each step of both batches, each preparation, and the
tests that follow. -/
def settleFuel : Nat := 400

/-! ### Causes (R88, R89) -/

/-- R88: the entry into HALTED, its notices in the order of log 27. -/
def State.enterHalt (s : State) (c : HaltCause) : State :=
  let s := { s with halt := { s.halt with
    state := .halted, causes := [c], entry := c, awaited := Quad.const none } }
  let s := s.lineHalted c
  let s := s.cancelMovements
  let s := s.dropFaceRequests
  let s := (s.traffic.batches.map (·.number)).foldl (fun s n => s.emit (.suspend n .halt)) s
  s.noticeHalt

/-- R88, R89: a cause handed to Halt Control. -/
def State.takeCause (s : State) (c : HaltCause) : State :=
  if s.halt.state = .halted then
    if s.halt.causes.contains c then s
    else
      ({ s with halt := { s.halt with causes := insertIn allCauses c s.halt.causes } } : State).noticeHalt
  else s.enterHalt c

/-- Take every cause handed so far, in order. -/
def State.takeCauses (s : State) : State :=
  let cs := s.hand.toHalt
  cs.foldl (fun s c => s.takeCause c) { s with hand := { s.hand with toHalt := [] } }

/-- R105, R168: the indications that follow the queues, the receipts and the reservations, UP before DOWN
(log 27). -/
def State.indications (s : State) : State := ((s.evaluateQueue .up).evaluateQueue .down).evaluateHold

/-- The end of a step: hand-overs, causes, the hand-overs an entry into HALTED makes, the faces (R60,
R63) and the indications. -/
def State.finish (s : State) : State :=
  let s := State.settleLoop settleFuel s
  let s := State.settleLoop settleFuel s.takeCauses
  let s := s.takeCauses
  s.deriveFaces.indications

/-! ### CLEAR HALT (R91, R92) -/

/-- R91: whether CLEAR HALT is refused STILL ACTIVE. -/
def State.clearHaltBarred (s : State) : Bool :=
  s.halt.state == .halted && (s.anyCrest || s.localStopPresent)

/-- R92: the awaited set: the stations that are not LOST, or all four when all are LOST. -/
def State.awaitedSet (s : State) : Quad (Option Bool) :=
  let lost := s.line.stations.map fun r => decide (r.state = .lost)
  let all := lost.k0 && lost.k1 && lost.k2 && lost.k3
  lost.map fun l => if l && !all then none else some false

/-- R91: CLEAR HALT accepted while HALTED; in the other states it changes nothing. -/
def State.clearHalt (s : State) : State :=
  if s.halt.state = .halted then
    { s with halt := { s.halt with state := .recovering, causes := [], awaited := s.awaitedSet } }
  else s

/-- The stations of an awaited set, as a set field. -/
def awaitedField (q : Quad (Option Bool)) : Field :=
  setField 1 stationCode (allStations.filter fun k => (q.get k).isSome)

/-- R93: HALT CLEARED with the stations of the awaited set. -/
def State.noticeCleared (s : State) (awaited : Quad (Option Bool)) : State :=
  s.notify .haltCleared 0
    [num 1 (haltStateCode s.halt.state), setField 1 causeCode s.halt.causes, num 3 s.toll.clock,
      awaitedField awaited]

/-- R92: no awaited station remains unheard. -/
def allHeard (q : Quad (Option Bool)) : Bool := allStations.all fun k => q.get k != some false

/-- R92: a good answer taken in while RECOVERING; HALT CLEARED goes before BATCH ADMITTED (log 27). -/
def State.hear (s : State) (k : Station) : State :=
  if s.halt.state = .recovering then
    let q := if (s.halt.awaited.get k).isSome then s.halt.awaited.set k (some true) else s.halt.awaited
    if allHeard q then
      (({ s with halt := { s.halt with state := .running, awaited := Quad.const none } } : State).noticeCleared
        q).markAdmit.finish
    else { s with halt := { s.halt with awaited := q } }
  else s

/-- R90, R91: the halt state and the set of present causes, which their replies carry. -/
def State.haltFields (s : State) : List Field :=
  [num 1 (haltStateCode s.halt.state), setField 1 causeCode s.halt.causes]

end Sys2Proof.Machine
end

