-- ==== Sys2Proof/Machine/Store.lean ====
section
/-! DEFINITION. The retained store (chapter 6): what is retained (R96), one update per event (R94), the
loss of main power, and the start-up after power-on or RESTART (R95, R97, R98). -/

namespace Sys2Proof.Machine

/-! ### What is retained (R96) -/

def ChamberRec.retained (r : ChamberRec) : RetainedChamber :=
  { config := r.config, trust := r.trust, lastKnown := r.lastKnown }

/-- R128: a batch is retained without its step record. -/
def Batch.retained (b : Batch) : Batch := { b with step := none }

/-- R96: the retained state as it stands. -/
def State.retainedOf (s : State) : Retained :=
  { chambers := ⟨(s.chamber .c1).retained, (s.chamber .c2).retained, (s.chamber .c3).retained⟩
    levelSettings := s.level.settings
    limits := s.mach.limits
    modes := s.mach.modes
    timing := s.mach.timing
    interval := s.signal.interval
    waterLimit := s.traffic.waterLimit
    moveWait := s.traffic.moveWait
    receiptMargin := s.receipts.margin
    mode := s.traffic.mode
    up := s.traffic.up, down := s.traffic.down
    batches := s.traffic.batches.map Batch.retained
    lastDirection := s.traffic.lastDirection, consecutive := s.traffic.consecutive
    nextPassage := s.traffic.nextPassage, nextStamp := s.traffic.nextStamp
    nextBatch := s.traffic.nextBatch
    queueMargin := s.traffic.margin, skipLimit := s.traffic.skipLimit
    quota := s.traffic.quota, spacing := s.traffic.spacing, followOn := s.traffic.followOn
    current := s.toll.current, previous := s.toll.previous, pending := s.toll.pending
    account := s.toll.account
    receipts := s.receipts.queue
    mask := s.console.mask }

/-- R94: an event that changes retained state is written as one update; `before` is the retained state
before the event. -/
def State.commit (before : Retained) (s : State) : State :=
  if s.retainedOf = before then s
  else { s with store := { s.store with updates := s.store.updates ++ [s.retainedOf] } }

/-! ### Updates (R94) -/

def Store.image (t : Store) : ImageName → Option Image
  | .a => t.imageA
  | .b => t.imageB

def Store.setImage (t : Store) (n : ImageName) (i : Option Image) : Store :=
  match n with
  | .a => { t with imageA := i }
  | .b => { t with imageB := i }

def otherImage : ImageName → ImageName
  | .a => .b
  | .b => .a

/-- The generation of the image in use. -/
def Store.generation (t : Store) : Nat :=
  match t.image t.inUse with
  | some i => i.generation
  | none => 0

/-- R94: generations run 0 to 65,535 and continue at 0. -/
def nextGeneration (g : Nat) : Nat := if 65535 ≤ g then 0 else g + 1

/-- R94: the oldest update is complete: the image not in use holds it and becomes the image in use. -/
def Store.complete (t : Store) : Store :=
  match t.updates with
  | [] => t
  | u :: rest =>
    let n := otherImage t.inUse
    { (t.setImage n (some { contents := u, generation := nextGeneration t.generation })) with
      inUse := n, updates := rest }

/-- R94: power fails: the image being written is not valid, the updates not complete are lost. -/
def Store.powerLost (t : Store) : Store :=
  match t.updates with
  | [] => t
  | _ :: _ => { t.setImage (otherImage t.inUse) none with updates := [] }

/-- R98: the updates in progress complete before a restart. -/
def completeAll : Nat → Store → Store
  | 0, t => t
  | n + 1, t => completeAll n t.complete

def Store.flush (t : Store) : Store := completeAll t.updates.length t

/-- R95: the image a power-on chooses, with the outcome. -/
def Store.choose (t : Store) : Option ImageName × StartOutcome :=
  match t.imageA, t.imageB with
  | some a, some b =>
    (if b.generation = nextGeneration a.generation then some .b else some .a, .bothValid)
  | some _, none => (some .a, .oneValid)
  | none, some _ => (some .b, .oneValid)
  | none, none => (none, .noneValid)

/-- R95, R96: the defaults written at once into image A with generation 0. -/
def Store.blank : Store :=
  { imageA := some { contents := Retained.defaults, generation := 0 }, imageB := none, inUse := .a
    updates := [] }

/-! ### Start-up (R95, R97, R98) -/

/-- R113, R128, R150: a retained batch at start-up: suspended with RESTART, no preparation list, no step
record, an open segment marked for start-up closing. -/
def Batch.startUp (b : Batch) : Batch :=
  { b with
    reasons := insertIn allReasons .restart b.reasons, preparation := [], step := none
    meter := { b.meter with startUpMark := b.meter.startUpMark || b.meter.segment.isSome } }

/-- R113, R145: add RESTART to every retained batch, each change with its notice. -/
def State.startUpBatches (s : State) : State :=
  s.traffic.batches.foldl (fun s b =>
      if b.reasons.contains .restart then s else s.noticeSuspended b.startUp b.startUp.reasons)
    (s.setBatches (s.traffic.batches.map Batch.startUp))

/-- R97: the part after it has taken its start-up values: retained batches suspended, indications
evaluated (the queues, the hold, the receipts), and HALT ENTERED raised, each with its notices in that order
(log 27); what start-up changes of the retained state is one update. -/
def State.startUp (r : Retained) (clock now : Nat) (store : Store) (stretch : Option Bool)
    (start : StartRecord) (pending : List Instr) : State :=
  let s := State.fresh r clock now store stretch start pending
  (s.startUpBatches.indications.evaluateReceipts.noticeHalt).commit r

/-- R94, R95: main power is lost. -/
def State.losePower (s : State) : State := { s with powered := false, store := s.store.powerLost }

/-- R95, R97: power-on. A power-on of a part that is powered implies the loss of power before it. -/
def State.powerUp (s : State) : State :=
  let s := if s.powered then s.losePower else s
  let c := s.store.choose
  let stretch := s.line.stretch.map fun _ => false
  match c.1.bind s.store.image, c.1 with
  | some i, some n =>
    State.startUp i.contents s.toll.clock s.now { s.store with inUse := n } stretch
      { kind := .powerOn, outcome := c.2, generation := i.generation } s.pending
  | _, _ =>
    State.startUp Retained.defaults 0 s.now Store.blank stretch
      { kind := .powerOn, outcome := .noneValid, generation := 0 } s.pending

/-- R98: the restart takes place: the updates in progress complete, the images are not tested, the
retained state and the clock stand. -/
def State.restartNow (s : State) : State :=
  let store := s.store.flush
  State.startUp s.retainedOf s.toll.clock s.now store (s.line.stretch.map fun _ => false)
    { kind := .restart, outcome := .notTested, generation := store.generation } s.pending

end Sys2Proof.Machine
end

