-- ==== Sys2Proof/Machine/Link.lean ====
section
/-! DEFINITION. The Console Link (chapter 12): frames in (R175, R176), one request at a time and its
reply, the transmitter (R179), the class mask (R178), and the data of the two flight-wide reads (R180).
Also the frame every event shares: nothing happens without power, and one update per event (R94). -/

namespace Sys2Proof.Machine

def State.setConsole (s : State) (c : Console) : State := { s with console := c }

/-! ### Events (R94) -/

/-- An event of the part: it acts while the part is powered, and is one update of the retained store. -/
def State.event (s : State) (act : State → State) : State :=
  if s.powered then (act s).commit s.retainedOf else s

/-! ### Frames in (R175, R176) -/

/-- R176: a completed frame joins the request order; the ninth is discarded. -/
def joinOrder (order : List ConsoleFrame) (f : ConsoleFrame) : List ConsoleFrame :=
  if order.length < Config.requestCapacity then order ++ [f] else order

/-- R175: take octets into the frame being assembled. -/
def State.receive (s : State) (octets : List Octet) : State :=
  let r := feed s.console.fragment octets
  s.setConsole { s.console with fragment := r.2, order := r.1.foldl joinOrder s.console.order }

/-- R175: a gap abandons the frame being assembled. -/
def State.dropFragment (s : State) : State := s.setConsole { s.console with fragment := [] }

/-! ### Requests (R176) -/

/-- What the owner of a request answers: a refusal code or acceptance, the data, and the state. -/
structure Result where
  verdict : Option RefuseCode
  data : List Field
  state : State
  deriving DecidableEq, Repr

def accept (data : List Field) (s : State) : Result := { verdict := none, data := data, state := s }
def refuse (c : RefuseCode) (s : State) : Result := { verdict := some c, data := [], state := s }

/-- R176: the reply to the frame handed on before has been sent. -/
def State.mayHandOn (s : State) : Bool :=
  s.console.reply.isNone &&
    (match s.console.sending with
      | some f => !f.isReply
      | none => true)

/-- R176: the oldest frame of the order is this request; with no frame waiting the command stands for a
frame completed and handed on at once (log 5). -/
def State.isNextRequest (s : State) (i : Instr) : Bool :=
  match s.console.order with
  | [] => true
  | f :: _ => requestOf f == i

/-- Whether a request is taken now. -/
def State.takesRequest (s : State) (i : Instr) : Bool :=
  s.powered && s.mayHandOn && s.isNextRequest i

/-- R176: the frame handed on leaves the order. -/
def State.popRequest (s : State) : State :=
  s.setConsole { s.console with order := s.console.order.drop 1 }

/-- R94: the updates a reply waits for: those pending when its request has changed retained state. -/
def replyWaits (before after : State) : Nat :=
  if after.store.updates.length = before.store.updates.length then 0 else after.store.updates.length

/-- R176: the reply of a result. -/
def replyOf (tag kind : Octet) (isRestart : Bool) (before : State) (r : Result) (after : State) : Reply :=
  { tag := tag, kind := kind ||| 0x80#8, verdict := r.verdict, data := r.data
    waits := replyWaits before after, isRestart := isRestart }

/-- The state after a request that is taken: the owner's act, its update, its reply. -/
def State.answerRequest (s : State) (tag kind : Octet) (isRestart : Bool) (act : State → Result) :
    State :=
  let s := s.popRequest
  let r := act s
  let t := r.state.commit s.retainedOf
  t.setConsole { t.console with reply := some (replyOf tag kind isRestart s r t) }

/-- R176: hand a request to its owner; a request that cannot be handed on now changes nothing. -/
def State.request (s : State) (i : Instr) (tag kind : Octet) (act : State → Result) : State :=
  if s.takesRequest i then s.answerRequest tag kind false act else s

/-! ### The transmitter (R179) -/

/-- The frame of a reply: its verdict, then its data. -/
def replyFrame (r : Reply) : Sending :=
  { octets := frameOctets r.tag r.kind
      (BitVec.ofNat 8 (match r.verdict with | none => 0 | some c => refuseCode c) :: fieldsOctets r.data)
    isReply := true, isRestart := r.isRestart }

/-- The frame of a notice: tag 0. -/
def noticeFrame (n : Notice) : Sending :=
  { octets := frameOctets 0#8 (BitVec.ofNat 8 (noticeCode n.kind)) (fieldsOctets n.payload)
    isReply := false, isRestart := false }

/-- R94: the reply once it is formed. -/
def Console.formed (c : Console) : Option Reply :=
  match c.reply with
  | some r => if r.waits = 0 then some r else none
  | none => none

/-- The frame being sent has been sent. -/
def Console.sent (c : Console) : Console :=
  match c.sending with
  | some f => { c with sending := none, lastWasReply := f.isReply }
  | none => c

/-- R179: what the free transmitter sends next; a notice leaves the queue as its sending begins (log 24). -/
def Console.choose (c : Console) : Console :=
  match c.formed, c.notices with
  | some r, n :: rest =>
    if c.lastWasReply then { c with sending := some (noticeFrame n), notices := rest }
    else { c with sending := some (replyFrame r), reply := none }
  | some r, [] => { c with sending := some (replyFrame r), reply := none }
  | none, n :: rest => { c with sending := some (noticeFrame n), notices := rest }
  | none, [] => c

/-- R98: the frame just sent was the reply of RESTART. -/
def State.restartDue (s : State) : Bool :=
  match s.console.sending with
  | some f => f.isRestart
  | none => false

/-- R98, R179: the transmitter becomes free, the only moment at which a frame begins (log 24). -/
def State.freeTransmitter (s : State) : State :=
  if s.restartDue then s.restartNow else s.setConsole s.console.sent.choose

/-! ### The class mask (R178) -/

/-- R178: take a mask and remove the waiting notices of the disabled classes. -/
def State.setMask (s : State) (m : NoticeMask) : State :=
  s.setConsole { s.console with
    mask := m, notices := s.console.notices.filter fun n => noticeEnabled m n.kind }

def maskFields (m : NoticeMask) : List Field := [flag m.safety, flag m.level, flag m.traffic, flag m.accounts]

/-! ### The updates of the retained store and the reply (R94) -/

/-- R94: the oldest update is complete; the reply waits for one update fewer. -/
def State.completeUpdate (s : State) : State :=
  match s.store.updates with
  | [] => s
  | _ :: _ =>
    { s with
      store := s.store.complete
      console := { s.console with
        reply := s.console.reply.map fun r => { r with waits := r.waits - 1 } } }

/-! ### Settings and the flight-wide reads (R180) -/

def levelSettingFields (a : LevelSettings) : List Field :=
  [num 2 a.freeboard, num 1 a.equalTolerance, num 2 a.agreementTolerance, num 2 a.bandTolerance,
    num 1 a.settleCount, num 2 a.surgeBlank]

def limitFields (a : MovementLimits) : List Field :=
  [num 2 a.gateStart, num 2 a.pathStart, num 2 a.gateTravel, num 2 a.pathTravel, num 2 a.changeover]

def modeFields (m : InputModes) : List Field :=
  [num 1 (modeCode m.obstruction), num 1 (modeCode m.overload), num 1 (modeCode m.ice)]

def timingFields (a : FaultTiming) : List Field :=
  [num 1 a.overloadBlank, num 2 a.resumeDelay, num 1 a.resumeLimit]

def followOnCode (b : Bool) : Nat := if b then 0 else 1

def admissionFields (t : Traffic) : List Field :=
  [num 1 t.quota, num 1 t.spacing, num 1 (followOnCode t.followOn)]

/-- R180: READ SETTINGS, in its order. -/
def State.settingFields (s : State) : List Field :=
  levelSettingFields s.level.settings ++ limitFields s.mach.limits ++
    allStations.flatMap (fun k => modeFields (s.mach.modes.get k)) ++ timingFields s.mach.timing ++
    [num 2 s.signal.interval, num 1 s.traffic.margin, num 1 s.traffic.skipLimit] ++
    admissionFields s.traffic ++
    [num 2 s.traffic.waterLimit, num 2 s.traffic.moveWait, num 1 s.receipts.margin] ++
    maskFields s.console.mask

/-- R116: the last direction: UP, DOWN or none. -/
def lastDirectionCode : Option Direction → Nat
  | some d => directionCode d
  | none => 2

/-- A batch with its place in the table: leading 0, follow-on 1. -/
def placesOf : Nat → List Batch → List (Nat × Batch)
  | _, [] => []
  | n, b :: bs => (n, b) :: placesOf (n + 1) bs

/-- R180, Halt. Outside RECOVERING the awaited and the heard set are sent empty (log 12). -/
def State.flightHalt (s : State) : List Field :=
  s.haltFields ++
    [awaitedField s.halt.awaited,
      setField 1 stationCode (allStations.filter fun k => s.halt.awaited.get k == some true)] ++
    [num 1 (startKindCode s.halt.startUp.kind), num 1 (startOutcomeCode s.halt.startUp.outcome),
      num 2 s.halt.startUp.generation]

/-- R180, Traffic. -/
def State.flightTraffic (s : State) : List Field :=
  [num 1 (flightModeCode s.traffic.mode), num 1 (lastDirectionCode s.traffic.lastDirection),
    num 1 s.traffic.consecutive] ++ admissionFields s.traffic ++ orderFields s.traffic.order ++
  collection (fun (x : Nat × Batch) =>
      [num 1 x.2.number, num 1 (directionCode x.2.direction), num 1 (batchStateCode x.2), num 1 x.1])
    (placesOf 0 s.traffic.batches)

/-- R180, Levels. -/
def State.flightLevels (s : State) : List Field :=
  let d := s.flightDims
  [opt 2 (d.map (·.usable)), opt 1 (d.map (·.width)), opt 2 (d.map (·.sill)),
    opt 2 s.level.headReading, opt 2 s.level.tailReading, opt 2 s.level.headLevel,
    opt 2 s.level.tailLevel] ++
  allStations.flatMap (fun k => [num 1 (s.level.equal.get k), flag (s.settledEqual k)]) ++
  allStations.flatMap (fun k =>
    [opt 1 ((s.item (.gate k)).position.map positionCode), num 1 (commandCode (s.item (.gate k)).command)]) ++
  flag s.level.riverHold ::
  allChambers.flatMap (fun c =>
    [opt 2 (s.chamber c).agreed, opt 1 (conditionCode (s.chamber c).condition)])

/-- R180: READ FLIGHT, in its order. -/
def State.flightFields (s : State) : List Field :=
  s.flightHalt ++ s.flightTraffic ++ s.flightLevels ++ allStations.flatMap s.stationHead ++
    allFaces.flatMap (fun f =>
      [num 1 (aspectCode (s.face f).commanded), opt 1 ((s.face f).reported.map aspectCode)]) ++
    [num 3 s.toll.clock, num 2 s.toll.account.day]

end Sys2Proof.Machine
end

