-- ==== Sys2Proof/Machine/Time.lean ====
section
/-! DEFINITION. The passing of time (log 2): with no command waiting, a step is one tenth of a second;
the expiry commands that fall due then join the queue of commands. -/

namespace Sys2Proof.Machine

/-- Whether a timer with an expiry is due. -/
def State.due (s : State) (e : Option Nat) : Bool :=
  match e with
  | some t => decide (t ≤ s.now)
  | none => false

/-- Keep a command when a condition holds. -/
def whenDue (b : Bool) (i : Instr) : List Instr := if b then [i] else []

/-- The moment a chamber's changeover timer elapses is now (R25). -/
def State.changeoverEnds (s : State) (c : Chamber) : Bool :=
  match s.mach.changeover.get c with
  | some t => t + s.mach.limits.changeover == s.now
  | none => false

/-- The expiries of an item's movement (R34). -/
def State.movementExpiries (s : State) (i : Item) : List Instr :=
  whenDue (s.due (s.startLimitOf i)) (.startLimitExpiry i) ++
    whenDue (s.due (s.travelLimitOf i)) (.travelLimitExpiry i)

/-- The timers of a batch's step (R138, R141). -/
def State.stepExpiries (s : State) (b : Batch) : List Instr :=
  match b.step with
  | some r =>
    whenDue (s.due r.waterLimit) (.waterStepLimitExpiry b.number) ++
      whenDue (s.due r.moveWait) (.moveWaitExpiry b.number)
  | none => []

/-- The far face of a waiting PROCEED request whose stop-since time is now one interval old (R61). -/
def State.intervalEnds (s : State) (f : Face) : List Instr :=
  match (s.face (farFace f)).stopSince with
  | some t => whenDue (s.proceedWaits f && t + s.signal.interval == s.now)
      (.allStopIntervalElapsed (farFace f))
  | none => []

/-- Every expiry of a powered part due now, timers in the order of the chapters. -/
def State.expiries (s : State) : List Instr :=
  allChambers.flatMap (fun c => whenDue (s.due (s.chamber c).surge) (.surgeBlankExpiry c)) ++
  allChambers.flatMap (fun c => whenDue (s.changeoverEnds c) (.changeoverTimerExpiry c)) ++
  allItems.flatMap s.movementExpiries ++
  allStations.flatMap
    (fun k => whenDue (s.due (s.mach.overload.get k).expiry) (.overloadBlankExpiry k)) ++
  s.mach.faults.flatMap (fun r => whenDue (s.due r.releasing) (.resumeDelayExpiry r.number)) ++
  s.traffic.batches.flatMap s.stepExpiries ++
  allFaces.flatMap s.intervalEnds ++
  whenDue (s.due s.receipts.repeatTimer) .receiptsRepeatExpiry

/-- One tenth of a second passes: the clock ticks at each whole second (R173), with or without power,
and the expiries due join the queue. -/
def State.tenth (s : State) : State :=
  let s := { s with now := s.now + 1 }
  { s with pending := s.pending ++ whenDue (s.now % 10 == 0) .clockTick ++
      (if s.powered then s.expiries else []) }

end Sys2Proof.Machine
end

