-- ==== Sys2Proof/Machine/AdmissionCommands.lean ====
section
/-! DEFINITION. The commands of chapter 8: admission settings, keeper orders, abandonment, READ BATCH. -/

namespace Sys2Proof.Machine

/-- R121: SET ADMISSION SETTINGS. -/
def admissionSettingsRequest (a : AdmissionArgs) (s : State) : Result :=
  match followOnOf a.followOn with
  | none => refuse .badValue s
  | some f =>
    let t := s.setTraffic { s.traffic with
      quota := clampQuota a.quota, spacing := clampSpacing a.spacing, followOn := f }
    accept (admissionFields t.traffic) (t.markAdmit.finish)

def execSetAdmissionSettings (tag : Octet) (a : AdmissionArgs) (s : State) :
    Host.Outcome State Fault Refusal :=
  .next (s.request (.setAdmissionSettings tag a) tag 0x28#8 (admissionSettingsRequest a))

def noRepeats : List Nat → Bool
  | [] => true
  | n :: ns => !ns.contains n && noRepeats ns

/-- R122: the first reason, if any, that refuses an order. -/
def State.orderRefusal (s : State) (ns : List Nat) : Option RefuseCode :=
  let all := s.allPassages
  let ps := s.orderRecords ns
  if ns.isEmpty || decide (4 < ns.length) || !noRepeats ns then some .badValue
  else if s.traffic.mode ≠ .keeper then some .wrongMode
  else if s.toll.current.isNone || s.flightDims.isNone then some .notConfigured
  else if s.traffic.order.isSome then some .orderPending
  else if !(ns.all fun n => all.any fun p => p.number == n) then some .noSuchVessel
  else if !(ns.all fun n => (s.queued? n).isSome) then some .inBatch
  else if (ps.any fun p => p.direction == .up) && (ps.any fun p => p.direction == .down) then
    some .badValue
  else if !s.orderFits ns then some .doesNotFit
  else if s.freeSlots < ns.length then some .receiptsFull
  else none

/-- R122: the direction of the records an order names. -/
def State.orderDirection (s : State) (ns : List Nat) : Direction :=
  match s.orderRecords ns with
  | p :: _ => p.direction
  | [] => .up

/-- R122: ADMITTED (0) with the number of the new batch, the last in the table, or PENDING (1) with the
number absent, in two octets either way (log 12). The batch is the one the order's evaluation admitted,
read before the hand-overs that follow. -/
def State.orderReply (s : State) : List Field :=
  if s.traffic.order.isSome then [num 1 1, opt 2 none]
  else [num 1 0, opt 2 (s.traffic.batches.getLast?.map (·.number))]

/-- R122: ORDER BATCH: an accepted order is tested at once. -/
def orderRequest (ns : List Nat) (s : State) : Result :=
  match s.orderRefusal ns with
  | some c => refuse c s
  | none =>
    let t := s.setTraffic { s.traffic with
      order := some { passages := ns, direction := s.orderDirection ns } }
    let t := t.evaluateAdmission
    accept t.orderReply t.finish

def execOrderBatch (tag : Octet) (passages : List Nat) (s : State) : Host.Outcome State Fault Refusal :=
  .next (s.request (.orderBatch tag passages) tag 0x29#8 (orderRequest passages))

/-- R124: CANCEL ORDER. -/
def cancelOrderRequest (s : State) : Result :=
  match s.traffic.order with
  | none => refuse .noOrder s
  | some o => accept (collection (fun n => [num 2 n]) o.passages) s.discardOrder

def execCancelOrder (tag : Octet) (s : State) : Host.Outcome State Fault Refusal :=
  .next (s.request (.cancelOrder tag) tag 0x2A#8 cancelOrderRequest)

/-- R126: the data of an abandonment: outcome ABANDONED (1; log 12), batch, passages, charge. -/
def abandonFields (b : Batch) (charge : Nat) : List Field :=
  [num 1 1, num 1 b.number] ++ collection (fun (p : Passage) => [num 2 p.number]) b.members ++
    [num 3 charge]

/-- R126, R168: an accepted ABANDON BATCH, up to the hand-overs that follow it. BATCH COMPLETE is raised
before the admission evaluation (log 27). -/
def State.abandon (s : State) (n : Nat) (b : Batch) : State :=
  let b := { b with meter := b.meter.close s.meterLevel }
  let w := s.batchWater b
  let s := s.setAccount (addAccount s.toll.account (abandonTotals b w))
  let s := (s.removeBatch n).returnMembers b
  let s := allFaces.foldl (fun s f => s.withdrawStopWait f n) s
  let s := (s.evaluateQueue b.direction).evaluateHold
  (s.notify .batchComplete n (abandonFields b w.charge)).markAdmit

/-- R126: the lockage water charge of an abandonment. -/
def State.abandonCharge (s : State) (b : Batch) : Nat :=
  (s.batchWater { b with meter := b.meter.close s.meterLevel }).charge

/-- R126: the reply carries the same, with each returned vessel's new queue position: a collection of its
own after the charge, in entry order, read before the admission evaluation of the step (log 12). -/
def State.abandonReply (t : State) (b : Batch) (charge : Nat) : List Field :=
  abandonFields b charge ++
    collection (fun (p : Passage) => [num 1 (positionOf p.number (t.queueOf b.direction))]) b.members

/-- R125, R126: ABANDON BATCH. -/
def abandonRequest (n : Nat) (s : State) : Result :=
  match s.batch? n with
  | none => refuse .noSuchBatch s
  | some b =>
    if b.entered then refuse .vesselsInside s
    else if !b.suspended then refuse .notSuspended s
    else
      let t := s.abandon n b
      accept (t.abandonReply b (s.abandonCharge b)) t.finish

def execAbandonBatch (tag : Octet) (batch : Nat) (s : State) : Host.Outcome State Fault Refusal :=
  .next (s.request (.abandonBatch tag batch) tag 0x2B#8 (abandonRequest batch))

/-- The place of a batch in the table (R113). -/
def State.placeOf (s : State) (n : Nat) : Nat :=
  match s.traffic.batches with
  | b :: _ => if b.number = n then 0 else 1
  | [] => 0

/-- R127: READ BATCH. -/
def readBatchRequest (n : Nat) (s : State) : Result :=
  match s.batch? n with
  | none => refuse .noSuchBatch s
  | some b => accept (s.batchFields b (s.placeOf n)) s

def execReadBatch (tag : Octet) (batch : Nat) (s : State) : Host.Outcome State Fault Refusal :=
  .next (s.request (.readBatch tag batch) tag 0x2C#8 (readBatchRequest batch))

end Sys2Proof.Machine
end

