-- ==== Sys2Proof/Machine/ConsoleCommands.lean ====
section
/-! DEFINITION. The commands of the Console Link (chapter 12): octets arriving, refusals of frames, the
transmitter, SET NOTICES, READ FLIGHT and READ SETTINGS. -/

namespace Sys2Proof.Machine

/-- R175, R176: the octets up to the second check octet of a frame. -/
def execConsoleFrameComplete (octets : List Octet) (s : State) : Host.Outcome State Fault Refusal :=
  .next (s.event fun s => s.receive octets)

/-- R175: octets, then a gap of more than 20 ms, which abandons the frame. -/
def execConsoleFrameGap (octets : List Octet) (s : State) : Host.Outcome State Fault Refusal :=
  .next (s.event fun s => (s.receive octets).dropFragment)

/-- R175: octets up to a length octet out of range: hunting resumes after the start octet. -/
def execFrameLengthOutOfRange (octets : List Octet) (s : State) : Host.Outcome State Fault Refusal :=
  .next (s.event fun s => s.receive octets)

/-- R176: a frame of a kind the part does not know. -/
def execRefuseUnknownKind (f : ConsoleFrame) (s : State) : Host.Outcome State Fault Refusal :=
  if requestOf f = .refuseUnknownKind f then
    .next (s.request (.refuseUnknownKind f) f.tag f.kind (refuse .unknownKind))
  else .next s

/-- R176: a frame whose payload is not that of its kind's layout. -/
def execRefuseMalformed (f : ConsoleFrame) (s : State) : Host.Outcome State Fault Refusal :=
  if requestOf f = .refuseMalformed f then
    .next (s.request (.refuseMalformed f) f.tag f.kind (refuse .malformed))
  else .next s

/-- R179: the transmitter becomes free. A restart (R98) writes its own update. -/
def execTransmitterFree (s : State) : Host.Outcome State Fault Refusal :=
  .next (if s.powered then s.freeTransmitter else s)

/-- R178: SET NOTICES; a value that is no flag is out of range (log 12). -/
def noticesRequest (a : NoticesArgs) (s : State) : Result :=
  match flagOf a.safety, flagOf a.level, flagOf a.traffic, flagOf a.accounts with
  | some x, some y, some z, some w =>
    let m : NoticeMask := ⟨x, y, z, w⟩
    accept (maskFields m) (s.setMask m)
  | _, _, _, _ => refuse .badValue s

def execSetNotices (tag : Octet) (a : NoticesArgs) (s : State) : Host.Outcome State Fault Refusal :=
  .next (s.request (.setNotices tag a) tag 0x48#8 (noticesRequest a))

/-- R180. -/
def execReadFlight (tag : Octet) (s : State) : Host.Outcome State Fault Refusal :=
  .next (s.request (.readFlight tag) tag 0x49#8 fun s => accept s.flightFields s)

/-- R180. -/
def execReadSettings (tag : Octet) (s : State) : Host.Outcome State Fault Refusal :=
  .next (s.request (.readSettings tag) tag 0x4A#8 fun s => accept s.settingFields s)

end Sys2Proof.Machine
end

