-- ==== Sys2Proof/Machine/HaltCommands.lean ====
section
/-! DEFINITION. The commands of chapter 6: power, the retained store, ALL STOP, CLEAR HALT, RESTART;
and the tick of the clock (R173). -/

namespace Sys2Proof.Machine

/-- R95, R97: main power comes. -/
def execPowerOn (s : State) : Host.Outcome State Fault Refusal := .next s.powerUp

/-- R94: main power fails. -/
def execPowerFail (s : State) : Host.Outcome State Fault Refusal :=
  .next (if s.powered then s.losePower else s)

/-- R94: the oldest update of the retained store is complete. -/
def execRetainedUpdateComplete (s : State) : Host.Outcome State Fault Refusal :=
  .next (if s.powered then s.completeUpdate else s)

/-- R90: ALL STOP: the reply carries the halt state and the causes once the cause is taken. -/
def allStopRequest (s : State) : Result :=
  let t := (s.handCause .allStop).finish
  accept t.haltFields t

def execAllStop (tag : Octet) (s : State) : Host.Outcome State Fault Refusal :=
  .next (s.request (.allStop tag) tag 0x18#8 allStopRequest)

/-- R91: CLEAR HALT: the reply, accepted or refused, carries the halt state and the causes. -/
def clearHaltRequest (s : State) : Result :=
  if s.clearHaltBarred then { verdict := some .stillActive, data := s.haltFields, state := s }
  else accept s.clearHalt.haltFields s.clearHalt

def execClearHalt (tag : Octet) (s : State) : Host.Outcome State Fault Refusal :=
  .next (s.request (.clearHalt tag) tag 0x19#8 clearHaltRequest)

/-- R98: RESTART is accepted; it takes place when its reply has been sent. -/
def execRestart (tag : Octet) (s : State) : Host.Outcome State Fault Refusal :=
  .next (if s.takesRequest (.restart tag) then
    s.answerRequest tag 0x1A#8 true fun s => accept [] s else s)

/-- R173: the clock advances by one second, on the backup supply. -/
def execClockTick (s : State) : Host.Outcome State Fault Refusal :=
  .next { s with toll := { s.toll with clock := advanceClock s.toll.clock } }

end Sys2Proof.Machine
end

