-- ==== Sys2Proof/Machine/LevelCommands.lean ====
section
/-! DEFINITION. The commands of the Level Monitor (chapter 1). -/

namespace Sys2Proof.Machine

/-- R1, R2: the values SET CHAMBER accepts. -/
def chamberValid (a : ChamberArgs) : Bool :=
  between 300 2000 a.usable && between 50 250 a.width && between 100 800 a.sill &&
    between 200 4000 a.area &&
    decide (a.low ≤ Config.levelLimit) && decide (a.full ≤ Config.levelLimit) &&
    decide (a.high ≤ Config.levelLimit) && decide (a.crest ≤ Config.levelLimit) &&
    decide (a.low < a.full) && decide (a.full < a.high) && decide (a.high < a.crest)

/-- R2: the configuration a request gives. -/
def chamberConfigOf (a : ChamberArgs) : ChamberConfig :=
  { usable := a.usable, width := a.width, sill := a.sill, area := a.area, low := a.low, full := a.full
    high := a.high, crest := a.crest }

/-- R2: the eight values, as the reply returns them. -/
def configFields (g : ChamberConfig) : List Field :=
  [num 2 g.usable, num 1 g.width, num 2 g.sill, num 2 g.area, num 2 g.low, num 2 g.full, num 2 g.high,
    num 2 g.crest]

/-- R2: the record of an accepted SET CHAMBER. -/
def ChamberRec.configure (r : ChamberRec) (g : ChamberConfig) : ChamberRec :=
  { r with config := some g, targetCount := 0 }

/-- R2: SET CHAMBER. An acceptance evaluates an admission opportunity (R115). -/
def chamberRequest (a : ChamberArgs) (s : State) : Result :=
  match chamberOf a.chamber with
  | none => refuse .badValue s
  | some c =>
    if !chamberValid a then refuse .badSetting s
    else if !s.traffic.batches.isEmpty then refuse .inUse s
    else
      let g := chamberConfigOf a
      accept (configFields g) ((s.setChamber c ((s.chamber c).configure g)).markAdmit.finish)

def execSetChamber (tag : Octet) (a : ChamberArgs) (s : State) : Host.Outcome State Fault Refusal :=
  .next (s.request (.setChamber tag a) tag 0x01#8 (chamberRequest a))

/-- R3: SET LEVEL SETTINGS. -/
def levelSettingsRequest (a : LevelSettings) (s : State) : Result :=
  let v := clampLevelSettings a
  accept (levelSettingFields v) { s with level := { s.level with settings := v } }

def execSetLevelSettings (tag : Octet) (a : LevelSettings) (s : State) :
    Host.Outcome State Fault Refusal :=
  .next (s.request (.setLevelSettings tag a) tag 0x02#8 (levelSettingsRequest a))

/-- R6: a changed trust setting: the counters are cleared, and a dispute ends. -/
def State.changeTrust (s : State) (c : Chamber) (t : Trust) : State :=
  let r := s.chamber c
  let ends := decide (r.condition = .disputed)
  let u := (s.setChamber c
    { r with trust := t, dispute := 0, targetCount := 0
             condition := if ends then .degraded else r.condition }).clearEqual c
  if ends then u.noticeDispute c false else u

/-- R6: SET TRUST. -/
def trustRequest (chamber trust : Nat) (s : State) : Result :=
  match chamberOf chamber, trustOf trust with
  | some c, some t =>
    accept []
      (if (s.chamber c).trust = t then s else s.changeTrust c t)
  | _, _ => refuse .badValue s

def execSetTrust (tag : Octet) (chamber trust : Nat) (s : State) : Host.Outcome State Fault Refusal :=
  .next (s.request (.setTrust tag chamber trust) tag 0x03#8 (trustRequest chamber trust))

/-- R22: READ CHAMBER. -/
def readChamberRequest (chamber : Nat) (s : State) : Result :=
  match chamberOf chamber with
  | some c => accept (s.chamberFields c) s
  | none => refuse .badValue s

def execReadChamber (tag : Octet) (chamber : Nat) (s : State) : Host.Outcome State Fault Refusal :=
  .next (s.request (.readChamber tag chamber) tag 0x04#8 (readChamberRequest chamber))

/-- R12: the surge blank timer of a chamber expires. -/
def execSurgeBlankExpiry (c : Chamber) (s : State) : Host.Outcome State Fault Refusal :=
  .next (s.event fun s => s.endSurge c)

end Sys2Proof.Machine
end

