-- ==== Sys2Proof/Machine/LineCommands.lean ====
section
/-! DEFINITION. The commands of the Station Line Controller (chapter 5). A line event that cannot fall
where the round stands changes nothing (log 13). -/

namespace Sys2Proof.Machine

/-- R68: SET LINE RATE. -/
def lineRateRequest (rate : Nat) (s : State) : Result :=
  match rateOf rate with
  | none => refuse .badValue s
  | some r =>
    if r = .fast ∧ s.halt.state ≠ .running then refuse .halted s
    else accept [] (if s.line.rate = r then s else (s.changeRate r).finish)

def execSetLineRate (tag : Octet) (rate : Nat) (s : State) : Host.Outcome State Fault Refusal :=
  .next (s.request (.setLineRate tag rate) tag 0x14#8 (lineRateRequest rate))

/-- R80: RESET STATION. -/
def resetStationRequest (station : Nat) (s : State) : Result :=
  match stationOf station with
  | none => refuse .noSuchStation s
  | some k =>
    if s.halt.state ≠ .running then refuse .halted s
    else if s.stationInUse k then refuse .inUse s
    else accept [] (s.placeStationReset k)

def execResetStation (tag : Octet) (station : Nat) (s : State) : Host.Outcome State Fault Refusal :=
  .next (s.request (.resetStation tag station) tag 0x15#8 (resetStationRequest station))

/-- R85: READ STATION. -/
def readStationRequest (station : Nat) (s : State) : Result :=
  match stationOf station with
  | none => refuse .noSuchStation s
  | some k => accept (s.stationSummary k) s

def execReadStation (tag : Octet) (station : Nat) (s : State) : Host.Outcome State Fault Refusal :=
  .next (s.request (.readStation tag station) tag 0x16#8 (readStationRequest station))

/-- R69, R70: a poll slot begins. -/
def execPollSlotStart (k : Station) (s : State) : Host.Outcome State Fault Refusal :=
  .next (s.event fun s => if s.slotDue k then s.beginPoll k else s)

/-- R70, R71, R72: an answer to the poll in progress: handed on when good, a failed poll otherwise. -/
def State.answered (s : State) (k : Station) (a : Answer) : State :=
  match s.pollOf k with
  | none => s
  | some p =>
    if s.goodAnswer k p a then ((s.takeAnswer k p a).finish).hear k else (s.failPoll k).finish

def execGoodAnswer (k : Station) (a : Answer) (s : State) : Host.Outcome State Fault Refusal :=
  .next (s.event fun s => s.answered k a)

/-- R72: the poll in progress has no good answer by the end of its slot. -/
def execPollFailed (k : Station) (s : State) : Host.Outcome State Fault Refusal :=
  .next (s.event fun s => if (s.pollOf k).isSome then (s.failPoll k).finish else s)

/-- R74: an alarm frame in the open slot, at most one completed in each; applied while its station is
ONLINE. -/
def State.alarmArrives (s : State) (k : Station) (r : StationReport) : State :=
  if s.alarmTaken k r then (s.markAlarm.takeAlarm k r).finish
  else if s.alarmHeard then s.markAlarm else s

def execAlarmFrame (k : Station) (r : StationReport) (s : State) : Host.Outcome State Fault Refusal :=
  .next (s.event fun s => s.alarmArrives k r)

/-- R67, R72, R74: a frame that is no good answer and no alarm frame that can be read, from its octets. One
that fails its check, names another address or stands outside its slot is discarded without acting on it.
Any other is an answer that is not good, which fails its poll, or fills the open slot (log 13). -/
def State.frameArrives (s : State) (octets : List Octet) : State :=
  match lineSender octets with
  | none => s
  | some k =>
    if s.answerDue k then (s.failPoll k).finish
    else if s.alarmHeard then s.markAlarm
    else s

def execStationFrameDiscarded (octets : List Octet) (s : State) : Host.Outcome State Fault Refusal :=
  .next (s.event fun s => s.frameArrives octets)

/-- R69: whether the open slot can end now. -/
def State.roundEndDue (s : State) : Bool := s.inOpenSlot

/-- R69: the round end. -/
def State.endRound (s : State) : State :=
  (((s.setSlot none).levelRoundEnd.emit .roundEnd).markRetest).finish

def execRoundEnd (s : State) : Host.Outcome State Fault Refusal :=
  .next (s.event fun s => if s.roundEndDue then s.endRound else s)

/-- R83: the halt pulse ends, and the first round begins at once. -/
def execHaltPulseEnd (s : State) : Host.Outcome State Fault Refusal :=
  .next (s.event fun s =>
    if s.line.pulse then s.setLine { s.line with pulse := false, slot := none } else s)

/-- R84: the line is held by another device alone, so that its stretch is timed, and LINE HALT has not been
handed for it. -/
def State.stretchTimed (s : State) : Bool := s.line.stretch == some false && !s.line.pulse

/-- R84: a dominant stretch has lasted 250 ms, timed from the part's release while its pulse has held the
line: the cause LINE HALT, once for that stretch. -/
def execLineHalt (s : State) : Host.Outcome State Fault Refusal :=
  .next (s.event fun s =>
    if s.stretchTimed then
      ((s.setLine { s.line with stretch := some true }).handCause .lineHalt).finish
    else s)

/-- R84: another device begins to hold the line dominant, whether the part is powered or not. -/
def execDominantStretchStart (s : State) : Host.Outcome State Fault Refusal :=
  .next (if s.line.stretch.isNone then s.setLine { s.line with stretch := some false } else s)

/-- R84: the other device releases the line. -/
def execDominantStretchEnd (s : State) : Host.Outcome State Fault Refusal :=
  .next (s.setLine { s.line with stretch := none })

end Sys2Proof.Machine
end

