-- ==== Sys2Proof/Machine/MachineryCommands.lean ====
section
/-! DEFINITION. The commands of the Machinery Supervisor (chapters 2 and 3). -/

namespace Sys2Proof.Machine

/-- R26: SET MOVEMENT LIMITS. A changeover interval it lowers tests no waiting movement (log 2). -/
def movementLimitsRequest (a : MovementLimits) (s : State) : Result :=
  let v := clampMovementLimits a
  accept (limitFields v) { s with mach := { s.mach with limits := v } }

def execSetMovementLimits (tag : Octet) (a : MovementLimits) (s : State) :
    Host.Outcome State Fault Refusal :=
  .next (s.request (.setMovementLimits tag a) tag 0x08#8 (movementLimitsRequest a))

/-- R55: an unrecorded input fault ceases to act when its input's mode is set to OFF. -/
def State.ceaseOff (s : State) (k : Station) (m : InputModes) : State :=
  [Input.obstruction, .overload, .ice].foldl
    (fun s i => if inputMode m i = .off then s.setUnrecorded k i false else s) s

/-- R43: SET INPUT MODES. -/
def inputModesRequest (a : InputModesArgs) (s : State) : Result :=
  match stationOf a.station with
  | none => refuse .noSuchStation s
  | some k =>
    match modeOf a.obstruction, modeOf a.overload, modeOf a.ice with
    | some x, some y, some z =>
      let m : InputModes := ⟨x, y, z⟩
      let t := { s with mach := { s.mach with modes := s.mach.modes.set k m } }
      accept (modeFields m) (t.ceaseOff k m)
    | _, _, _ => refuse .badValue s

def execSetInputModes (tag : Octet) (a : InputModesArgs) (s : State) :
    Host.Outcome State Fault Refusal :=
  .next (s.request (.setInputModes tag a) tag 0x0C#8 (inputModesRequest a))

/-- R48: SET FAULT TIMING. -/
def faultTimingRequest (a : FaultTiming) (s : State) : Result :=
  let v := clampFaultTiming a
  accept (timingFields v) { s with mach := { s.mach with timing := v } }

def execSetFaultTiming (tag : Octet) (a : FaultTiming) (s : State) : Host.Outcome State Fault Refusal :=
  .next (s.request (.setFaultTiming tag a) tag 0x0D#8 (faultTimingRequest a))

/-- R50: the cause of a record that CLEAR FAULT finds still active. -/
def State.faultActive (s : State) (r : FaultRec) : Bool :=
  match r.kind, r.source with
  | .input i, .station k => s.held k i != some false
  | .lampFail, .face f => (s.face f).lamp != some true
  | _, _ => false

/-- R50: CLEAR FAULT. -/
def clearFaultRequest (number : Nat) (s : State) : Result :=
  match s.mach.faults.find? fun r => r.number == number with
  | none => refuse .noSuchFault s
  | some r =>
    if !r.latched then refuse .notLatched s
    else if s.faultActive r then refuse .stillActive s
    else accept [] (((s.dropFault r true).afterRemoval r).finish)

def execClearFault (tag : Octet) (number : Nat) (s : State) : Host.Outcome State Fault Refusal :=
  .next (s.request (.clearFault tag number) tag 0x0E#8 (clearFaultRequest number))

/-- R57: what stands beside a record: the held state of its input, and the resume delay remaining, each
absent where the record has none (R181). -/
def State.faultBeside (s : State) (r : FaultRec) : List Field :=
  [match r.kind, r.source with
    | .input i, .station k => inputField (s.held k i)
    | _, _ => opt 1 none,
   opt 2 (s.remaining r.releasing)]

/-- R57: the unrecorded input faults that act, as station and input pairs, in log 12's order. -/
def State.unrecordedPairs (s : State) : List (Station × Input) :=
  allStations.flatMap fun k => (allInputs.filter fun i => s.unrecorded k i).map fun i => (k, i)

/-- R57: READ FAULTS. -/
def readFaultsRequest (start : Nat) (s : State) : Result :=
  if 15 < start then refuse .badValue s
  else
    accept
      ([num 1 s.mach.faults.length, num 1 s.mach.nextFault] ++
        collection (fun r => faultFields r ++ s.faultBeside r) (window start 8 s.mach.faults) ++
        collection (fun (x : Station × Input) => [num 1 (stationCode x.1), num 1 (inputCode x.2)])
          s.unrecordedPairs) s

def execReadFaults (tag : Octet) (position : Nat) (s : State) : Host.Outcome State Fault Refusal :=
  .next (s.request (.readFaults tag position) tag 0x0F#8 (readFaultsRequest position))

/-- R30: the expiry of a changeover timer: the waiting movements are tested. A timer that has elapsed
before now has nothing to expire. -/
def State.endChangeover (s : State) (c : Chamber) : State :=
  match s.mach.changeover.get c with
  | some t =>
    if s.now ≤ t + s.mach.limits.changeover then
      (s.reach (t + s.mach.limits.changeover)).markRetest.finish
    else s
  | none => s

def execChangeoverTimerExpiry (c : Chamber) (s : State) : Host.Outcome State Fault Refusal :=
  .next (s.event fun s => s.endChangeover c)

/-- R34, R35: the start limit of an item's movement expires. -/
def execStartLimitExpiry (i : Item) (s : State) : Host.Outcome State Fault Refusal :=
  .next (s.event fun s => if (s.startLimitOf i).isSome then (s.endStartLimit i).finish else s)

/-- R34, R35: the travel limit of an item's movement expires. -/
def execTravelLimitExpiry (i : Item) (s : State) : Host.Outcome State Fault Refusal :=
  .next (s.event fun s => if (s.travelLimitOf i).isSome then (s.endTravelLimit i).finish else s)

/-- R44: the overload blank timer of a station expires. -/
def execOverloadBlankExpiry (k : Station) (s : State) : Host.Outcome State Fault Refusal :=
  .next (s.event fun s =>
    if (s.mach.overload.get k).expiry.isSome then (s.endOverloadBlank k).finish else s)

/-- R47: the resume delay of a fault record expires. -/
def execResumeDelayExpiry (number : Nat) (s : State) : Host.Outcome State Fault Refusal :=
  .next (s.event fun s =>
    if (s.resumeDelayOf number).isSome then (s.endResumeDelay number).finish else s)

end Sys2Proof.Machine
end

