-- ==== Sys2Proof/Machine/ReceiptCommands.lean ====
section
/-! DEFINITION. The commands of the Receipt Store and of the day account and clock (chapter 11). -/

namespace Sys2Proof.Machine

/-- R168: SET RECEIPT MARGIN. -/
def receiptMarginRequest (margin : Nat) (s : State) : Result :=
  let m := clampReceiptMargin margin
  accept [num 1 m] ({ s with receipts := { s.receipts with margin := m } } : State).evaluateReceipts

def execSetReceiptMargin (tag : Octet) (margin : Nat) (s : State) : Host.Outcome State Fault Refusal :=
  .next (s.request (.setReceiptMargin tag margin) tag 0x40#8 (receiptMarginRequest margin))

/-- R169: PEEK RECEIPTS. -/
def peekRequest (count : Nat) (s : State) : Result :=
  if between 1 4 count then accept (s.peekFields count) s else refuse .badValue s

def execPeekReceipts (tag : Octet) (count : Nat) (s : State) : Host.Outcome State Fault Refusal :=
  .next (s.request (.peekReceipts tag count) tag 0x41#8 (peekRequest count))

/-- R170: an accepted release, up to the hand-overs that follow it. -/
def State.release (s : State) (rest : List Receipt) : State :=
  (({ s with receipts := { s.receipts with queue := rest } } : State).evaluateReceipts.evaluateHold).markAdmit

/-- R170: RELEASE RECEIPTS. The reply's counts are those after the release. -/
def releaseRequest (day number : Nat) (s : State) : Result :=
  if !(between 1 9999 day && between 1 Config.receiptNumbers number) then refuse .badValue s
  else
    match releaseUpTo day number s.receipts.queue with
    | none => refuse .noSuchReceipt s
    | some rest =>
      let t := s.release rest
      accept [num 1 (s.receipts.queue.length - rest.length), num 1 rest.length, num 1 t.freeSlots] t.finish

def execReleaseReceipts (tag : Octet) (day receipt : Nat) (s : State) :
    Host.Outcome State Fault Refusal :=
  .next (s.request (.releaseReceipts tag day receipt) tag 0x42#8 (releaseRequest day receipt))

/-- R172: CLOSE DAY. A rise of the free slot count is handed to the Traffic Scheduler (R166). -/
def closeDayRequest (s : State) : Result :=
  let next := nextNumber 9999 s.toll.account.day
  if s.receipts.queue.any fun r => r.day == next then refuse .inUse s
  else
    let t := (s.setAccount (openDay s.toll.account s.toll.clock)).evaluateHold
    accept (accountFields s.toll.account ++ [num 3 s.toll.clock])
      (if s.freeSlots < t.freeSlots then t.markAdmit.finish else t)

def execCloseDay (tag : Octet) (s : State) : Host.Outcome State Fault Refusal :=
  .next (s.request (.closeDay tag) tag 0x43#8 closeDayRequest)

/-- R173: SET CLOCK. -/
def clockRequest (time : Nat) (s : State) : Result :=
  if 86399 < time then refuse .badValue s
  else accept [num 3 time] { s with toll := { s.toll with clock := time } }

def execSetClock (tag : Octet) (time : Nat) (s : State) : Host.Outcome State Fault Refusal :=
  .next (s.request (.setClock tag time) tag 0x44#8 (clockRequest time))

/-- R174: READ TOTALS. -/
def execReadTotals (tag : Octet) (s : State) : Host.Outcome State Fault Refusal :=
  .next (s.request (.readTotals tag) tag 0x45#8 fun s => accept s.totalFields s)

/-- R168: the repeat timer of RECEIPTS NEAR FULL expires. -/
def execReceiptsRepeatExpiry (s : State) : Host.Outcome State Fault Refusal :=
  .next (s.event State.endReceiptsRepeat)

end Sys2Proof.Machine
end

