-- ==== Sys2Proof/Machine/RunCommands.lean ====
section
/-! DEFINITION. The commands of the Run Controller (chapter 9). -/

namespace Sys2Proof.Machine

/-- R139: SET RUN LIMITS. -/
def runLimitsRequest (waterLimit moveWait : Nat) (s : State) : Result :=
  let w := clampRunLimit waterLimit
  let m := clampRunLimit moveWait
  accept [num 2 w, num 2 m] (s.setTraffic { s.traffic with waterLimit := w, moveWait := m })

def execSetRunLimits (tag : Octet) (waterLimit moveWait : Nat) (s : State) :
    Host.Outcome State Fault Refusal :=
  .next (s.request (.setRunLimits tag waterLimit moveWait) tag 0x30#8 (runLimitsRequest waterLimit moveWait))

/-- R142: the batch's current step is a gate step at the gate in phase OPEN, not suspended, with its
entry face reported PROCEED. -/
def State.readyToConfirm (s : State) (b : Batch) (g : Station) : Bool :=
  !b.suspended && stepWork b.current == .passage g && b.phase? == some .opened &&
    (s.face (entryFace b.direction g)).reported == some .proceed

/-- R101: a member moved by a confirmation; at the exit step it keeps the chamber it left. -/
def movedMember (dest : Option Chamber) (p : Passage) : Passage :=
  { p with state := .inFlight
           location := match dest with | some c => .chamber c | none => p.location }

/-- R132, R142: the batch after its confirmation. -/
def Batch.confirm (b : Batch) (g : Station) : Batch :=
  { b with
    moved := true
    members := b.members.map (movedMember (destination b.direction g))
    entered := b.entered || decide (b.position = .two)
    cleared := b.cleared || decide (b.position = .four) }

/-- R112, R142: the confirmations that set a flag, which is handed to the Traffic Scheduler. -/
def setsFlag (n : StepNo) : Bool := n == .two || n == .four

/-- R142: an accepted CONFIRM MOVED, up to the hand-overs that follow it. -/
def State.confirm (s : State) (b : Batch) (g : Station) : State :=
  let s := s.modBatch b.number fun x => x.confirm g
  let s := (s.evaluateQueue b.direction).enterStopping b g
  if setsFlag b.position then s.markAdmit else s

/-- R142: CONFIRM MOVED. -/
def confirmRequest (batch gate : Nat) (s : State) : Result :=
  match stationOf gate with
  | none => refuse .badValue s
  | some g =>
    match s.batch? batch with
    | none => refuse .noSuchBatch s
    | some b =>
      if s.readyToConfirm b g then
        accept [num 1 b.number, num 1 (stationCode g), opt 1 ((destination b.direction g).map chamberCode)]
          ((s.confirm b g).finish)
      else refuse .notReady s

def execConfirmMoved (tag : Octet) (batch gate : Nat) (s : State) : Host.Outcome State Fault Refusal :=
  .next (s.request (.confirmMoved tag batch gate) tag 0x31#8 (confirmRequest batch gate))

/-- R147: the step and the reasons of a batch, which the reply of SUSPEND BATCH carries. -/
def State.suspendReply (s : State) (n : Nat) : List Field :=
  match s.batch? n with
  | some b => [num 1 (stepCodeOf b.current), setField 2 reasonCode b.reasons]
  | none => []

/-- R147: SUSPEND BATCH. -/
def suspendRequest (n : Nat) (s : State) : Result :=
  match s.batch? n with
  | none => refuse .noSuchBatch s
  | some b =>
    if b.suspended then refuse .alreadySuspended s
    else
      let t := (s.suspend n .byRequest).finish
      accept (t.suspendReply n) t

def execSuspendBatch (tag : Octet) (batch : Nat) (s : State) : Host.Outcome State Fault Refusal :=
  .next (s.request (.suspendBatch tag batch) tag 0x32#8 (suspendRequest batch))

/-- R148: RESUME BATCH. -/
def resumeRequest (n : Nat) (s : State) : Result :=
  match s.batch? n with
  | none => refuse .noSuchBatch s
  | some b =>
    if !b.suspended then refuse .notSuspended s
    else if s.halt.state ≠ .running then refuse .halted s
    else if s.stillActive b.direction (.main b.direction b.position) then refuse .stillActive s
    else
      accept [num 1 b.number, num 1 (stepCode b.position)]
        ((s.modBatch n (resumed s.meterLevel)).finish)

def execResumeBatch (tag : Octet) (batch : Nat) (s : State) : Host.Outcome State Fault Refusal :=
  .next (s.request (.resumeBatch tag batch) tag 0x33#8 (resumeRequest batch))

/-- R138: the water step limit of a batch's step expires. -/
def execWaterStepLimitExpiry (n : Nat) (s : State) : Host.Outcome State Fault Refusal :=
  .next (s.event fun s => if s.waterLimitRuns n then (s.endWaterLimit n).finish else s)

/-- R141: the move wait of a batch's step expires. -/
def execMoveWaitExpiry (n : Nat) (s : State) : Host.Outcome State Fault Refusal :=
  .next (s.event fun s => s.endMoveWait n)

end Sys2Proof.Machine
end

