-- ==== Sys2Proof/Machine/SignalCommands.lean ====
section
/-! DEFINITION. The commands of Signal Control (chapter 4). -/

namespace Sys2Proof.Machine

/-- R64: SET SIGNAL INTERVAL; a waiting PROCEED is tested against the new interval at once. -/
def signalIntervalRequest (interval : Nat) (s : State) : Result :=
  let v := clampSignalInterval interval
  accept [num 2 v] (({ s with signal := { s.signal with interval := v } } : State).finish)

def execSetSignalInterval (tag : Octet) (interval : Nat) (s : State) :
    Host.Outcome State Fault Refusal :=
  .next (s.request (.setSignalInterval tag interval) tag 0x10#8 (signalIntervalRequest interval))

/-- R61: the far face's stop-since time becomes one interval old while the other face's request waits;
otherwise there is nothing to test. -/
def State.intervalElapsed (s : State) (far : Face) : State :=
  match (s.face far).stopSince with
  | some t =>
    if s.proceedWaits (farFace far) then (s.reach (t + s.signal.interval)).finish else s
  | none => s

def execAllStopIntervalElapsed (far : Face) (s : State) : Host.Outcome State Fault Refusal :=
  .next (s.event fun s => s.intervalElapsed far)

end Sys2Proof.Machine
end

