-- ==== Sys2Proof/Machine/TollCommands.lean ====
section
/-! DEFINITION. The commands of the Toll Unit on tariffs (chapter 10). -/

namespace Sys2Proof.Machine

/-- R152, R153: SET TARIFF. -/
def tariffRequest (e : Edition) (s : State) : Result :=
  if editionValid e then
    accept [num 2 e.number, flag s.toll.pending.isSome, opt 3 (s.toll.pending.map (·.number))]
      { s with toll := { s.toll with pending := some e } }
  else refuse .badTariff s

def execSetTariff (tag : Octet) (e : Edition) (s : State) : Host.Outcome State Fault Refusal :=
  .next (s.request (.setTariff tag e) tag 0x38#8 (tariffRequest e))

/-- Whether a slot holds an edition of this number. -/
def slotIs (slot : Option Edition) (n : Nat) : Bool :=
  match slot with
  | some e => e.number == n
  | none => false

/-- R154: the first reason, if any, that refuses a switch. -/
def State.switchRefusal (s : State) : Option RefuseCode :=
  match s.toll.pending with
  | none => some .noPendingTariff
  | some p =>
    if slotIs s.toll.current p.number then some .sameEdition
    else
      match s.toll.previous with
      | some q => if s.batchesUnder q.number = 0 then none else some .previousInUse
      | none => none

/-- R154: an accepted switch; one that brings a current edition into being is handed on. -/
def State.switchTariff (s : State) : State :=
  let t := { s with toll := switchSlots s.toll }
  if s.toll.current.isNone then t.markAdmit.finish else t

/-- R154: SWITCH TARIFF. -/
def switchRequest (s : State) : Result :=
  match s.switchRefusal with
  | some c => refuse c s
  | none =>
    accept (s.toll.pending.toList.map (fun e => num 2 e.number) ++
      [opt 3 (s.toll.current.map (·.number))]) s.switchTariff

def execSwitchTariff (tag : Octet) (s : State) : Host.Outcome State Fault Refusal :=
  .next (s.request (.switchTariff tag) tag 0x39#8 switchRequest)

/-- R155: READ TARIFF: CURRENT 0, PREVIOUS 1, PENDING 2. -/
def readTariffRequest (slot : Nat) (s : State) : Result :=
  match slot with
  | 0 => accept (s.tariffFields s.toll.current) s
  | 1 => accept (s.tariffFields s.toll.previous) s
  | 2 => accept (pendingFields s.toll.pending) s
  | _ => refuse .badValue s

def execReadTariff (tag : Octet) (slot : Nat) (s : State) : Host.Outcome State Fault Refusal :=
  .next (s.request (.readTariff tag slot) tag 0x3A#8 (readTariffRequest slot))

/-- R164: a quote from an edition slot. -/
def quoteFrom (slot : Option Edition) (missing : RefuseCode) (v : VesselArgs) (p : Priority)
    (night : Bool) (s : State) : Result :=
  match slot with
  | some e => accept (s.quoteFields e v p night) s
  | none => refuse missing s

/-- R164: QUOTE FEE: CURRENT 0, PENDING 1. -/
def quoteRequest (a : QuoteArgs) (s : State) : Result :=
  match priorityOf a.vessel.priority, flagOf a.night with
  | some p, some night =>
    if !measuresValid a.vessel then refuse .badValue s
    else
      match a.choice with
      | 0 => quoteFrom s.toll.current .notConfigured a.vessel p night s
      | 1 => quoteFrom s.toll.pending .noPendingTariff a.vessel p night s
      | _ => refuse .badValue s
  | _, _ => refuse .badValue s

def execQuoteFee (tag : Octet) (a : QuoteArgs) (s : State) : Host.Outcome State Fault Refusal :=
  .next (s.request (.quoteFee tag a) tag 0x3B#8 (quoteRequest a))

end Sys2Proof.Machine
end

