-- ==== Sys2Proof/Machine/TrafficCommands.lean ====
section
/-! DEFINITION. The commands of the Traffic Scheduler on the approach queues and the flight mode
(chapter 7). -/

namespace Sys2Proof.Machine

/-- R102: the reference is held already. -/
def State.duplicate (s : State) (r : List Octet) : Bool := s.allPassages.any fun p => p.reference == r

/-- R102: an accepted registration. -/
def acceptVessel (a : VesselArgs) (d : Direction) (p : Priority) (s : State) : Result :=
  let s := s.stampReady
  let r := s.newPassage a d p
  let t := s.addPassage r
  accept [num 2 r.number, num 1 (positionOf r.number (t.queueOf d))] ((t.evaluateQueue d).markAdmit.finish)

/-- R102: REGISTER VESSEL. -/
def registerRequest (a : VesselArgs) (s : State) : Result :=
  match directionOf a.direction, priorityOf a.priority with
  | some d, some p =>
    if !referenceValid a.reference || !measuresValid a then refuse .badValue s
    else if s.toll.current.isNone then refuse .notConfigured s
    else
      match s.unfit a.length a.beam a.draught with
      | some c => refuse c s
      | none =>
        if s.duplicate a.reference then refuse .duplicate s
        else if Config.queueCapacity ≤ s.charge d then refuse .queueFull s
        else acceptVessel a d p s
  | _, _ => refuse .badValue s

def execRegisterVessel (tag : Octet) (a : VesselArgs) (s : State) : Host.Outcome State Fault Refusal :=
  .next (s.request (.registerVessel tag a) tag 0x20#8 (registerRequest a))

/-- R107: the pending order names the vessel. -/
def State.orderHolds (s : State) (n : Nat) : Bool :=
  match s.traffic.order with
  | some o => o.passages.contains n
  | none => false

/-- R107: take a record out of its queue. -/
def State.removeQueued (s : State) (p : Passage) : State :=
  s.setQueueOf p.direction ((s.queueOf p.direction).filter fun q => q.number != p.number)

/-- R106, R107: WITHDRAW VESSEL. -/
def withdrawRequest (number : Nat) (s : State) : Result :=
  match s.queued? number with
  | none =>
    if s.allPassages.any fun p => p.number == number then refuse .inBatch s
    else refuse .noSuchVessel s
  | some p =>
    let dropped := s.orderHolds number
    let t := s.removeQueued p
    let t := if dropped then t.discardOrder else t
    accept [flag dropped] ((t.evaluateQueue p.direction).markAdmit.finish)

def execWithdrawVessel (tag : Octet) (passage : Nat) (s : State) : Host.Outcome State Fault Refusal :=
  .next (s.request (.withdrawVessel tag passage) tag 0x21#8 (withdrawRequest passage))

/-- R105, R109: SET QUEUE LIMITS; the UP queue is evaluated before the DOWN queue (log 27). -/
def queueLimitsRequest (margin skipLimit : Nat) (s : State) : Result :=
  let m := clampQueueMargin margin
  let l := clampSkipLimit skipLimit
  let t := (s.setTraffic { s.traffic with margin := m, skipLimit := l }).lowerAllSkips l
  accept [num 1 m, num 1 l] (((t.evaluateQueue .up).evaluateQueue .down).markAdmit.finish)

def execSetQueueLimits (tag : Octet) (margin skipLimit : Nat) (s : State) :
    Host.Outcome State Fault Refusal :=
  .next (s.request (.setQueueLimits tag margin skipLimit) tag 0x22#8 (queueLimitsRequest margin skipLimit))

/-- R110: a change of mode; a pending order is discarded when the mode leaves KEEPER. -/
def State.changeMode (s : State) (m : FlightMode) : State :=
  let t := if s.traffic.mode = .keeper then s.discardOrder else s
  (t.setTraffic { t.traffic with mode := m }).markAdmit.finish

/-- R110: SET MODE. -/
def modeRequest (mode : Nat) (s : State) : Result :=
  match flightModeOf mode with
  | none => refuse .badValue s
  | some m =>
    if s.traffic.mode = m then accept [flag false, num 1 (flightModeCode m)] s
    else
      accept [flag (s.traffic.mode == .keeper && s.traffic.order.isSome), num 1 (flightModeCode m)]
        (s.changeMode m)

def execSetMode (tag : Octet) (mode : Nat) (s : State) : Host.Outcome State Fault Refusal :=
  .next (s.request (.setMode tag mode) tag 0x23#8 (modeRequest mode))

/-- R111: READ QUEUE. -/
def readQueueRequest (direction position : Nat) (s : State) : Result :=
  match directionOf direction with
  | none => refuse .badValue s
  | some d => if 23 < position then refuse .badValue s else accept (s.queueReply d position) s

def execReadQueue (tag : Octet) (direction position : Nat) (s : State) :
    Host.Outcome State Fault Refusal :=
  .next (s.request (.readQueue tag direction position) tag 0x24#8 (readQueueRequest direction position))

end Sys2Proof.Machine
end

