-- ==== Sys2Proof/Machine/Dispatch.lean ====
section
/-! DEFINITION. One arm per command: a direct call of its meaning. -/

namespace Sys2Proof.Machine

def exec (i : Instr) (s : State) : Host.Outcome State Fault Refusal :=
  match i with
  | .powerOn => Sys2Proof.Machine.execPowerOn s
  | .retainedUpdateComplete => Sys2Proof.Machine.execRetainedUpdateComplete s
  | .consoleFrameComplete octets => Sys2Proof.Machine.execConsoleFrameComplete octets s
  | .consoleFrameGap octets => Sys2Proof.Machine.execConsoleFrameGap octets s
  | .refuseUnknownKind frame => Sys2Proof.Machine.execRefuseUnknownKind frame s
  | .refuseMalformed frame => Sys2Proof.Machine.execRefuseMalformed frame s
  | .transmitterFree => Sys2Proof.Machine.execTransmitterFree s
  | .setChamber tag a => Sys2Proof.Machine.execSetChamber tag a s
  | .setLevelSettings tag a => Sys2Proof.Machine.execSetLevelSettings tag a s
  | .setTrust tag chamber trust => Sys2Proof.Machine.execSetTrust tag chamber trust s
  | .readChamber tag chamber => Sys2Proof.Machine.execReadChamber tag chamber s
  | .setMovementLimits tag a => Sys2Proof.Machine.execSetMovementLimits tag a s
  | .setInputModes tag a => Sys2Proof.Machine.execSetInputModes tag a s
  | .setFaultTiming tag a => Sys2Proof.Machine.execSetFaultTiming tag a s
  | .clearFault tag number => Sys2Proof.Machine.execClearFault tag number s
  | .readFaults tag position => Sys2Proof.Machine.execReadFaults tag position s
  | .setSignalInterval tag interval => Sys2Proof.Machine.execSetSignalInterval tag interval s
  | .setLineRate tag rate => Sys2Proof.Machine.execSetLineRate tag rate s
  | .resetStation tag station => Sys2Proof.Machine.execResetStation tag station s
  | .readStation tag station => Sys2Proof.Machine.execReadStation tag station s
  | .allStop tag => Sys2Proof.Machine.execAllStop tag s
  | .clearHalt tag => Sys2Proof.Machine.execClearHalt tag s
  | .restart tag => Sys2Proof.Machine.execRestart tag s
  | .registerVessel tag a => Sys2Proof.Machine.execRegisterVessel tag a s
  | .withdrawVessel tag passage => Sys2Proof.Machine.execWithdrawVessel tag passage s
  | .setQueueLimits tag margin skipLimit => Sys2Proof.Machine.execSetQueueLimits tag margin skipLimit s
  | .setMode tag mode => Sys2Proof.Machine.execSetMode tag mode s
  | .readQueue tag direction position => Sys2Proof.Machine.execReadQueue tag direction position s
  | .setAdmissionSettings tag a => Sys2Proof.Machine.execSetAdmissionSettings tag a s
  | .orderBatch tag passages => Sys2Proof.Machine.execOrderBatch tag passages s
  | .cancelOrder tag => Sys2Proof.Machine.execCancelOrder tag s
  | .abandonBatch tag batch => Sys2Proof.Machine.execAbandonBatch tag batch s
  | .readBatch tag batch => Sys2Proof.Machine.execReadBatch tag batch s
  | .setRunLimits tag waterLimit moveWait => Sys2Proof.Machine.execSetRunLimits tag waterLimit moveWait s
  | .confirmMoved tag batch gate => Sys2Proof.Machine.execConfirmMoved tag batch gate s
  | .suspendBatch tag batch => Sys2Proof.Machine.execSuspendBatch tag batch s
  | .resumeBatch tag batch => Sys2Proof.Machine.execResumeBatch tag batch s
  | .setTariff tag a => Sys2Proof.Machine.execSetTariff tag a s
  | .switchTariff tag => Sys2Proof.Machine.execSwitchTariff tag s
  | .readTariff tag slot => Sys2Proof.Machine.execReadTariff tag slot s
  | .quoteFee tag a => Sys2Proof.Machine.execQuoteFee tag a s
  | .setReceiptMargin tag margin => Sys2Proof.Machine.execSetReceiptMargin tag margin s
  | .peekReceipts tag count => Sys2Proof.Machine.execPeekReceipts tag count s
  | .releaseReceipts tag day receipt => Sys2Proof.Machine.execReleaseReceipts tag day receipt s
  | .closeDay tag => Sys2Proof.Machine.execCloseDay tag s
  | .setClock tag time => Sys2Proof.Machine.execSetClock tag time s
  | .readTotals tag => Sys2Proof.Machine.execReadTotals tag s
  | .setNotices tag a => Sys2Proof.Machine.execSetNotices tag a s
  | .readFlight tag => Sys2Proof.Machine.execReadFlight tag s
  | .readSettings tag => Sys2Proof.Machine.execReadSettings tag s
  | .pollSlotStart station => Sys2Proof.Machine.execPollSlotStart station s
  | .goodAnswer station answer => Sys2Proof.Machine.execGoodAnswer station answer s
  | .pollFailed station => Sys2Proof.Machine.execPollFailed station s
  | .alarmFrame station report => Sys2Proof.Machine.execAlarmFrame station report s
  | .stationFrameDiscarded octets => Sys2Proof.Machine.execStationFrameDiscarded octets s
  | .roundEnd => Sys2Proof.Machine.execRoundEnd s
  | .haltPulseEnd => Sys2Proof.Machine.execHaltPulseEnd s
  | .lineHalt => Sys2Proof.Machine.execLineHalt s
  | .surgeBlankExpiry chamber => Sys2Proof.Machine.execSurgeBlankExpiry chamber s
  | .changeoverTimerExpiry chamber => Sys2Proof.Machine.execChangeoverTimerExpiry chamber s
  | .startLimitExpiry item => Sys2Proof.Machine.execStartLimitExpiry item s
  | .travelLimitExpiry item => Sys2Proof.Machine.execTravelLimitExpiry item s
  | .overloadBlankExpiry station => Sys2Proof.Machine.execOverloadBlankExpiry station s
  | .resumeDelayExpiry fault => Sys2Proof.Machine.execResumeDelayExpiry fault s
  | .waterStepLimitExpiry batch => Sys2Proof.Machine.execWaterStepLimitExpiry batch s
  | .moveWaitExpiry batch => Sys2Proof.Machine.execMoveWaitExpiry batch s
  | .allStopIntervalElapsed far => Sys2Proof.Machine.execAllStopIntervalElapsed far s
  | .receiptsRepeatExpiry => Sys2Proof.Machine.execReceiptsRepeatExpiry s
  | .clockTick => Sys2Proof.Machine.execClockTick s
  | .powerFail => Sys2Proof.Machine.execPowerFail s
  | .frameLengthOutOfRange octets => Sys2Proof.Machine.execFrameLengthOutOfRange octets s
  | .dominantStretchStart => Sys2Proof.Machine.execDominantStretchStart s
  | .dominantStretchEnd => Sys2Proof.Machine.execDominantStretchEnd s

end Sys2Proof.Machine
end

