-- ==== Sys2Proof/Safety.lean ====
section
/-! DEFINITION. The terms statements speak in: what the hand-overs at the end of a step never change, the
reply of a request, and the invariants every step keeps. Each invariant on retained state is asked of the
stored images and of the updates in progress too, since a start-up takes its state from them (R95). -/

namespace Sys2Proof.Machine

/-! ### What the end of a step leaves as it is -/

/-- The part of a chamber record that only reports, round ends, expiries and requests change. -/
structure ChamberFixed where
  config : Option ChamberConfig
  trust : Trust
  agreed : Option Nat
  condition : LevelCondition
  dispute : Nat
  high : Bool
  crest : Bool
  surge : Option Nat
  lastKnown : Option Nat
  deriving DecidableEq, Repr

def ChamberRec.fixed (r : ChamberRec) : ChamberFixed :=
  { config := r.config, trust := r.trust, agreed := r.agreed, condition := r.condition
    dispute := r.dispute, high := r.high, crest := r.crest, surge := r.surge, lastKnown := r.lastKnown }

/-- What no hand-over within a step changes: power and time, the console link but for its notices and
reply, the levels as last derived, the settings, the counters of passages, the tariff, the clock, the day,
and the images of the retained store. -/
structure Fixed where
  powered : Bool
  now : Nat
  pending : List Instr
  fragment : List Octet
  order : List ConsoleFrame
  sending : Option Sending
  lastWasReply : Bool
  mask : NoticeMask
  stretch : Option Bool
  settings : LevelSettings
  acting : LevelSettings
  headLevel : Option Nat
  tailLevel : Option Nat
  equal : Quad Nat
  riverHold : Bool
  chambers : Trio ChamberFixed
  inLocal : Quad Bool
  modes : Quad InputModes
  changeover : Trio (Option Nat)
  limits : MovementLimits
  timing : FaultTiming
  interval : Nat
  startUp : StartRecord
  mode : FlightMode
  nextPassage : Nat
  nextStamp : Nat
  margin : Nat
  skipLimit : Nat
  quota : Nat
  spacing : Nat
  followOn : Bool
  waterLimit : Nat
  moveWait : Nat
  current : Option Edition
  previous : Option Edition
  loaded : Option Edition
  clock : Nat
  day : Nat
  opened : Nat
  receiptMargin : Nat
  imageA : Option Image
  imageB : Option Image
  inUse : ImageName
  deriving DecidableEq, Repr

def State.fixed (s : State) : Fixed :=
  { powered := s.powered, now := s.now, pending := s.pending
    fragment := s.console.fragment, order := s.console.order, sending := s.console.sending
    lastWasReply := s.console.lastWasReply, mask := s.console.mask
    stretch := s.line.stretch
    settings := s.level.settings, acting := s.level.acting
    headLevel := s.level.headLevel, tailLevel := s.level.tailLevel
    equal := s.level.equal, riverHold := s.level.riverHold
    chambers := ⟨s.level.chambers.c1.fixed, s.level.chambers.c2.fixed, s.level.chambers.c3.fixed⟩
    inLocal := s.mach.inLocal, modes := s.mach.modes, changeover := s.mach.changeover
    limits := s.mach.limits, timing := s.mach.timing
    interval := s.signal.interval, startUp := s.halt.startUp
    mode := s.traffic.mode, nextPassage := s.traffic.nextPassage, nextStamp := s.traffic.nextStamp
    margin := s.traffic.margin, skipLimit := s.traffic.skipLimit
    quota := s.traffic.quota, spacing := s.traffic.spacing, followOn := s.traffic.followOn
    waterLimit := s.traffic.waterLimit, moveWait := s.traffic.moveWait
    current := s.toll.current, previous := s.toll.previous, loaded := s.toll.pending
    clock := s.toll.clock, day := s.toll.account.day, opened := s.toll.account.opened
    receiptMargin := s.receipts.margin
    imageA := s.store.imageA, imageB := s.store.imageB, inUse := s.store.inUse }

/-- No evaluation of an admission opportunity admits a batch now (R114, R115, R122). -/
def State.admitsNothing (s : State) : Prop :=
  s.traffic.mode = .closed ∨ (s.traffic.mode = .keeper ∧ s.traffic.order = none) ∨
    (s.traffic.mode = .automatic ∧ s.admissionOpen = false)

/-- No hand-over is waiting, and no batch waits in CLAIMING: the end of the next step then has only that
step's own work to do. -/
def State.calm (s : State) : Prop :=
  s.hand = { toRun := [], toHalt := [], retest := false, evaluate := false } ∧
    ∀ b ∈ s.traffic.batches, b.suspended = true ∨ b.phase? ≠ some .claiming

/-- Whether a queue entry is a face's. -/
def isFaceEntry (e : QueueEntry) : Bool :=
  match e.command with
  | .face _ _ => true
  | _ => false

/-- `t` is `u` but for what the end of a step follows the state with: the commanded aspects with the queue
entries they place (R60, R63), the near-full and hold indications (R105, R168), and the notices, the reply
and the retained update the step leaves. -/
def State.settlesTo (u t : State) : Prop :=
  t = { u with
    console := { u.console with notices := t.console.notices, reply := t.console.reply }
    line := { u.line with stations := t.line.stations }
    signal := { u.signal with faces := t.signal.faces }
    traffic := { u.traffic with nearUp := t.traffic.nearUp, nearDown := t.traffic.nearDown }
    receipts := { u.receipts with hold := t.receipts.hold }
    store := t.store } ∧
  (∀ k, (t.station k).state = (u.station k).state ∧ (t.station k).failed = (u.station k).failed ∧
    (t.station k).queue.filter (fun e => !isFaceEntry e) =
      (u.station k).queue.filter (fun e => !isFaceEntry e)) ∧
  ∀ f, t.face f = { u.face f with commanded := (t.face f).commanded }

/-! ### Start-up (R97) -/

/-- R1, R23, R25, R42, R44, R51, R55, R58, R68, R69, R75, R77, R83, R105, R123, R168: the start-up values that no
retained state and no start-up record decides; the indications are those of the retained queues and receipts.
HALT ENTERED is the last notice raised (log 27). The river levels and what no rule gives are log 1's and
log 24's. -/
def State.startedAfresh (t : State) : Prop :=
  t.line = { rate := .slow, stations := Quad.const { state := .unsynced, failed := 0, queue := [] }, slot := none
             alarm := false, poll := none, pulse := true, stretch := t.line.stretch } ∧
  (∀ c, t.chamber c =
    { config := (t.chamber c).config, trust := (t.chamber c).trust, lastKnown := (t.chamber c).lastKnown
      upper := none, lower := none, agreed := none, condition := .unknown, dispute := 0, high := false
      crest := false, target := none, targetCount := 0, surge := none }) ∧
  t.level.headReading = none ∧ t.level.tailReading = none ∧ t.level.headLevel = none ∧
  t.level.tailLevel = none ∧ (∀ k, t.level.equal.get k = 0) ∧ t.level.riverHold = true ∧
  t.level.acting = t.level.settings ∧
  (∀ i, t.item i = { position := none, command := .none, movement := none }) ∧
  (∀ k, t.mach.inLocal.get k = false ∧ t.mach.overload.get k = { expiry := none, aside := none } ∧
    ∀ i, t.held k i = none ∧ t.unrecorded k i = false) ∧
  (∀ c, t.mach.changeover.get c = none) ∧ t.mach.faults = [] ∧ t.mach.nextFault = 1 ∧
  (∀ f, t.face f =
    { commanded := if f = ⟨.k0, .upper⟩ ∨ f = ⟨.k3, .lower⟩ then .closed else .stop
      reported := none, stopSince := none, lamp := none, request := none, stopWait := none }) ∧
  t.traffic.order = none ∧
  t.traffic.nearUp = decide (24 - t.traffic.margin ≤ t.charge .up) ∧
  t.traffic.nearDown = decide (24 - t.traffic.margin ≤ t.charge .down) ∧
  t.receipts.nearFull = decide (64 - t.receipts.margin ≤ t.receipts.queue.length) ∧
  t.receipts.repeatTimer = (if t.receipts.nearFull then some (t.now + 100) else none) ∧
  t.receipts.hold = decide (t.freeSlots = 0) ∧
  t.console.fragment = [] ∧ t.console.order = [] ∧ t.console.reply = none ∧ t.console.sending = none ∧
  t.console.lastWasReply = false ∧
  (t.console.mask.safety = true → t.console.notices.getLast?.map (·.kind) = some .haltEntered)

/-! ### Numbers (R113) -/

/-- R113: `n` is the next batch number, a number held by a batch in the table passed over. -/
def State.nextBatchNumber (s : State) (n : Nat) : Prop :=
  let after := if 255 ≤ s.traffic.nextBatch then 1 else s.traffic.nextBatch + 1
  (∀ b ∈ s.traffic.batches, b.number ≠ n) ∧
    ((∀ b ∈ s.traffic.batches, b.number ≠ s.traffic.nextBatch) → n = s.traffic.nextBatch) ∧
    ((∃ b ∈ s.traffic.batches, b.number = s.traffic.nextBatch) →
      (∀ b ∈ s.traffic.batches, b.number ≠ after) → n = after)

/-! ### Direction (R116) -/

/-- R116: the conditions under which a direction is kept. -/
def State.keepsDirection (s : State) (d : Direction) : Prop :=
  s.queueOf d ≠ [] ∧
    (s.traffic.consecutive < s.traffic.quota ∨ s.queueOf (otherDirection d) = []) ∧
    ∀ p ∈ s.queueOf (otherDirection d), p.priority = .ordinary

/-- R116: with no last direction, a queue is chosen that alone holds a record, or whose head alone is PRIORITY
or SERVICE, or whose head, neither or both being so, has the smaller stamp. -/
def State.firstChoice (s : State) (d : Direction) : Prop :=
  ∃ p rest, s.queueOf d = p :: rest ∧
    ∀ q more, s.queueOf (otherDirection d) = q :: more →
      (p.priority ≠ .ordinary ∧ q.priority = .ordinary) ∨
        ((p.priority ≠ .ordinary ↔ q.priority ≠ .ordinary) ∧ p.stamp < q.stamp)

/-! ### Receipts (R168) -/

/-- R168: the notices after RECEIPTS NEAR FULL is raised with the indication as it stands, where its class is
enabled; the oldest receipt of an empty queue is sent as absent (log 12). -/
def State.receiptNotices (s : State) : List Notice :=
  if s.console.mask.accounts then
    placeNotice ⟨.receiptsNearFull, 0,
      [num 1 1, num 1 (if s.receipts.nearFull then 0 else 1), num 1 s.receipts.queue.length, num 1 s.freeSlots,
        opt 2 (s.receipts.queue.head?.map (·.day)), opt 3 (s.receipts.queue.head?.map (·.number))]⟩
      s.console.notices
  else s.console.notices

/-- R168: the receipts of a queue once the near-full indication is evaluated at a time. -/
def receiptsEvaluated (r : Receipts) (now : Nat) : Receipts :=
  let near := decide (64 - r.margin ≤ r.queue.length)
  { r with
    nearFull := near
    repeatTimer := if near = r.nearFull then r.repeatTimer else if near then some (now + 100) else none }

/-! ### Reports -/

/-- A report shows the control setting and the positions already held of its station. -/
def State.itemsRepeat (s : State) (k : Station) (r : StationReport) : Prop :=
  s.mach.inLocal.get k = r.inLocal ∧ (s.item (.gate k)).position = some r.gate ∧
    (s.item (.sluice k)).position = some r.sluice ∧
    ∀ w, stationByWash k = some w → (s.item (.byWash w)).position = r.byWash

/-- A report shows an input state already held. -/
def State.inputRepeats (s : State) (k : Station) (r : StationReport) (i : Input) : Prop :=
  s.held k i = some (reportedInput r.inputs i)

/-- What a report shows of one of its station's faces. -/
def reportSide (r : StationReport) : Side → FaceReport
  | .upper => r.upper
  | .lower => r.lower

/-- A report shows the lamp proving already held of a face of its station. -/
def State.lampRepeats (s : State) (k : Station) (r : StationReport) (x : Side) : Prop :=
  (s.face ⟨k, x⟩).lamp = some (reportSide r x).proved

/-- A movement of one of the station's items, or a stop wait on its other face, that a report of what is
already held completes or answers (R34, R62). -/
def State.reportEnds (s : State) (k : Station) (x : Side) : Prop :=
  (∃ i m, itemStation i = k ∧ (s.item i).movement = some m ∧ (s.item i).position = some (endPosition m.target)) ∨
    ∃ y, y ≠ x ∧ (s.face ⟨k, y⟩).stopWait ≠ none

/-- The fault records that no water step raises (R135, R136, R138): a report that moves a batch on can raise
one of those in the same step. -/
def State.stationFaults (s : State) : List FaultRec := s.mach.faults.filter fun r => !isChamberKind r.kind

/-! ### Interlocks (R14, R31, R32) -/

/-- What must hold when an item is commanded OPEN: for a gate, settled equal with every neighbour gate
reported CLOSED and not commanded OPEN; for a water path, every other path of its chambers reported SHUT and
not commanded OPEN, their changeover timers elapsed, and the HIGH flag of the chamber it feeds clear. -/
def State.interlockHolds (s : State) (i : Item) : Prop :=
  (∀ k, i = .gate k →
    s.level.acting.settleCount ≤ s.level.equal.get k ∧
    ∀ g ∈ neighbourGates k, (s.item (.gate g)).position = some .shut ∧
      (s.item (.gate g)).command ≠ .opens) ∧
  (∀ c ∈ pathChambers i,
    (∀ p ∈ chamberPaths c, p ≠ i → (s.item p).position = some .shut ∧ (s.item p).command ≠ .opens) ∧
    (s.mach.changeover.get c = none ∨
      ∃ t0, s.mach.changeover.get c = some t0 ∧ t0 + s.mach.limits.changeover ≤ s.now)) ∧
  ∀ c, fedChamber i = some c → (s.chamber c).high = false

/-- The queue of an item's station holds a command of the item. -/
def State.holdsOrder (s : State) (i : Item) (o : ItemOrder) : Prop :=
  ∃ e ∈ (s.station (itemStation i)).queue, e.command = .item i o

/-! ### Replies (R176) -/

/-- The header of a request: its tag and its kind (12.6). -/
def requestHeader : Instr → Option (Octet × Octet)
  | .setChamber t _ => some (t, 0x01#8)
  | .setLevelSettings t _ => some (t, 0x02#8)
  | .setTrust t _ _ => some (t, 0x03#8)
  | .readChamber t _ => some (t, 0x04#8)
  | .setMovementLimits t _ => some (t, 0x08#8)
  | .setInputModes t _ => some (t, 0x0C#8)
  | .setFaultTiming t _ => some (t, 0x0D#8)
  | .clearFault t _ => some (t, 0x0E#8)
  | .readFaults t _ => some (t, 0x0F#8)
  | .setSignalInterval t _ => some (t, 0x10#8)
  | .setLineRate t _ => some (t, 0x14#8)
  | .resetStation t _ => some (t, 0x15#8)
  | .readStation t _ => some (t, 0x16#8)
  | .allStop t => some (t, 0x18#8)
  | .clearHalt t => some (t, 0x19#8)
  | .restart t => some (t, 0x1A#8)
  | .registerVessel t _ => some (t, 0x20#8)
  | .withdrawVessel t _ => some (t, 0x21#8)
  | .setQueueLimits t _ _ => some (t, 0x22#8)
  | .setMode t _ => some (t, 0x23#8)
  | .readQueue t _ _ => some (t, 0x24#8)
  | .setAdmissionSettings t _ => some (t, 0x28#8)
  | .orderBatch t _ => some (t, 0x29#8)
  | .cancelOrder t => some (t, 0x2A#8)
  | .abandonBatch t _ => some (t, 0x2B#8)
  | .readBatch t _ => some (t, 0x2C#8)
  | .setRunLimits t _ _ => some (t, 0x30#8)
  | .confirmMoved t _ _ => some (t, 0x31#8)
  | .suspendBatch t _ => some (t, 0x32#8)
  | .resumeBatch t _ => some (t, 0x33#8)
  | .setTariff t _ => some (t, 0x38#8)
  | .switchTariff t => some (t, 0x39#8)
  | .readTariff t _ => some (t, 0x3A#8)
  | .quoteFee t _ => some (t, 0x3B#8)
  | .setReceiptMargin t _ => some (t, 0x40#8)
  | .peekReceipts t _ => some (t, 0x41#8)
  | .releaseReceipts t _ _ => some (t, 0x42#8)
  | .closeDay t => some (t, 0x43#8)
  | .setClock t _ => some (t, 0x44#8)
  | .readTotals t => some (t, 0x45#8)
  | .setNotices t _ => some (t, 0x48#8)
  | .readFlight t => some (t, 0x49#8)
  | .readSettings t => some (t, 0x4A#8)
  | .powerOn | .retainedUpdateComplete | .consoleFrameComplete _ | .consoleFrameGap _
  | .refuseUnknownKind _ | .refuseMalformed _ | .transmitterFree | .pollSlotStart _
  | .goodAnswer _ _ | .pollFailed _ | .alarmFrame _ _ | .stationFrameDiscarded _ | .roundEnd
  | .haltPulseEnd | .lineHalt | .surgeBlankExpiry _ | .changeoverTimerExpiry _
  | .startLimitExpiry _ | .travelLimitExpiry _ | .overloadBlankExpiry _ | .resumeDelayExpiry _
  | .waterStepLimitExpiry _ | .moveWaitExpiry _ | .allStopIntervalElapsed _ | .receiptsRepeatExpiry
  | .clockTick | .powerFail | .frameLengthOutOfRange _ | .dominantStretchStart
  | .dominantStretchEnd => none

/-- The kinds of request the table of 12.6 lists. -/
def requestKinds : List Octet :=
  [0x01, 0x02, 0x03, 0x04, 0x08, 0x0C, 0x0D, 0x0E, 0x0F, 0x10, 0x14, 0x15, 0x16, 0x18, 0x19, 0x1A, 0x20,
    0x21, 0x22, 0x23, 0x24, 0x28, 0x29, 0x2A, 0x2B, 0x2C, 0x30, 0x31, 0x32, 0x33, 0x38, 0x39, 0x3A, 0x3B,
    0x40, 0x41, 0x42, 0x43, 0x44, 0x45, 0x48, 0x49, 0x4A]

/-- The state after a request that changes nothing but the console link: its frame leaves the order, and
its reply stands. -/
def State.replied (s : State) (tag kind : Octet) (v : Option RefuseCode) (data : List Field) : State :=
  { s with console := { s.console with
      order := s.console.order.drop 1
      reply := some { tag := tag, kind := kind, verdict := v, data := data, waits := 0
                      isRestart := false } } }

/-- R94, R176: the state after a request whose owner leaves `u`: the request's frame leaves the order, what
`u` changes of the retained state is one update, and the reply stands, waiting for the updates not yet
complete when there is such a change. -/
def State.answering (s u : State) (tag kind : Octet) (v : Option RefuseCode) (data : List Field) : State :=
  let same := decide (u.retainedOf = s.retainedOf)
  let updates := if same then s.store.updates else s.store.updates ++ [u.retainedOf]
  { u with
    console := { u.console with
      order := s.console.order.drop 1
      reply := some { tag := tag, kind := kind, verdict := v, data := data
                      waits := if same then 0 else updates.length, isRestart := false } }
    store := { s.store with updates := updates } }

/-- The reply standing at the console link, but for the updates it waits for. -/
def State.replyIs (s : State) (tag kind : Octet) (v : Option RefuseCode) (data : List Field) : Prop :=
  s.console.reply.map (fun r => (r.tag, r.kind, r.verdict, r.data, r.isRestart)) =
    some (tag, kind, v, data, false)

/-- R94: what an event leaves in the retained store: its images, and one update more when the retained
state has changed. -/
def keptAsOneUpdate (s t : State) : Prop :=
  t.store =
    { s.store with updates :=
        if t.retainedOf = s.retainedOf then s.store.updates else s.store.updates ++ [t.retainedOf] }

/-! ### Invariants -/

/-- A property of the retained state as it stands, and of every copy of it in the store. -/
def State.everyCopy (s : State) (p : Retained → Prop) : Prop :=
  p s.retainedOf ∧ (∀ r ∈ s.store.updates, p r) ∧ (∀ i, s.store.imageA = some i → p i.contents) ∧
    (∀ i, s.store.imageB = some i → p i.contents)

/-- Whether a command sets an item in motion or shows PROCEED. -/
def Command.moves : Command → Bool
  | .item _ .opens | .item _ .closes => true
  | .item _ .stops => false
  | .face _ .proceed => true
  | .face _ _ => false
  | .reset => false

/-- The twelfth law of the flight (R40, R61): while the halt state is not RUNNING no movement record
stands, no face is commanded PROCEED, and no station queue holds a command that moves an item or shows
PROCEED. -/
def State.still (s : State) : Prop :=
  s.halt.state ≠ .running →
    (∀ i, (s.item i).movement = none) ∧ (∀ f, (s.face f).commanded ≠ .proceed) ∧
      ∀ k, ∀ e ∈ (s.station k).queue, e.command.moves = false

/-- R86, R91, R92: the causes are empty unless HALTED; stations are awaited exactly while RECOVERING, and
one of them is then not yet heard. -/
def State.haltFits (s : State) : Prop :=
  (s.halt.state ≠ .halted → s.halt.causes = []) ∧
    (s.halt.state ≠ .recovering → s.halt.awaited = Quad.const none) ∧
      (s.halt.state = .recovering → ∃ k, s.halt.awaited.get k = some false)

/-- R75: a station's failed poll count is 5 exactly when it is LOST, 0 when ONLINE, and 1 to 4 when
MISSING. -/
def StationRec.fits (r : StationRec) : Prop :=
  r.failed ≤ 5 ∧ (r.state = .lost ↔ r.failed = 5) ∧ (r.state = .online → r.failed = 0) ∧
    (r.state = .missing → 1 ≤ r.failed)

/-- R77: at most one entry per slot. -/
def oneEntryPerSlot (q : List QueueEntry) : Prop := (q.map fun e => slotCode e.command).Nodup

/-- R51, R55: the fault table holds at most 16 records, their numbers from 1 to 255 and distinct, at most
one for each source and kind, and none for an input fault that acts unrecorded. -/
def State.faultTableFits (s : State) : Prop :=
  s.mach.faults.length ≤ 16 ∧ (s.mach.faults.map (·.number)).Nodup ∧
    (∀ r ∈ s.mach.faults, 1 ≤ r.number ∧ r.number ≤ 255) ∧
    1 ≤ s.mach.nextFault ∧ s.mach.nextFault ≤ 255 ∧
    (s.mach.faults.map fun r => (r.kind, r.source)).Nodup ∧
    ∀ k i, s.unrecorded k i = true → s.faultOf (.input i) (.station k) = none

/-- R61, the third law: a face is commanded PROCEED only while its gate is reported OPEN, and never both faces
of a gate. -/
def State.signalsFit (s : State) : Prop :=
  ∀ f, (s.face f).commanded = .proceed →
    (s.item (.gate f.gate)).position = some .opened ∧ (s.face (farFace f)).commanded ≠ .proceed

/-- R130, the first part of the fourth law: no chamber is claimed by the steps of two batches. -/
def State.claimsFit (s : State) : Prop :=
  s.traffic.batches.Pairwise fun a b => ∀ c ∈ a.claims, c ∉ b.claims

/-- R112, R113, R117, R149: the batch table holds at most two batches, of one direction and of distinct
numbers, each with 1 to 4 members and a rise of at most 20,000 mm. -/
def Retained.tableFits (r : Retained) : Prop :=
  r.batches.length ≤ 2 ∧ (∀ a ∈ r.batches, ∀ b ∈ r.batches, a.direction = b.direction) ∧
    (r.batches.map (·.number)).Nodup ∧
    ∀ b ∈ r.batches, 1 ≤ b.members.length ∧ b.members.length ≤ 4 ∧ b.meter.rise ≤ 20000

/-- R154, the tenth law: every batch references the current or the previous tariff edition. -/
def Retained.editionsFit (r : Retained) : Prop :=
  ∀ b ∈ r.batches, (∃ e, r.current = some e ∧ e.number = b.edition) ∨
    ∃ e, r.previous = some e ∧ e.number = b.edition

/-- R104: the members of the batches of a direction that have not entered. -/
def Retained.waiting (r : Retained) (d : Direction) : Nat :=
  natSum ((r.batches.filter fun b => b.direction == d && !b.entered).map fun b => b.members.length)

/-- R99, R101, R104, the first part of the fifth law: every passage record stands in one place, the queue of
its direction or the member list of one batch, and says so; the charge of a queue is at most 24. -/
def Retained.passagesFit (r : Retained) : Prop :=
  ((r.up ++ r.down ++ r.batches.flatMap (·.members)).map (·.number)).Nodup ∧
    (∀ p ∈ r.up ++ r.down, p.state = .queued ∧ p.location = .queue ∧ p.batch = none) ∧
    (∀ p ∈ r.up, p.direction = .up) ∧ (∀ p ∈ r.down, p.direction = .down) ∧
    (∀ b ∈ r.batches, ∀ x ∈ b.members.zipIdx, x.1.direction = b.direction ∧ x.1.state ≠ .queued ∧
      x.1.location ≠ .queue ∧ x.1.batch = some (b.number, x.2 + 1)) ∧
    r.up.length + r.waiting .up ≤ 24 ∧ r.down.length + r.waiting .down ≤ 24

/-- R122, R123: a pending order stands in mode KEEPER alone, and names passages of the queue of its direction,
none twice. -/
def State.orderStands (s : State) : Prop :=
  ∀ o, s.traffic.order = some o → s.traffic.mode = .keeper ∧ o.passages.Nodup ∧
    ∀ n ∈ o.passages, ∃ p ∈ s.queueOf o.direction, p.number = n

/-- R122: a pending order names 1 to 4 passages. -/
def State.orderSized (s : State) : Prop :=
  ∀ o, s.traffic.order = some o → 1 ≤ o.passages.length ∧ o.passages.length ≤ 4

/-- R103, R108: each queue stands in its order, and no skip count exceeds the skip limit. -/
def Retained.queuesFit (r : Retained) : Prop :=
  r.up.Pairwise (fun a b => standsBefore a b = true) ∧
    r.down.Pairwise (fun a b => standsBefore a b = true) ∧
    ∀ p ∈ r.up ++ r.down ++ r.batches.flatMap (·.members), p.skips ≤ r.skipLimit

/-- The members of all batches, each of which holds a receipt slot (R166). -/
def Retained.slotsReserved (r : Retained) : Nat := natSum (r.batches.map fun b => b.members.length)

/-- R166, the sixth law: receipts held and slots reserved never exceed 64. -/
def Retained.receiptsFit (r : Retained) : Prop := r.receipts.length + r.slotsReserved ≤ 64

/-- R162, R159: a receipt's fee is its dues and its share; a SERVICE vessel has no dues and no share, and
every other vessel has a share. -/
def Receipt.fits (r : Receipt) : Prop :=
  r.fee = r.dues + r.share.getD 0 ∧ (r.priority = .service → r.dues = 0) ∧
    (r.share = none ↔ r.priority = .service)

/-- R171, the eighth law: the fee total equals the dues total plus the water allocated total; R162 of each
receipt held. -/
def Retained.accountFits (r : Retained) : Prop :=
  r.account.fees = r.account.dues + r.account.waterAllocated ∧ ∀ x ∈ r.receipts, x.fits

/-- R102: every passage held has a length. R171, the eighth law: while totals capped is clear the lockage
water charge total is the water allocated and the water not allocated. -/
def Retained.waterFits (r : Retained) : Prop :=
  (∀ p ∈ r.up ++ r.down ++ r.batches.flatMap (·.members), 1 ≤ p.length) ∧
    (r.account.capped = false → r.account.waterCharges = r.account.waterAllocated + r.account.unallocated)

/-- The ranges of the retained settings (R3, R26, R48, R64, R109, R121, R139, R168). -/
def Retained.settingsFit (r : Retained) : Prop :=
  clampLevelSettings r.levelSettings = r.levelSettings ∧ clampMovementLimits r.limits = r.limits ∧
    clampFaultTiming r.timing = r.timing ∧ clampSignalInterval r.interval = r.interval ∧
    clampQueueMargin r.queueMargin = r.queueMargin ∧ clampSkipLimit r.skipLimit = r.skipLimit ∧
    clampQuota r.quota = r.quota ∧ clampSpacing r.spacing = r.spacing ∧
    clampRunLimit r.waterLimit = r.waterLimit ∧ clampRunLimit r.moveWait = r.moveWait ∧
    clampReceiptMargin r.receiptMargin = r.receiptMargin

/-- R1, R2: a configured chamber's levels ascend and stay within 20,000 mm, and so does its last known
level. -/
def RetainedChamber.fits (c : RetainedChamber) : Prop :=
  (∀ g, c.config = some g → g.low < g.full ∧ g.full < g.high ∧ g.high < g.crest ∧ g.crest ≤ 20000) ∧
    ∀ v, c.lastKnown = some v → v ≤ 20000

def Retained.chambersFit (r : Retained) : Prop := ∀ c, (r.chambers.get c).fits

/-- 1.1: the levels of a chamber record stay within 20,000 mm and its counters within 16. -/
def ChamberRec.levelsFit (r : ChamberRec) : Prop :=
  (∀ v, r.upper = some v → v ≤ 20000) ∧ (∀ v, r.lower = some v → v ≤ 20000) ∧
    (∀ v, r.agreed = some v → v ≤ 20000) ∧ r.dispute ≤ 16 ∧ r.targetCount ≤ 16

/-- 1.1, R4, R10: a reading or level of the river within 20,000 mm. -/
def levelFits (v : Option Nat) : Prop := ∀ x, v = some x → x ≤ 20000

/-- 1.1, R4, R10, R16: every level and counter of the Level Monitor within its values, the river's readings
and levels and the settle count in effect among them. -/
def State.levelsFit (s : State) : Prop :=
  (∀ c, (s.chamber c).levelsFit) ∧ levelFits s.level.headReading ∧ levelFits s.level.tailReading ∧
    levelFits s.level.headLevel ∧ levelFits s.level.tailLevel ∧ (∀ k, s.level.equal.get k ≤ 16) ∧
    s.level.acting.settleCount ≤ 16

/-- R171, R173: the clock and the day number within their values. -/
def State.calendarFits (s : State) : Prop :=
  s.toll.clock ≤ 86399 ∧ s.everyCopy fun r => 1 ≤ r.account.day ∧ r.account.day ≤ 9999

end Sys2Proof.Machine
end

