-- ==== Sys2Proof/Certificates/Slice0/Obligations.lean ====
section
/-! DEFINITION. The statements for the provers. `s` is always any state, reachable or not; `t` is the state
a command or a step leaves. `Fixed`, `State.calm`, `State.replied` and `State.answering` are explained in
Sys2Proof/Safety.lean. Three choices of the model run through the statements: a request with an empty request
order stands for a frame completed and handed on at once (log 5), an expiry brings the running time up to
the expiry (log 2), and where R181 leaves the layout of a reply open its data is laid out as log 12 says. -/

section

open Sys2Proof Sys2Proof.Machine

/-! ### Steps and reset -/

/-- A step takes the command at the front of the queue and runs it on the state with the queue's rest. -/
def Obligations.StepTakesTheFrontCommand : Prop :=
  ∀ (c : Instr) (rest : List Instr) (s : State), s.pending = c :: rest →
    step s = exec c (s.withPending rest)

/-- The model's choice (log 2): with no command waiting a step is one tenth of a second; the clock tick of
each whole second and the expiries due join the queue. -/
def Obligations.EmptyQueuePassesATenth : Prop :=
  ∀ s : State, s.pending = [] →
    step s = .next { s with
      now := s.now + 1
      pending := (if (s.now + 1) % 10 = 0 then [Instr.clockTick] else []) ++
        (if s.powered then ({ s with now := s.now + 1 } : State).expiries else []) }

/-- R1, R3, R4, R23, R25, R26, R42 to R44, R48, R55, R58, R64, R68, R75, R88, R94 to R97, R109, R121, R139,
R171: the part after a power-on with no valid image. The values no rule gives are log 1's and log 24's. -/
def Obligations.ResetIsTheStartUpState : Prop :=
  State.reset.powered = true ∧ State.reset.pending = [] ∧ State.reset.now = 0 ∧
  State.reset.halt =
    { state := .halted, causes := [.startUp], entry := .startUp, awaited := Quad.const none
      startUp := { kind := .powerOn, outcome := .noneValid, generation := 0 } } ∧
  State.reset.line =
    { rate := .slow, stations := Quad.const { state := .unsynced, failed := 0, queue := [] }, slot := none
      alarm := false, poll := none, pulse := true, stretch := none } ∧
  (∀ c, State.reset.chamber c =
    { config := none, trust := .both, upper := none, lower := none, agreed := none, condition := .unknown
      dispute := 0, high := false, crest := false, target := none, targetCount := 0, surge := none
      lastKnown := none }) ∧
  (∀ k, State.reset.level.equal.get k = 0) ∧ State.reset.level.riverHold = true ∧
  State.reset.level.headReading = none ∧ State.reset.level.tailReading = none ∧
  State.reset.level.headLevel = none ∧ State.reset.level.tailLevel = none ∧
  State.reset.level.acting = State.reset.level.settings ∧ State.reset.level.settings =
    { freeboard := 150, equalTolerance := 30, agreementTolerance := 50, bandTolerance := 100
      settleCount := 5, surgeBlank := 200 } ∧
  State.reset.mach.limits =
    { gateStart := 50, pathStart := 30, gateTravel := 1200, pathTravel := 450, changeover := 50 } ∧
  State.reset.mach.timing = { overloadBlank := 20, resumeDelay := 100, resumeLimit := 3 } ∧
  (∀ i, State.reset.item i = { position := none, command := .none, movement := none }) ∧
  (∀ k, State.reset.mach.modes.get k = { obstruction := .holdWhile, overload := .latch, ice := .holdWhile }) ∧
  (∀ k, State.reset.mach.inLocal.get k = false ∧
    State.reset.mach.overload.get k = { expiry := none, aside := none } ∧
    ∀ i, State.reset.held k i = none ∧ State.reset.unrecorded k i = false) ∧
  (∀ c, State.reset.mach.changeover.get c = none) ∧
  State.reset.mach.faults = [] ∧ State.reset.mach.nextFault = 1 ∧
  (∀ f, State.reset.face f =
    { commanded := if f = ⟨.k0, .upper⟩ ∨ f = ⟨.k3, .lower⟩ then .closed else .stop
      reported := none, stopSince := none, lamp := none, request := none, stopWait := none }) ∧
  State.reset.signal.interval = 40 ∧
  State.reset.traffic =
    { up := [], down := [], batches := [], order := none, lastDirection := none, consecutive := 0
      mode := .closed, nextPassage := 1, nextStamp := 1, nextBatch := 1, margin := 4, skipLimit := 3
      quota := 2, spacing := 30, followOn := true, nearUp := false, nearDown := false
      waterLimit := 6000, moveWait := 9000 } ∧
  State.reset.toll.current = none ∧ State.reset.toll.previous = none ∧ State.reset.toll.pending = none ∧
  State.reset.toll.clock = 0 ∧ State.reset.toll.account =
    { day := 1, opened := 0, issued := 0, dues := 0, waterAllocated := 0, fees := 0, waterCharges := 0
      unallocated := 0, volume := 0, batchesUp := 0, batchesDown := 0, vesselsUp := 0, vesselsDown := 0
      capped := false } ∧
  State.reset.receipts =
    { queue := [], margin := 8, nearFull := false, hold := false, repeatTimer := none } ∧
  State.reset.store =
    { imageA := some { contents := State.reset.retainedOf, generation := 0 }, imageB := none, inUse := .a
      updates := [] } ∧
  State.reset.console.fragment = [] ∧ State.reset.console.order = [] ∧ State.reset.console.reply = none ∧
  State.reset.console.sending = none ∧ State.reset.console.lastWasReply = false ∧
  State.reset.console.mask = ⟨true, true, true, true⟩ ∧
  State.reset.console.notices.map (·.kind) = [.haltEntered]

/-! ### Invariants every step keeps -/

/-- The twelfth law (R40, R61): while not RUNNING nothing is moved and no face shows PROCEED. Of the third law
(R61): a face is commanded PROCEED only while its gate is reported OPEN, and never both faces of a gate. -/
def Obligations.NothingMovesUnlessRunning : Prop :=
  (∀ s t : State, s.still → step s = .next t → t.still) ∧
  ∀ s t : State, s.signalsFit → step s = .next t → t.signalsFit

/-- The sixth law (R166): receipts held and slots reserved never exceed 64, here and in every copy of the
retained state. -/
def Obligations.ReceiptsNeverExceed64 : Prop :=
  ∀ s t : State, s.everyCopy Retained.receiptsFit → step s = .next t → t.everyCopy Retained.receiptsFit

/-- The eighth law (R171) and the fee of each receipt (R159, R162): the fees are the dues and the water
allocated, and while totals capped is clear the lockage water charges are the water allocated and the water
not allocated. Every passage held has a length (R102). -/
def Obligations.AccountsBalance : Prop :=
  ∀ s t : State, s.everyCopy (fun r => r.accountFits ∧ r.waterFits) → step s = .next t →
    t.everyCopy fun r => r.accountFits ∧ r.waterFits

/-- R75, R77: the failed poll count and the state of every station fit, and its command queue holds at most
one entry per slot. -/
def Obligations.StationRecordsFit : Prop :=
  ∀ s t : State, (∀ k, (s.station k).fits ∧ oneEntryPerSlot (s.station k).queue) → step s = .next t →
    ∀ k, (t.station k).fits ∧ oneEntryPerSlot (t.station k).queue

/-- R51, R53, R55: the fault table keeps its form. -/
def Obligations.FaultTableFits : Prop :=
  ∀ s t : State, s.faultTableFits → step s = .next t → t.faultTableFits

/-- R112, R113, R117, R122, R149: the batch table and the pending order keep their form. R130, the first part
of the fourth law: no chamber is claimed by the steps of two batches. R154, the tenth law: every batch
references the current or the previous tariff edition. -/
def Obligations.BatchTableFits : Prop :=
  (∀ s t : State, s.everyCopy Retained.tableFits ∧ s.orderSized → step s = .next t →
    t.everyCopy Retained.tableFits ∧ t.orderSized) ∧
  (∀ s t : State, s.everyCopy Retained.tableFits ∧ s.claimsFit → step s = .next t → t.claimsFit) ∧
  ∀ s t : State, s.everyCopy Retained.editionsFit → step s = .next t → t.everyCopy Retained.editionsFit

/-- R103, R108: the approach queues stay in their order and skip counts within the limit. R101, R104, R122, the
first part of the fifth law: every passage record stays in one place, with a pending order naming records of one
queue. -/
def Obligations.QueuesStayInOrder : Prop :=
  (∀ s t : State, s.everyCopy Retained.queuesFit → step s = .next t → t.everyCopy Retained.queuesFit) ∧
  ∀ s t : State, (s.everyCopy fun r => r.tableFits ∧ r.passagesFit) ∧ s.orderStands → step s = .next t →
    t.everyCopy Retained.passagesFit ∧ t.orderStands

/-- R86, R91, R92, R171, R173, R176: causes only while HALTED, stations awaited exactly while RECOVERING; the
clock, the day number and the request order stay within their values. -/
def Obligations.HaltAndCalendarFit : Prop :=
  ∀ s t : State, (s.haltFits ∧ s.calendarFits ∧ s.console.order.length ≤ 8) → step s = .next t →
    t.haltFits ∧ t.calendarFits ∧ t.console.order.length ≤ 8

/-- 1.1, R1 to R4, R10, R16, R17 and the ranges of the settings: the readings, levels and counters of the
Level Monitor, the river's among them, and the retained settings stay within their values. -/
def Obligations.LevelsAndSettingsStayInRange : Prop :=
  ∀ s t : State,
    (s.levelsFit ∧ s.everyCopy fun r => r.settingsFit ∧ r.chambersFit) → step s = .next t →
      t.levelsFit ∧ t.everyCopy fun r => r.settingsFit ∧ r.chambersFit

/-- Every invariant above holds at reset. -/
def Obligations.ResetMeetsEveryInvariant : Prop :=
  State.reset.still ∧ State.reset.haltFits ∧ (∀ k, (State.reset.station k).fits) ∧
    (∀ k, oneEntryPerSlot (State.reset.station k).queue) ∧ State.reset.faultTableFits ∧
    State.reset.orderSized ∧ State.reset.orderStands ∧ State.reset.signalsFit ∧ State.reset.claimsFit ∧
    State.reset.levelsFit ∧ State.reset.calendarFits ∧
    State.reset.console.order.length ≤ 8 ∧
    State.reset.everyCopy fun r => r.receiptsFit ∧ r.accountFits ∧ r.waterFits ∧ r.tableFits ∧
      r.settingsFit ∧ r.queuesFit ∧ r.chambersFit ∧ r.editionsFit ∧ r.passagesFit

/-! ### Rules over every command -/

/-- R95, R165, R170, R172, R173: only the tick of the clock, SET CLOCK and a power-on change the clock; a receipt
leaves the queue by RELEASE RECEIPTS alone, where a power-on may return to an older image. -/
def Obligations.ClockAndReceiptsStand : Prop :=
  (∀ (c : Instr) (s t : State), exec c s = .next t → t.toll.clock ≠ s.toll.clock →
    c = .clockTick ∨ c = .powerOn ∨ ∃ tag time, c = .setClock tag time) ∧
  (∀ (c : Instr) (s t : State), exec c s = .next t → c ≠ .powerOn →
    (∀ tag day n, c ≠ .releaseReceipts tag day n) → s.receipts.queue <+: t.receipts.queue)

/-- R94: a command is one update of the retained store, or none when it changes nothing retained. Power-on,
the loss of power, the end of an update and a restart write the store by their own rules (log 7). -/
def Obligations.EachCommandIsOneUpdate : Prop :=
  ∀ (c : Instr) (s t : State), exec c s = .next t →
    c ≠ .powerOn → c ≠ .powerFail → c ≠ .retainedUpdateComplete → c ≠ .transmitterFree →
      keptAsOneUpdate s t

/-- R94, R97: without power nothing happens but power-on, the clock (R173) and the line held by another
device (R84). -/
def Obligations.NoPowerNoEffect : Prop :=
  ∀ (c : Instr) (s : State), s.powered = false → c ≠ .powerOn → c ≠ .clockTick →
    c ≠ .dominantStretchStart → c ≠ .dominantStretchEnd → exec c s = .next s

/-! ### The console link -/

/-- R176, R177: a request handed on leaves the order and has one reply, of its tag and its kind with the reply
bit, and changes nothing else when it is refused; a request that cannot be handed on changes nothing. -/
def Obligations.EveryRequestIsAnswered : Prop :=
  ∀ (c : Instr) (tag kind : Octet) (s : State), requestHeader c = some (tag, kind) →
    (s.takesRequest c = true →
      ∃ t r, exec c s = .next t ∧ t.console.order = s.console.order.drop 1 ∧
        t.console.reply = some r ∧ r.tag = tag ∧ r.kind = kind ||| 0x80#8 ∧
        (r.verdict.isSome = true → t = s.replied tag (kind ||| 0x80#8) r.verdict r.data)) ∧
      (s.takesRequest c = false → exec c s = .next s)

/-- R175, R176: a whole frame that arrives, after octets that are no start octet, joins the request order;
the ninth is discarded. The octets are the command's operands (log 6). -/
def Obligations.WholeFramesJoinTheOrder : Prop :=
  ∀ (tag kind : Octet) (payload noise : List Octet) (s : State), s.powered = true →
    payload.length ≤ 248 → s.console.fragment = [] → (∀ o ∈ noise, o ≠ 0xA5#8) →
      exec (.consoleFrameComplete (noise ++ frameOctets tag kind payload)) s =
        .next { s with console := { s.console with
          order := if s.console.order.length < 8 then s.console.order ++ [⟨tag, kind, payload⟩]
            else s.console.order } }

/-- R175: a gap abandons the frame being assembled, a length out of range abandons its start octet, and a check
that fails discards its frame, its octets searched again for a start octet: none of them leaves a frame. The
octets are the commands' operands (log 6). -/
def Obligations.BrokenFramesLeaveNothing : Prop :=
  (∀ (tag kind : Octet) (payload first rest : List Octet) (s : State), s.powered = true →
    payload.length ≤ 248 → s.console.fragment = [] → first ++ rest = frameOctets tag kind payload →
      rest ≠ [] → exec (.consoleFrameGap first) s = .next s) ∧
  (∀ (len : Octet) (s : State), s.powered = true → s.console.fragment = [] →
    (len.toNat < 2 ∨ 250 < len.toNat) → exec (.frameLengthOutOfRange [0xA5#8, len]) s = .next s) ∧
  (∀ (tag kind x y : Octet) (payload body : List Octet) (s : State), s.powered = true →
    s.console.fragment = [] → payload.length ≤ 248 →
    body = BitVec.ofNat 8 (payload.length + 2) :: tag :: kind :: payload → [x, y] ≠ checkOctets body →
    (∀ o ∈ body ++ [x, y], o ≠ 0xA5#8) →
      exec (.consoleFrameComplete (0xA5#8 :: body ++ [x, y])) s = .next s)

/-- R176, R177: a frame of an unknown kind, or whose payload is not that of its kind, is answered with its
own tag and kind and the refusal, and changes nothing else. -/
def Obligations.UnreadableFramesAreRefused : Prop :=
  (∀ f : ConsoleFrame, f.kind ∉ requestKinds → requestOf f = .refuseUnknownKind f) ∧
  (∀ (f : ConsoleFrame) (s : State), requestOf f = .refuseUnknownKind f →
    s.takesRequest (.refuseUnknownKind f) = true →
      exec (.refuseUnknownKind f) s = .next (s.replied f.tag (f.kind ||| 0x80#8) (some .unknownKind) [])) ∧
  (∀ (f : ConsoleFrame) (s : State), requestOf f = .refuseMalformed f →
    s.takesRequest (.refuseMalformed f) = true →
      exec (.refuseMalformed f) s = .next (s.replied f.tag (f.kind ||| 0x80#8) (some .malformed) []))

/-- R179: a reply goes before a notice unless the frame just sent was a reply; notices go oldest first. -/
def Obligations.TransmitterSendsByTurns : Prop :=
  ∀ s : State, s.powered = true → s.restartDue = false →
    let last := match s.console.sending with | some f => f.isReply | none => s.console.lastWasReply
    let idle := { s.console with sending := none, lastWasReply := last }
    (∀ r, s.console.reply = some r → r.waits = 0 → (last = false ∨ s.console.notices = []) →
      exec .transmitterFree s =
        .next { s with console := { idle with sending := some (replyFrame r), reply := none } }) ∧
    (∀ n rest, s.console.notices = n :: rest →
      (last = true ∨ s.console.reply = none ∨ ∃ r, s.console.reply = some r ∧ r.waits ≠ 0) →
        exec .transmitterFree s =
          .next { s with console := { idle with sending := some (noticeFrame n), notices := rest } }) ∧
    (s.console.notices = [] →
      (s.console.reply = none ∨ ∃ r, s.console.reply = some r ∧ r.waits ≠ 0) →
        exec .transmitterFree s = .next { s with console := idle })

/-- R97, R98: RESTART is accepted and takes place when its reply has been sent: the part starts afresh, every
block at its start-up values, the retained state and the clock stand, and each batch in the table is suspended
with RESTART. The values no rule gives are log 1's and log 24's, HALT ENTERED last among the notices log 27's. -/
def Obligations.RestartStartsAfresh : Prop :=
  (∀ (tag : Octet) (s : State), s.takesRequest (.restart tag) = true →
    exec (.restart tag) s = .next { s with console := { s.console with
      order := s.console.order.drop 1
      reply := some { tag := tag, kind := 0x9A#8, verdict := none, data := [], waits := 0
                      isRestart := true } } }) ∧
  (∀ (f : Sending) (s : State), s.powered = true → s.console.sending = some f → f.isRestart = true →
    ∃ t, exec .transmitterFree s = .next t ∧
      t.halt.state = .halted ∧ t.halt.causes = [.startUp] ∧ t.halt.startUp.kind = .restart ∧
      t.halt.startUp.outcome = .notTested ∧ t.console.reply = none ∧ t.console.sending = none ∧
      t.console.order = [] ∧ t.line.rate = .slow ∧
      (∀ k, t.station k = { state := .unsynced, failed := 0, queue := [] }) ∧ t.startedAfresh ∧
      t.toll.clock = s.toll.clock ∧ t.now = s.now ∧ t.pending = s.pending ∧
      { t.retainedOf with batches := [] } = { s.retainedOf with batches := [] } ∧
      t.traffic.batches = s.traffic.batches.map Batch.startUp ∧ t.traffic.order = none)

/-! ### Requests that read -/

/-- R22, R57, R85, R111, R127: the reads of the flight answer from the state and change nothing else.
The layout of their data is the model's where R181 leaves it open (log 12). -/
def Obligations.ReadsOfTheFlight : Prop :=
  ∀ (tag : Octet) (s : State),
    (∀ n c, chamberOf n = some c → s.takesRequest (.readChamber tag n) = true →
      exec (.readChamber tag n) s = .next (s.replied tag 0x84#8 none (s.chamberFields c))) ∧
    (∀ n, n ≤ 15 → s.takesRequest (.readFaults tag n) = true →
      exec (.readFaults tag n) s = .next (s.replied tag 0x8F#8 none
        ([num 1 s.mach.faults.length, num 1 s.mach.nextFault] ++
          collection (fun r => faultFields r ++ s.faultBeside r) ((s.mach.faults.drop n).take 8) ++
          collection (fun (x : Station × Input) => [num 1 (stationCode x.1), num 1 (inputCode x.2)])
            s.unrecordedPairs))) ∧
    (∀ n, 15 < n → s.takesRequest (.readFaults tag n) = true →
      exec (.readFaults tag n) s = .next (s.replied tag 0x8F#8 (some .badValue) [])) ∧
    (∀ n k, stationOf n = some k → s.takesRequest (.readStation tag n) = true →
      exec (.readStation tag n) s = .next (s.replied tag 0x96#8 none (s.stationSummary k))) ∧
    (∀ n d pos, directionOf n = some d → pos ≤ 23 → s.takesRequest (.readQueue tag n pos) = true →
      exec (.readQueue tag n pos) s = .next (s.replied tag 0xA4#8 none (s.queueReply d pos))) ∧
    (∀ n b, s.batch? n = some b → s.takesRequest (.readBatch tag n) = true →
      exec (.readBatch tag n) s = .next (s.replied tag 0xAC#8 none (s.batchFields b (s.placeOf n)))) ∧
    (∀ n, s.batch? n = none → s.takesRequest (.readBatch tag n) = true →
      exec (.readBatch tag n) s = .next (s.replied tag 0xAC#8 (some .noSuchBatch) []))

/-- R151, R155, R164, R169, R174, R180: the reads of the office answer from the state and change nothing else.
The layout of their data is the model's where R181 leaves it open (log 12). -/
def Obligations.ReadsOfTheOffice : Prop :=
  ∀ (tag : Octet) (s : State),
    (s.takesRequest (.readTariff tag 0) = true →
      exec (.readTariff tag 0) s = .next (s.replied tag 0xBA#8 none (s.tariffFields s.toll.current))) ∧
    (s.takesRequest (.readTariff tag 1) = true →
      exec (.readTariff tag 1) s = .next (s.replied tag 0xBA#8 none (s.tariffFields s.toll.previous))) ∧
    (s.takesRequest (.readTariff tag 2) = true →
      exec (.readTariff tag 2) s = .next (s.replied tag 0xBA#8 none
        (match s.toll.pending with
          | some e => flag true :: editionFields e ++ [num 1 0]
          | none => [flag false, num 1 0]))) ∧
    (∀ (a : QuoteArgs) e p night, priorityOf a.vessel.priority = some p → flagOf a.night = some night →
      measuresValid a.vessel = true → a.choice = 0 → s.toll.current = some e →
      s.takesRequest (.quoteFee tag a) = true →
        exec (.quoteFee tag a) s =
          .next (s.replied tag 0xBB#8 none (s.quoteFields e a.vessel p night))) ∧
    (∀ n, 1 ≤ n → n ≤ 4 → s.takesRequest (.peekReceipts tag n) = true →
      exec (.peekReceipts tag n) s = .next (s.replied tag 0xC1#8 none
        (num 1 s.receipts.queue.length :: num 1 (min n s.receipts.queue.length) ::
          (s.receipts.queue.take n).flatMap receiptFields))) ∧
    (s.takesRequest (.readTotals tag) = true →
      exec (.readTotals tag) s = .next (s.replied tag 0xC5#8 none s.totalFields)) ∧
    (s.takesRequest (.readFlight tag) = true →
      exec (.readFlight tag) s = .next (s.replied tag 0xC9#8 none s.flightFields)) ∧
    (s.takesRequest (.readSettings tag) = true →
      exec (.readSettings tag) s = .next (s.replied tag 0xCA#8 none s.settingFields))

/-! ### Requests that set -/

/-- R3, R26, R48: the level, movement and fault timing settings, each clamped to its range; the level
settings in effect stay until the round end (log 19), and a changeover interval just lowered tests no waiting
movement (log 2). -/
def Obligations.TimingSettingsAreClamped : Prop :=
  (∀ (tag : Octet) (a v : LevelSettings) (s : State), s.takesRequest (.setLevelSettings tag a) = true →
    v = { freeboard := max 50 (min 500 a.freeboard), equalTolerance := max 5 (min 200 a.equalTolerance)
          agreementTolerance := max 10 (min 300 a.agreementTolerance)
          bandTolerance := max 10 (min 300 a.bandTolerance), settleCount := max 1 (min 16 a.settleCount)
          surgeBlank := min 1200 a.surgeBlank } →
    exec (.setLevelSettings tag a) s =
      .next (s.answering { s with level := { s.level with settings := v } } tag 0x82#8 none
        (levelSettingFields v))) ∧
  (∀ (tag : Octet) (a v : MovementLimits) (s : State), s.takesRequest (.setMovementLimits tag a) = true →
    v = { gateStart := max 10 (min 300 a.gateStart), pathStart := max 10 (min 300 a.pathStart)
          gateTravel := max 200 (min 6000 a.gateTravel), pathTravel := max 50 (min 3000 a.pathTravel)
          changeover := min 600 a.changeover } →
    exec (.setMovementLimits tag a) s =
      .next (s.answering { s with mach := { s.mach with limits := v } } tag 0x88#8 none (limitFields v))) ∧
  (∀ (tag : Octet) (a v : FaultTiming) (s : State), s.takesRequest (.setFaultTiming tag a) = true →
    v = { overloadBlank := min 100 a.overloadBlank, resumeDelay := max 20 (min 1200 a.resumeDelay)
          resumeLimit := max 1 (min 8 a.resumeLimit) } →
    exec (.setFaultTiming tag a) s =
      .next (s.answering { s with mach := { s.mach with timing := v } } tag 0x8D#8 none (timingFields v)))

/-- R139: SET RUN LIMITS clamps each value to its range and replies with both, in every state; running
timers keep their expiry, since nothing but the two settings changes. -/
def Obligations.RunLimitsAreClamped : Prop :=
  State.reset.traffic.waterLimit = 6000 ∧ State.reset.traffic.moveWait = 9000 ∧
  Retained.defaults.waterLimit = 6000 ∧ Retained.defaults.moveWait = 9000 ∧
  ∀ (tag : Octet) (a b w m : Nat) (s : State), s.takesRequest (.setRunLimits tag a b) = true →
    w = max 600 (min 36000 a) → m = max 600 (min 36000 b) →
      exec (.setRunLimits tag a b) s =
        .next (s.answering { s with traffic := { s.traffic with waterLimit := w, moveWait := m } } tag
          0xB0#8 none [num 2 w, num 2 m])

/-- R178, R152, R153, R173: the class mask with the waiting notices of disabled classes removed; a valid
tariff taken into the pending slot; the clock. -/
def Obligations.OfficeSettings : Prop :=
  (∀ (tag : Octet) (a : NoticesArgs) (m : NoticeMask) (s : State), flagOf a.safety = some m.safety →
    flagOf a.level = some m.level → flagOf a.traffic = some m.traffic →
    flagOf a.accounts = some m.accounts → s.takesRequest (.setNotices tag a) = true →
      exec (.setNotices tag a) s =
        .next (s.answering
          { s with console := { s.console with
              mask := m, notices := s.console.notices.filter fun n => noticeEnabled m n.kind } }
          tag 0xC8#8 none [flag m.safety, flag m.level, flag m.traffic, flag m.accounts])) ∧
  (∀ (tag : Octet) (e : Edition) (s : State), editionValid e = true →
    s.takesRequest (.setTariff tag e) = true →
      exec (.setTariff tag e) s =
        .next (s.answering { s with toll := { s.toll with pending := some e } } tag 0xB8#8 none
          [num 2 e.number, flag s.toll.pending.isSome, opt 3 (s.toll.pending.map (·.number))])) ∧
  (∀ (tag : Octet) (time : Nat) (s : State), time ≤ 86399 → s.takesRequest (.setClock tag time) = true →
    exec (.setClock tag time) s =
      .next ({ s with toll := { s.toll with clock := time } }.replied tag 0xC4#8 none [num 3 time])) ∧
  (∀ (tag : Octet) (time : Nat) (s : State), 86399 < time → s.takesRequest (.setClock tag time) = true →
    exec (.setClock tag time) s = .next (s.replied tag 0xC4#8 (some .badValue) []))

/-- R6, R2: SET TRUST changes the trust setting, clears the counters and ends a dispute, or changes nothing;
SET CHAMBER takes all eight values while the batch table is empty. -/
def Obligations.TrustAndGeometryAreSet : Prop :=
  (∀ (tag : Octet) (n x : Nat) (c : Chamber) (v : Trust) (s : State), chamberOf n = some c →
    trustOf x = some v → (s.chamber c).trust = v → s.takesRequest (.setTrust tag n x) = true →
      exec (.setTrust tag n x) s = .next (s.replied tag 0x83#8 none [])) ∧
  (∀ (tag : Octet) (n x : Nat) (c : Chamber) (v : Trust) (s : State), chamberOf n = some c →
    trustOf x = some v → (s.chamber c).trust ≠ v → s.takesRequest (.setTrust tag n x) = true →
      ∃ notices, exec (.setTrust tag n x) s =
          .next (s.answering
            { s with
              level := { s.level with
                chambers := s.level.chambers.set c
                  { s.chamber c with
                    trust := v, dispute := 0, targetCount := 0
                    condition := if (s.chamber c).condition = .disputed then .degraded
                      else (s.chamber c).condition }
                equal := (s.level.equal.set (upperGate c) 0).set (lowerGate c) 0 }
              console := { s.console with notices := notices } } tag 0x83#8 none []) ∧
        ((s.chamber c).condition ≠ .disputed ∨ s.console.mask.level = false →
          notices = s.console.notices) ∧
        ((s.chamber c).condition = .disputed → s.console.mask.level = true →
          notices = placeNotice ⟨.dispute, chamberCode c, [num 1 (chamberCode c), flag false]⟩
            s.console.notices)) ∧
  (∀ (tag : Octet) (a : ChamberArgs) (c : Chamber) (s : State), chamberOf a.chamber = some c →
    chamberValid a = true → s.traffic.batches = [] → s.takesRequest (.setChamber tag a) = true →
      ∃ t, exec (.setChamber tag a) s = .next t ∧
        t.fixed = { s.fixed with
          order := s.console.order.drop 1
          chambers := s.fixed.chambers.set c
            { (s.chamber c).fixed with config := some (chamberConfigOf a) } } ∧
        t.replyIs tag 0x81#8 none (configFields (chamberConfigOf a)) ∧
        (s.calm → (s.setChamber c { s.chamber c with config := some (chamberConfigOf a) }).admitsNothing →
          (s.popRequest.setChamber c
            { s.chamber c with config := some (chamberConfigOf a), targetCount := 0 }).settlesTo t)) ∧
  (∀ (tag : Octet) (a : ChamberArgs) (c : Chamber) (s : State), chamberOf a.chamber = some c →
    chamberValid a = true → s.traffic.batches ≠ [] → s.takesRequest (.setChamber tag a) = true →
      exec (.setChamber tag a) s = .next (s.replied tag 0x81#8 (some .inUse) []))

/-- R43, R55: SET INPUT MODES takes the three modes of a station; an unrecorded fault whose input goes OFF
ceases to act. R50: CLEAR FAULT removes a latched record whose cause no longer acts, and refuses the others.
R42, R45, R46, R53: an alarm frame whose only change is one input: an input that becomes active raises a record
under its mode, or repeats the one that stands, and one that becomes inactive starts the resume delay of a
HOLD-WHILE record; a LOCAL STOP halts the flight. These hold while the line rate stands, since the entry into
HALTED at FAST unsyncs the stations (R83), and of the records that no water step raises in the same step. -/
def Obligations.InputModesAndClearFault : Prop :=
  (∀ (tag : Octet) (a : InputModesArgs) (k : Station) (x y z : InputMode) (s : State),
      stationOf a.station = some k → modeOf a.obstruction = some x → modeOf a.overload = some y →
      modeOf a.ice = some z → s.takesRequest (.setInputModes tag a) = true →
        exec (.setInputModes tag a) s =
          .next (s.answering
            { s with mach := { s.mach with
                modes := s.mach.modes.set k ⟨x, y, z⟩
                unrecorded := s.mach.unrecorded.set k
                  { obstruction := (s.mach.unrecorded.get k).obstruction && decide (x ≠ .off)
                    overload := (s.mach.unrecorded.get k).overload && decide (y ≠ .off)
                    ice := (s.mach.unrecorded.get k).ice && decide (z ≠ .off)
                    localStop := (s.mach.unrecorded.get k).localStop } } }
            tag 0x8C#8 none [num 1 (modeCode x), num 1 (modeCode y), num 1 (modeCode z)])) ∧
  (∀ (tag : Octet) (n : Nat) (s : State), s.takesRequest (.clearFault tag n) = true →
      (s.mach.faults.find? (fun r => r.number == n) = none →
        exec (.clearFault tag n) s = .next (s.replied tag 0x8E#8 (some .noSuchFault) [])) ∧
      (∀ r, s.mach.faults.find? (fun r => r.number == n) = some r → r.latched = false →
        exec (.clearFault tag n) s = .next (s.replied tag 0x8E#8 (some .notLatched) [])) ∧
      (∀ r, s.mach.faults.find? (fun r => r.number == n) = some r → r.latched = true →
        s.faultActive r = true →
        exec (.clearFault tag n) s = .next (s.replied tag 0x8E#8 (some .stillActive) [])) ∧
      (∀ r, s.mach.faults.find? (fun r => r.number == n) = some r → r.latched = true →
        s.faultActive r = false → s.calm → (∀ k i, s.unrecorded k i = false) →
          ∃ t, exec (.clearFault tag n) s = .next t ∧
            t.fixed = { s.fixed with order := s.console.order.drop 1 } ∧
            t.replyIs tag 0x8E#8 none [] ∧
            t.mach = { s.mach with faults := s.mach.faults.filter fun x => x.number != n } ∧
            (r.kind ≠ .input .localStop → ({ s.popRequest with mach := t.mach } : State).settlesTo t) ∧
            (r.kind = .input .localStop → (∀ x ∈ t.mach.faults, x.kind ≠ .input .localStop) →
              s.halt.state = .halted → HaltCause.localStop ∉ t.halt.causes))) ∧
  (∀ (k : Station) (r : StationReport) (i : Input) (s : State), s.powered = true → s.calm →
      s.alarmTaken k r = true → s.itemsRepeat k r → (∀ x, s.lampRepeats k r x) →
      (∀ j, j ≠ i → s.inputRepeats k r j) → ¬s.inputRepeats k r i →
      (i = .overload → (s.mach.overload.get k).expiry = none) → (s.mach.faults.map (·.number)).Nodup →
        (reportedInput r.inputs i = true → i ≠ .localStop → inputMode (s.mach.modes.get k) i ≠ .off →
          s.faultOf (.input i) (.station k) = none → s.mach.faults.length < 16 →
            ∃ t n x, exec (.alarmFrame k r) s = .next t ∧ (∀ y ∈ s.mach.faults, y.number ≠ n) ∧
              (t.line.rate = s.line.rate → t.held k i = some true ∧ t.stationFaults = s.stationFaults ++
                [{ number := n, kind := .input i, source := .station k
                   latched := decide (inputMode (s.mach.modes.get k) i = .latch), releasing := none
                   repeats := 0, escalated := false, capture := x }]) ∧
              x.time = s.toll.clock ∧ x.position = some r.gate ∧ x.above = s.levelAbove k ∧
              x.below = s.levelBelow k) ∧
        (∀ f, reportedInput r.inputs i = true → i ≠ .localStop →
          s.faultOf (.input i) (.station k) = some f →
            ∃ t, exec (.alarmFrame k r) s = .next t ∧ (t.line.rate = s.line.rate → t.held k i = some true ∧
              t.stationFaults = s.stationFaults.map fun x =>
                if x.number = f.number then
                  { f with
                    releasing := none
                    repeats := if s.held k i = some false then min 255 (f.repeats + 1) else f.repeats }
                else x)) ∧
        (∀ f, reportedInput r.inputs i = false → i ≠ .localStop → s.unrecorded k i = false →
          s.faultOf (.input i) (.station k) = some f → f.latched = false → f.releasing = none →
            ∃ t, exec (.alarmFrame k r) s = .next t ∧ (t.line.rate = s.line.rate → t.held k i = some false ∧
              t.stationFaults = s.stationFaults.map fun x =>
                if x.number = f.number then
                  { f with releasing := some (s.now + s.mach.timing.resumeDelay) }
                else x)) ∧
        (reportedInput r.inputs i = true → i = .localStop →
          ∃ t, exec (.alarmFrame k r) s = .next t ∧ t.halt.state = .halted ∧
            HaltCause.localStop ∈ t.halt.causes))

/-! ### Timers of movements, faults and levels -/

/-- R34, R35, R53, R54: a start or travel limit that expires fails its movement: the clock of the timers
stands at the expiry, one latched record joins the fault table with its capture, the movement record is gone
with a STOP placed, and a batch that owned the movement is suspended with FAULT; the path of a running batch is
at once requested SHUT (R146). A limit that does not run has nothing to expire. The time at an expiry is
log 2's, the travel time captured log 26's. -/
def Obligations.MovementLimitsExpire : Prop :=
  (∀ (i : Item) (m : Movement) (e : Nat) (kind : FaultKind) (c : Instr) (s : State), s.powered = true →
    s.calm → (s.item i).movement = some m →
    ((m.phase = .awaitStart ∧ m.startLimit = some e ∧ kind = .startTimeout ∧ c = .startLimitExpiry i) ∨
      (m.phase = .travel ∧ m.travelLimit = some e ∧ kind = .travelTimeout ∧ c = .travelLimitExpiry i)) →
    s.faultOf kind (.item i) = none → s.mach.faults.length < 16 →
      ∃ t n, exec c s = .next t ∧ t.fixed = { s.fixed with now := max s.now e } ∧
        (∀ r ∈ s.mach.faults, r.number ≠ n) ∧
        t.mach.faults = s.mach.faults ++
          [{ number := n, kind := kind, source := .item i, latched := true, releasing := none, repeats := 0
             escalated := false
             capture :=
              { time := s.toll.clock, position := (s.item i).position
                travel := travelElapsed (max s.now e) m.travel, above := s.levelAbove (itemStation i)
                below := s.levelBelow (itemStation i), batch := ownerBatch m.owner } }] ∧
        (∀ b st x, m.owner = .batch b st → s.batch? b = some x →
          ∃ y, t.batch? b = some y ∧ Reason.fault ∈ y.reasons) ∧
        (isGate i = true ∨ m.owner = .protective →
          (t.item i).movement = none ∧ (t.item i).command = .stops ∧ t.holdsOrder i .stops) ∧
        ∀ m', (t.item i).movement = some m' → m'.target = .shut ∧ m'.phase = .awaitTaken) ∧
  (∀ (i : Item) (s : State), s.startLimitOf i = none → exec (.startLimitExpiry i) s = .next s) ∧
  (∀ (i : Item) (s : State), s.travelLimitOf i = none → exec (.travelLimitExpiry i) s = .next s)

/-- R44: an overload blank timer that expires is elapsed, and the state set aside is taken; an OVERLOAD that
becomes active raises one record under its input's mode. R47: a resume delay that expires, with no other fault
holding the gate: the record is removed and a held movement goes back to AWAIT-TAKEN, counted when it had
placed a command; at the resume limit the record escalates to LATCH instead and the movement ends. The time
at an expiry is log 2's, the moment a released movement places its command log 8's. -/
def Obligations.OverloadAndResumeTimersExpire : Prop :=
  ((∀ (k : Station) (e : Nat) (s : State), s.powered = true → (s.mach.overload.get k).expiry = some e →
      ∃ t, exec (.overloadBlankExpiry k) s = .next t ∧ t.fixed = { s.fixed with now := max s.now e } ∧
        t.mach.overload.get k = { expiry := none, aside := none } ∧
        ∀ v, (s.mach.overload.get k).aside = some v → t.line.rate = s.line.rate →
          t.held k .overload = some v) ∧
    (∀ (k : Station) (e : Nat) (s : State), s.powered = true → s.calm →
      (s.mach.overload.get k) = { expiry := some e, aside := some true } →
      s.held k .overload ≠ some true → (s.mach.modes.get k).overload ≠ .off →
      s.faultOf (.input .overload) (.station k) = none → s.mach.faults.length < 16 →
        ∃ t r, exec (.overloadBlankExpiry k) s = .next t ∧ t.mach.faults = s.mach.faults ++ [r] ∧
          r.kind = .input .overload ∧ r.source = .station k ∧
          (r.latched = true ↔ (s.mach.modes.get k).overload = .latch)) ∧
    (∀ (k : Station) (s : State), (s.mach.overload.get k).expiry = none →
      exec (.overloadBlankExpiry k) s = .next s)) ∧
  (∀ (n e : Nat) (r : FaultRec) (k : Station) (s : State), s.powered = true → s.calm →
      (∀ j i, s.unrecorded j i = false) → s.mach.faults.find? (fun x => x.number == n) = some r →
      r.releasing = some e → isGateFault k r = true →
      (∀ x ∈ s.mach.faults, x.number ≠ n → isGateFault k x = false) →
        ((s.item (.gate k)).movement = none →
          ∃ t, exec (.resumeDelayExpiry n) s = .next t ∧ ({ s with
              now := max s.now e
              mach := { s.mach with
                faults := s.mach.faults.filter fun x => x.number != n } } : State).settlesTo t) ∧
        (∀ m, (s.item (.gate k)).movement = some m → m.phase = .held →
          (m.placed = false ∨ m.resumptions < s.mach.timing.resumeLimit) →
            ∃ t, exec (.resumeDelayExpiry n) s = .next t ∧
              ({ s with
                now := max s.now e
                mach := { s.mach with
                  faults := s.mach.faults.filter fun x => x.number != n
                  items := s.mach.items.set (.gate k) { s.item (.gate k) with
                    movement := some { m with
                      phase := .awaitTaken, queued := false
                      resumptions :=
                        if m.placed then m.resumptions + 1 else m.resumptions } } } } : State).settlesTo t) ∧
        (∀ m, (s.item (.gate k)).movement = some m → m.phase = .held → m.placed = true →
          s.mach.timing.resumeLimit ≤ m.resumptions →
            ∃ t, exec (.resumeDelayExpiry n) s = .next t ∧ t.fixed = { s.fixed with now := max s.now e } ∧
              (t.item (.gate k)).movement = none ∧
              t.mach.faults = s.mach.faults.map fun x =>
                if x.number = n then { r with latched := true, escalated := true, releasing := none } else x))

/-- R12, R30: a surge blank timer that expires is elapsed and acts on nothing else; at the expiry of a
changeover timer a movement that waits for it has its command placed; a timer that has elapsed has nothing
to expire (log 2). -/
def Obligations.BlankingAndChangeoverExpire : Prop :=
  (∀ (c : Chamber) (e : Nat) (s : State), s.powered = true → (s.chamber c).surge = some e →
    exec (.surgeBlankExpiry c) s =
      .next { s with
        now := max s.now e
        level := { s.level with chambers := s.level.chambers.set c { s.chamber c with surge := none } } }) ∧
  (∀ (c : Chamber) (s : State), (s.chamber c).surge = none → exec (.surgeBlankExpiry c) s = .next s) ∧
  (∀ (c : Chamber) (t0 : Nat) (i : Item) (m : Movement) (s : State), s.powered = true → s.calm →
    s.mach.changeover.get c = some t0 → s.now ≤ t0 + s.mach.limits.changeover → s.waitingItems = [i] →
    (s.item i).movement = some m → m.queued = false →
    (s.reach (t0 + s.mach.limits.changeover)).mayPlace i m.target = true →
      ∃ t, exec (.changeoverTimerExpiry c) s = .next t ∧
        t.fixed = { s.fixed with now := max s.now (t0 + s.mach.limits.changeover) } ∧
        (t.item i).movement = some { m with queued := true, unanswered := false, placed := true } ∧
        freshEntry (.item i (match m.target with | .opened => .opens | .shut => .closes)) ∈
          (t.station (itemStation i)).queue) ∧
  (∀ (c : Chamber) (s : State),
    (s.mach.changeover.get c = none ∨
      ∃ t0, s.mach.changeover.get c = some t0 ∧ t0 + s.mach.limits.changeover < s.now) →
        exec (.changeoverTimerExpiry c) s = .next s)

/-! ### Signals -/

/-- R64, R61: the all-stop interval is clamped and taken; when the far face has been stopped for one
interval, the waiting PROCEED of the other face is commanded. R59, R65: an alarm frame whose only change is the
lamp proving of one face, from PROVED to FAILED, raises LAMP FAIL (said while the line rate stands, and of the
records that no water step raises), and a face commanded PROCEED leaves it with its batch suspended with FAULT,
where the report does not complete a movement or answer another face's stop wait. -/
def Obligations.ProceedFollowsTheAllStopInterval : Prop :=
  (∀ (tag : Octet) (v : Nat) (s : State), s.takesRequest (.setSignalInterval tag v) = true →
    ∃ t, exec (.setSignalInterval tag v) s = .next t ∧
      t.fixed = { s.fixed with order := s.console.order.drop 1, interval := max 10 (min 300 v) } ∧
      t.replyIs tag 0x90#8 none [num 2 (max 10 (min 300 v))] ∧
      (s.calm → ({ s.popRequest with signal := { s.signal with interval := max 10 (min 300 v) } }
        : State).settlesTo t)) ∧
  (∀ (f : Face) (t0 : Nat) (s : State), s.powered = true → s.calm → s.halt.state = .running →
    (s.face (farFace f)).stopSince = some t0 → (s.face (farFace f)).request = none →
    (s.face f).request.isSome = true → (s.face f).commanded ≠ .proceed →
    (s.reach (t0 + s.signal.interval)).mayProceed f = true →
    (∀ d, approachOf f = some d → s.approachClosed d = false) →
      ∃ t, exec (.allStopIntervalElapsed (farFace f)) s = .next t ∧
        ({ s with now := max s.now (t0 + s.signal.interval) } : State).settlesTo t ∧
        (t.face f).commanded = .proceed ∧
        ∃ e ∈ (t.station f.gate).queue, e.command = .face f.side .proceed) ∧
  (∀ (f : Face) (s : State), s.proceedWaits f = false → exec (.allStopIntervalElapsed (farFace f)) s = .next s) ∧
  (∀ (k : Station) (x : Side) (r : StationReport) (s : State), s.powered = true → s.calm →
    s.alarmTaken k r = true → s.itemsRepeat k r → (∀ i, s.inputRepeats k r i) →
    (s.mach.overload.get k).expiry = none → (∀ y, y ≠ x → s.lampRepeats k r y) →
    (s.face ⟨k, x⟩).lamp = some true → (reportSide r x).proved = false →
    s.faultOf .lampFail (.face ⟨k, x⟩) = none → s.mach.faults.length < 16 →
    (s.mach.faults.map (·.number)).Nodup →
      ∃ t n, exec (.alarmFrame k r) s = .next t ∧ (t.face ⟨k, x⟩).commanded ≠ .proceed ∧
        (∀ y ∈ s.mach.faults, y.number ≠ n) ∧
        (t.line.rate = s.line.rate → (t.face ⟨k, x⟩).lamp = some false ∧
          ∃ c, c.time = s.toll.clock ∧ c.position = some r.gate ∧ t.stationFaults = s.stationFaults ++
          [{ number := n, kind := .lampFail, source := .face ⟨k, x⟩, latched := true, releasing := none
             repeats := 0, escalated := false, capture := c }]) ∧
        ∀ m st b, ¬s.reportEnds k x → (s.face ⟨k, x⟩).commanded = .proceed →
          (s.face ⟨k, x⟩).request = some (m, st) → s.batch? m = some b → ∃ y, t.batch? m = some y ∧ Reason.fault ∈ y.reasons)

/-! ### The station line -/

/-- R68: SET LINE RATE naming the rate in force changes nothing; another rate aborts the round and makes every
station that is not LOST UNSYNCED with count 0; FAST is refused unless RUNNING. R80: RESET STATION places one
station reset at the tail of the station's queue, or leaves the one that waits; it is refused unless RUNNING
and while a batch's step uses the station. -/
def Obligations.LineRateAndStationReset : Prop :=
  (∀ (tag : Octet) (n : Nat) (r : LineRate) (s : State), rateOf n = some r →
      s.takesRequest (.setLineRate tag n) = true →
        (r = .fast → s.halt.state ≠ .running →
          exec (.setLineRate tag n) s = .next (s.replied tag 0x94#8 (some .halted) [])) ∧
        ((r = .slow ∨ s.halt.state = .running) → s.line.rate = r →
          exec (.setLineRate tag n) s = .next (s.replied tag 0x94#8 none [])) ∧
        ((r = .slow ∨ s.halt.state = .running) → s.line.rate ≠ r → s.calm →
          ∃ t, exec (.setLineRate tag n) s = .next t ∧
            t.fixed = { s.fixed with order := s.console.order.drop 1 } ∧ t.replyIs tag 0x94#8 none [] ∧
            t.line.rate = r ∧ t.line.poll = none ∧ t.line.slot = none ∧
            ∀ k, ((s.station k).state = .lost →
                (t.station k).state = .lost ∧ (t.station k).failed = (s.station k).failed) ∧
              ((s.station k).state ≠ .lost → (t.station k).state = .unsynced ∧ (t.station k).failed = 0))) ∧
  (∀ (tag : Octet) (n : Nat) (k : Station) (s : State), stationOf n = some k →
      s.takesRequest (.resetStation tag n) = true →
        (s.halt.state ≠ .running →
          exec (.resetStation tag n) s = .next (s.replied tag 0x95#8 (some .halted) [])) ∧
        (s.halt.state = .running → s.stationInUse k = true →
          exec (.resetStation tag n) s = .next (s.replied tag 0x95#8 (some .inUse) [])) ∧
        (s.halt.state = .running → s.stationInUse k = false →
          exec (.resetStation tag n) s =
            .next ({ s with line := { s.line with stations := s.line.stations.set k { s.station k with
              queue := if (s.station k).queue.any (fun e => e.command == Machine.Command.reset) then
                  (s.station k).queue
                else (s.station k).queue ++
                  [freshEntry .reset] } } }.replied tag 0x95#8 none [])))

/-- R67, R69, R70, R83, R84: a poll slot sends the head of its station's queue, or nothing while the line is
held; the halt pulse ends; another device takes and releases the line, whether the part is powered or not
(log 22); a slot out of its place changes nothing (log 13). R67: a frame of a station opens with its address and
passes its check, one changed octet fails it, and a frame that fails its check, names another address or stands
outside its slot is discarded; what any other frame that cannot be read does is log 13's. -/
def Obligations.LineEventsMoveTheRound : Prop :=
  (∀ (k : Station) (s : State), s.powered = true → s.line.pulse = false → s.line.poll = none →
    slotAfter s.line.slot = some k → s.line.stretch = none →
      exec (.pollSlotStart k) s = .next { s with line := { s.line with
        slot := some k, alarm := false
        poll := some { station := k, sent := true, carried := (s.station k).queue.head?.map (·.command) }
        stations := s.line.stations.set k
          { s.station k with queue := markPolled (s.station k).queue } } }) ∧
  (∀ (k : Station) (s : State), s.powered = true → s.line.pulse = false → s.line.poll = none →
    slotAfter s.line.slot = some k → s.line.stretch.isSome = true →
      exec (.pollSlotStart k) s = .next { s with line := { s.line with
        slot := some k, alarm := false, poll := some { station := k, sent := false, carried := none } } }) ∧
  (∀ (k : Station) (s : State),
    (s.line.pulse = true ∨ s.line.poll.isSome = true ∨ slotAfter s.line.slot ≠ some k) →
      exec (.pollSlotStart k) s = .next s) ∧
  (∀ s : State, s.powered = true → s.line.pulse = true →
    exec .haltPulseEnd s = .next { s with line := { s.line with pulse := false, slot := none } }) ∧
  (∀ s : State, s.line.pulse = false → exec .haltPulseEnd s = .next s) ∧
  (∀ s : State, s.line.stretch = none →
    exec .dominantStretchStart s = .next { s with line := { s.line with stretch := some false } }) ∧
  (∀ s : State, s.line.stretch.isSome = true → exec .dominantStretchStart s = .next s) ∧
  (∀ s : State, exec .dominantStretchEnd s = .next { s with line := { s.line with stretch := none } }) ∧
  (∀ (octets : List Octet) (s : State), s.discards octets = true →
    exec (.stationFrameDiscarded octets) s = .next s) ∧
  (∀ (octets : List Octet) (k : Station) (s : State), lineSender octets = some k → s.answerDue k = true →
    exec (.stationFrameDiscarded octets) s = exec (.pollFailed k) s) ∧
  (∀ (octets : List Octet) (k : Station) (s : State), lineSender octets = some k → s.powered = true →
    s.alarmHeard = true →
      exec (.stationFrameDiscarded octets) s = .next { s with line := { s.line with alarm := true } }) ∧
  (∀ (k : Station) (contents : List Octet), lineSender (lineFrame (lineAddress k) contents) = some k) ∧
  (∀ (a : Octet) (contents : List Octet), linePasses (lineFrame a contents) = true ∧
    (a.toNat < 1 ∨ 4 < a.toNat → lineSender (lineFrame a contents) = none)) ∧
  (∀ (before after : List Octet) (x y : Octet), x ≠ y → linePasses (before ++ x :: after) = true →
    lineSender (before ++ y :: after) = none)

/-- R4, R15, R33, R34, R70, R71, R74, R75, R81, R84: a good answer, and an alarm frame in the open slot, are
handed on: the station is ONLINE (RESETTING after a TAKEN reset), its readings are stored, its positions and
aspects held, while the line rate stands (a halt at FAST unsyncs every station, R83). A reading above CREST, as
stored (log 26), halts the flight. A verdict and a report move on the movement of their item. An alarm frame that
cannot be completed changes nothing (log 13); one completed fills the open slot. -/
def Obligations.GoodAnswersAreHandedOn : Prop :=
  (∀ (k : Station) (a : Answer) (p : Poll) (s : State), s.powered = true → s.line.poll = some p →
    p.station = k → s.goodAnswer k p a = true →
    ¬(p.carried = some .reset ∧ a.verdict = some .taken) →
      ∃ t, exec (.goodAnswer k a) s = .next t ∧ t.line.poll = none ∧
        { t.fixed with chambers := s.fixed.chambers, changeover := s.fixed.changeover } =
          { s.fixed with inLocal := s.mach.inLocal.set k a.report.inLocal } ∧
        (t.line.rate = s.line.rate →
          (t.station k).state = .online ∧ (t.station k).failed = 0 ∧
          (t.item (.gate k)).position = some a.report.gate ∧
          (t.item (.sluice k)).position = some a.report.sluice ∧
          (∀ w, stationByWash k = some w → (t.item (.byWash w)).position = a.report.byWash) ∧
          (∀ c, chamberAbove k = some c → (t.chamber c).lower = a.above.map fun v => min v 20000) ∧
          (∀ c, chamberBelow k = some c → (t.chamber c).upper = a.below.map fun v => min v 20000) ∧
          (t.face ⟨k, .upper⟩).reported = some a.report.upper.aspect ∧
          (t.face ⟨k, .lower⟩).reported = some a.report.lower.aspect ∧
          (∀ j, j ≠ k → (t.station j).state = (s.station j).state ∧
            (t.station j).failed = (s.station j).failed) ∧
          (∀ i, itemStation i ≠ k → (t.item i).position = (s.item i).position)) ∧
        ∀ c g v, ((chamberAbove k = some c ∧ a.above = some v) ∨ (chamberBelow k = some c ∧ a.below = some v)) →
          (s.chamber c).config = some g → g.crest < min v 20000 →
            (t.chamber c).crest = true ∧ t.halt.state = .halted ∧ HaltCause.crest ∈ t.halt.causes) ∧
  (∀ (k : Station) (a : Answer) (p : Poll) (s : State), s.powered = true → s.line.poll = some p →
    p.station = k → s.goodAnswer k p a = true → p.carried = some .reset → a.verdict = some .taken →
      ∃ t, exec (.goodAnswer k a) s = .next t ∧ t.fixed = s.fixed ∧ t.line.poll = none ∧
        (t.line.rate = s.line.rate → (t.station k).state = .resetting ∧ (t.station k).failed = 0)) ∧
  (∀ (k : Station) (r : StationReport) (s : State), s.powered = true → s.alarmTaken k r = true →
    ∃ t, exec (.alarmFrame k r) s = .next t ∧
      { t.fixed with chambers := s.fixed.chambers, changeover := s.fixed.changeover } =
        { s.fixed with inLocal := s.mach.inLocal.set k r.inLocal } ∧
      (t.line.rate = s.line.rate →
        t.station k = { s.station k with queue := (t.station k).queue } ∧
        (t.item (.gate k)).position = some r.gate ∧ (t.item (.sluice k)).position = some r.sluice ∧
        (∀ w, stationByWash k = some w → (t.item (.byWash w)).position = r.byWash) ∧
        (∀ x, (t.face ⟨k, x⟩).reported = some (reportSide r x).aspect))) ∧
  (∀ (k : Station) (r : StationReport) (s : State), s.powered = true → s.alarmHeard = true →
    s.alarmTaken k r = false →
      exec (.alarmFrame k r) s = .next { s with line := { s.line with alarm := true } }) ∧
  (∀ (k : Station) (r : StationReport) (s : State), s.alarmHeard = false →
    exec (.alarmFrame k r) s = .next s) ∧
  (∀ (i : Item) (o : ItemOrder) (m : Movement) (s : State), (s.item i).movement = some m →
    m.phase = .awaitTaken → m.queued = true → orderTarget o = some m.target →
      ((s.itemVerdict i o .taken).item i).movement = some { m with
        phase := .awaitStart, queued := false, unanswered := false
        startLimit := some (s.now +
          if isGate i then s.mach.limits.gateStart else s.mach.limits.pathStart) } ∧
      ∀ why, ((s.itemVerdict i o (.refused why)).item i).movement = none ∧
        (s.itemVerdict i o (.refused why)).holdsOrder i .stops) ∧
  (∀ (i : Item) (p : Position) (m : Movement) (s : State), (s.item i).movement = some m →
    (m.phase = .awaitStart → p = (match m.target with | .opened => .opening | .shut => .closing) →
      ((s.reportMovement i p).item i).movement = some { m with
        phase := .travel, startLimit := none, travel := .since s.now
        travelLimit := some (s.now +
          if isGate i then s.mach.limits.gateTravel else s.mach.limits.pathTravel) }) ∧
    (m.phase = .awaitStart ∨ m.phase = .travel →
      p = (match m.target with | .opened => .opened | .shut => .shut) →
        ((s.reportMovement i p).item i).movement = none ∧
        ∀ n st, m.owner = .batch n st →
          (s.reportMovement i p).hand.toRun = s.hand.toRun ++ [.complete n i m.target]) ∧
    (m.phase = .awaitTaken ∨ m.phase = .held → s.reportMovement i p = s))

/-- R72, R75: a poll with no good answer counts: the fifth makes the station LOST, an earlier one takes
ONLINE to MISSING and leaves the other states. An answer that is not good, or that a stretch overlaps (R84), is
such a poll (log 13). -/
def Obligations.FailedPollsAreCounted : Prop :=
  (∀ (k : Station) (p : Poll) (s : State), s.powered = true → s.line.poll = some p → p.station = k →
    ∃ t, exec (.pollFailed k) s = .next t ∧ t.fixed = s.fixed ∧ t.line.poll = none ∧
      (t.line.rate = s.line.rate →
        (t.station k).failed = min 5 ((s.station k).failed + 1) ∧
        (4 ≤ (s.station k).failed → (t.station k).state = .lost) ∧
        ((s.station k).failed < 4 →
          (t.station k).state =
            if (s.station k).state = .online then .missing else (s.station k).state) ∧
        ∀ j, j ≠ k → (t.station j).state = (s.station j).state ∧
          (t.station j).failed = (s.station j).failed)) ∧
  (∀ (k : Station) (s : State), s.pollOf k = none →
    exec (.pollFailed k) s = .next s ∧ ∀ a, exec (.goodAnswer k a) s = .next s) ∧
  (∀ (k : Station) (a : Answer) (p : Poll) (s : State), s.pollOf k = some p → s.goodAnswer k p a = false →
    exec (.goodAnswer k a) s = exec (.pollFailed k) s)

/-- R3, R7 to R11, R13 to R17, R21, R69: a round end takes the level settings into effect, derives each chamber
and the river levels, sets and clears the HIGH flags and clears CREST indications, counts equality and targets (a
chamber DISPUTED before or after the derivation keeps them at 0: log 17) and evaluates river hold. A HIGH flag
that becomes set leaves no command to open its feed path in a queue with one entry per slot (log 25). A round end out of its place
changes nothing (log 13). -/
def Obligations.RoundEndDerivesTheLevels : Prop :=
  (∀ s : State, s.powered = true → s.line.slot = some .k3 → s.line.poll = none → s.line.pulse = false →
    ∃ t, exec .roundEnd s = .next t ∧ t.line.slot = none ∧
      { t.fixed with
        chambers := s.fixed.chambers, equal := s.level.equal, riverHold := s.level.riverHold } =
        { s.fixed with
          acting := s.level.settings
          headLevel := if (s.station .k0).state = .online then s.level.headReading else none
          tailLevel := if (s.station .k3).state = .online then s.level.tailReading else none } ∧
      (∀ c, let d := (deriveChamber s.level.settings (s.chamber c) (s.validUpper c) (s.validLower c)).record
        (t.chamber c).agreed = d.agreed ∧ (t.chamber c).condition = d.condition ∧
          (t.chamber c).dispute = d.dispute ∧ (t.chamber c).lastKnown = d.lastKnown) ∧
      (∀ k, t.level.equal.get k =
        match t.levelAbove k, t.levelBelow k with
        | some a, some b =>
          if (∀ c ∈ gateChambers k, (s.chamber c).condition ≠ .disputed ∧
                (t.chamber c).condition ≠ .disputed ∧ (s.chamber c).surge = none) ∧
              max a b - min a b ≤ s.level.settings.equalTolerance then
            min 16 (s.level.equal.get k + 1)
          else 0
        | _, _ => 0) ∧
      (∀ c, (t.chamber c).high =
        match (s.chamber c).config, (t.chamber c).agreed, (s.chamber c).surge with
        | some g, some h, none => decide (g.high < h)
        | _, _, _ => (s.chamber c).high) ∧
      (∀ c, (t.chamber c).crest = true ↔ (s.chamber c).crest = true ∧
        ∀ g, (s.chamber c).config = some g →
          (s.validUpper c = none ∧ s.validLower c = none) ∨
            ∃ v, (s.validUpper c = some v ∨ s.validLower c = some v) ∧ g.crest < v) ∧
      (t.level.riverHold = false ↔ ∃ g1 g3 h l, (s.chamber .c1).config = some g1 ∧
        (s.chamber .c3).config = some g3 ∧ t.level.headLevel = some h ∧ t.level.tailLevel = some l ∧
        h + s.level.settings.freeboard ≤ g1.crest ∧ l + s.level.settings.freeboard ≤ g3.crest)) ∧
  (∀ s : State, s.roundEndDue = false → exec .roundEnd s = .next s) ∧
  (∀ (c : Chamber) (s : State), let t := s.levelRoundEnd
    (t.chamber c).target = (s.chamber c).target ∧
    (t.chamber c).targetCount =
      match (s.chamber c).target with
      | some x =>
        if t.inBand c x = true ∧ (s.chamber c).condition ≠ .disputed ∧ (s.chamber c).surge = none then
          min 16 ((s.chamber c).targetCount + 1)
        else 0
      | none => 0) ∧
  (∀ (c : Chamber) (s : State), (s.chamber c).high = false → ((s.testHigh c).chamber c).high = true →
    oneEntryPerSlot (s.station (itemStation (feedPath c))).queue →
    (s.holdsOrder (feedPath c) .opens → ∃ m, (s.item (feedPath c)).movement = some m ∧
      m.phase = .awaitTaken ∧ m.queued = true ∧ m.target = .opened) →
      ¬(s.testHigh c).holdsOrder (feedPath c) .opens)

/-! ### Halt, power and the retained store -/

/-- R84, R88 to R90: ALL STOP and a dominant stretch of 250 ms, timed from the part's release, are causes: the
part is HALTED with that cause present, and ALL STOP's reply carries the state and the causes; LINE HALT changes
nothing without a stretch, after it has been handed for one, or while the part drives its pulse (logs 13, 22). R40, R62, R73, R79, R83, R88: the entry
into HALTED from RUNNING or RECOVERING by ALL STOP: the cause alone is present, every movement and command
state is gone, the round is aborted, the halt pulse is driven and the rate is SLOW, no PROCEED request or
stop wait stands, no queued command moves anything, and every batch is suspended with HALT. The order of the
acts within the step is log 4's. -/
def Obligations.CausesHaltTheFlight : Prop :=
  ((∀ (tag : Octet) (s : State), s.takesRequest (.allStop tag) = true →
      ∃ t, exec (.allStop tag) s = .next t ∧ t.fixed = { s.fixed with order := s.console.order.drop 1 } ∧
        t.halt.state = .halted ∧ HaltCause.allStop ∈ t.halt.causes ∧
        t.replyIs tag 0x98#8 none t.haltFields) ∧
    (∀ s : State, s.powered = true → s.line.stretch = some false → s.line.pulse = false →
      ∃ t, exec .lineHalt s = .next t ∧ t.fixed = { s.fixed with stretch := some true } ∧
        t.halt.state = .halted ∧ HaltCause.lineHalt ∈ t.halt.causes) ∧
    (∀ s : State, s.line.stretch ≠ some false ∨ s.line.pulse = true → exec .lineHalt s = .next s)) ∧
  (∀ (tag : Octet) (s : State), s.takesRequest (.allStop tag) = true → s.halt.state ≠ .halted → s.calm →
      ∃ t, exec (.allStop tag) s = .next t ∧
        t.halt = { state := .halted, causes := [.allStop], entry := .allStop, awaited := Quad.const none
                   startUp := s.halt.startUp } ∧
        (∀ i, (t.item i).movement = none ∧ (t.item i).command = .none) ∧
        t.line.pulse = true ∧ t.line.rate = .slow ∧ t.line.poll = none ∧ t.line.slot = none ∧
        (∀ f, (t.face f).request = none ∧ (t.face f).stopWait = none ∧ (t.face f).commanded ≠ .proceed) ∧
        (∀ k, ∀ e ∈ (t.station k).queue, e.command.moves = false) ∧
        (∀ n b, s.batch? n = some b → ∃ x, t.batch? n = some x ∧ Reason.halt ∈ x.reasons))

/-- R91, R92: CLEAR HALT leaves HALTED for RECOVERING with the stations that are not LOST awaited, or all
four when all are LOST; a CREST indication or a LOCAL STOP refuses it; in the other states it changes
nothing. Its reply carries the halt state and the causes. -/
def Obligations.ClearHaltRecovers : Prop :=
  (∀ (tag : Octet), requestOf ⟨tag, 0x19#8, []⟩ = .clearHalt tag) ∧
  (∀ (tag : Octet) (payload : List Octet), payload ≠ [] →
    requestOf ⟨tag, 0x19#8, payload⟩ = .refuseMalformed ⟨tag, 0x19#8, payload⟩) ∧
  ∀ (tag : Octet) (s : State), s.takesRequest (.clearHalt tag) = true →
    (s.halt.state = .halted → (∀ c, (s.chamber c).crest = false) → s.localStopPresent = false →
      ∃ aw, exec (.clearHalt tag) s =
          .next ({ s with halt := { s.halt with state := .recovering, causes := [], awaited := aw } }.replied
            tag 0x99#8 none [num 1 2, num 1 0]) ∧
        ∀ k, aw.get k =
          if (s.station k).state = .lost ∧ allStations.any (fun j => (s.station j).state != .lost) then none
          else some false) ∧
    (s.halt.state = .halted → (s.localStopPresent = true ∨ ∃ c, (s.chamber c).crest = true) →
      exec (.clearHalt tag) s = .next (s.replied tag 0x99#8 (some .stillActive) s.haltFields)) ∧
    (s.halt.state ≠ .halted → exec (.clearHalt tag) s = .next (s.replied tag 0x99#8 none s.haltFields))

/-- R95 to R97: a power-on takes up the newer of two valid images, the one valid image, or the defaults when
neither is valid; the part stands HALTED with START-UP, every block at its start-up values, each retained batch
suspended with RESTART. That a power-on of a powered part is a loss of power first is log 7's, that the defaults
give State.reset and the start-up values no rule gives logs 1 and 24's, the choice of image where a generation
wraps log 18's, the mark of a stretch still lasting log 22's, HALT ENTERED last among the notices log 27's. -/
def Obligations.PowerOnTakesTheNewestImage : Prop :=
  (∀ s : State, s.store.imageA = none → s.store.imageB = none →
    exec .powerOn s = .next { State.reset with
      now := s.now, pending := s.pending
      line := { State.reset.line with stretch := s.line.stretch.map fun _ => false } }) ∧
  (∀ (s : State) (n : ImageName) (i : Image) (o : StartOutcome), s.powered = false →
    ((∃ a b, s.store.imageA = some a ∧ s.store.imageB = some b ∧ o = .bothValid ∧
        ((b.generation = (if 65535 ≤ a.generation then 0 else a.generation + 1) ∧ n = .b ∧ i = b) ∨
          (b.generation ≠ (if 65535 ≤ a.generation then 0 else a.generation + 1) ∧ n = .a ∧ i = a))) ∨
      (s.store.imageA = some i ∧ s.store.imageB = none ∧ n = .a ∧ o = .oneValid) ∨
      (s.store.imageA = none ∧ s.store.imageB = some i ∧ n = .b ∧ o = .oneValid)) →
    ∃ t, exec .powerOn s = .next t ∧ t.powered = true ∧ t.store.inUse = n ∧
      t.store.imageA = s.store.imageA ∧ t.store.imageB = s.store.imageB ∧
      t.halt = { state := .halted, causes := [.startUp], entry := .startUp, awaited := Quad.const none
                 startUp := { kind := .powerOn, outcome := o, generation := i.generation } } ∧
      { t.retainedOf with batches := [] } = { i.contents with batches := [] } ∧
      t.traffic.batches = i.contents.batches.map Batch.startUp ∧
      t.toll.clock = s.toll.clock ∧ t.console.order = [] ∧ t.console.reply = none ∧ t.startedAfresh)

/-- R94, R173: a power failure loses the updates not complete and the image being written; an update that
completes makes the other image the one in use, with the next generation, and a reply waits for one update
fewer (log 7); the clock ticks with or without power. -/
def Obligations.UpdatesGoToTheOtherImage : Prop :=
  (∀ s : State, s.powered = true → s.store.updates = [] →
    exec .powerFail s = .next { s with powered := false }) ∧
  (∀ s : State, s.powered = true → s.store.updates ≠ [] →
    exec .powerFail s = .next { s with
      powered := false
      store := match s.store.inUse with
        | .a => { s.store with imageB := none, updates := [] }
        | .b => { s.store with imageA := none, updates := [] } }) ∧
  (∀ s : State, s.powered = true → s.store.updates = [] →
    exec .retainedUpdateComplete s = .next s) ∧
  (∀ (s : State) (i : Image) (u : Retained) (rest : List Retained), s.powered = true →
    s.store.updates = u :: rest → s.store.image s.store.inUse = some i →
      exec .retainedUpdateComplete s = .next { s with
        console := { s.console with
          reply := s.console.reply.map fun r => { r with waits := r.waits - 1 } }
        store := match s.store.inUse with
          | .a => { s.store with
              imageB := some { contents := u, generation := if 65535 ≤ i.generation then 0 else i.generation + 1 }
              inUse := .b, updates := rest }
          | .b => { s.store with
              imageA := some { contents := u, generation := if 65535 ≤ i.generation then 0 else i.generation + 1 }
              inUse := .a, updates := rest } }) ∧
  (∀ s : State, exec .clockTick s =
    .next { s with toll := { s.toll with clock := if 86399 ≤ s.toll.clock then 0 else s.toll.clock + 1 } })

/-! ### Traffic -/

/-- R99 to R105: an accepted REGISTER VESSEL draws its passage number and arrival stamp, and its record takes
its place in the queue of its direction; where nothing can be admitted nothing else of the queues changes.
A vessel that exceeds the flight, a reference held already and a full queue are refused. -/
def Obligations.RegisterTakesAPlaceInTheQueue : Prop :=
  ∀ (tag : Octet) (a : VesselArgs) (d : Direction) (p : Priority) (s : State),
    directionOf a.direction = some d → priorityOf a.priority = some p → referenceValid a.reference = true →
    measuresValid a = true → s.toll.current.isSome = true → s.takesRequest (.registerVessel tag a) = true →
      (∀ dims, s.flightDims = some dims → dims.usable < a.length →
        exec (.registerVessel tag a) s = .next (s.replied tag 0xA0#8 (some .tooLong) [])) ∧
      (∀ dims, s.flightDims = some dims → a.length ≤ dims.usable → dims.width < a.beam + 4 →
        exec (.registerVessel tag a) s = .next (s.replied tag 0xA0#8 (some .tooWide) [])) ∧
      (∀ dims, s.flightDims = some dims → a.length ≤ dims.usable → a.beam + 4 ≤ dims.width →
        dims.sill < a.draught + 30 →
        exec (.registerVessel tag a) s = .next (s.replied tag 0xA0#8 (some .tooDeep) [])) ∧
      (s.unfit a.length a.beam a.draught = none → (∃ q ∈ s.allPassages, q.reference = a.reference) →
        exec (.registerVessel tag a) s = .next (s.replied tag 0xA0#8 (some .duplicate) [])) ∧
      (s.unfit a.length a.beam a.draught = none → (∀ q ∈ s.allPassages, q.reference ≠ a.reference) →
        24 ≤ s.charge d →
        exec (.registerVessel tag a) s = .next (s.replied tag 0xA0#8 (some .queueFull) [])) ∧
      (s.unfit a.length a.beam a.draught = none → (∀ q ∈ s.allPassages, q.reference ≠ a.reference) →
        s.charge d < 24 → s.traffic.nextStamp ≤ 65535 →
        (∀ q ∈ s.allPassages, q.number ≠ s.traffic.nextPassage) → s.calm → s.admitsNothing →
        ∃ t r, r = ({ number := s.traffic.nextPassage, reference := a.reference, direction := d
                      length := a.length, beam := a.beam, draught := a.draught
                      deadweight := a.deadweight, cargo := a.cargo, priority := p
                      arrivalDay := s.toll.account.day, arrivalTime := s.toll.clock
                      stamp := s.traffic.nextStamp, skips := 0, state := .queued, location := .queue
                      batch := none } : Passage) ∧
          exec (.registerVessel tag a) s = .next t ∧
          t.fixed = { s.fixed with
            order := s.console.order.drop 1
            nextPassage := if 65535 ≤ s.traffic.nextPassage then 1 else s.traffic.nextPassage + 1
            nextStamp := s.traffic.nextStamp + 1 } ∧
          t.replyIs tag 0xA0#8 none [num 2 r.number, num 1 (positionOf r.number (t.queueOf d))] ∧
          (let u := s.popRequest.setQueueOf d (placePassage r (s.queueOf d))
           (u.setTraffic { u.traffic with
              nextPassage := if 65535 ≤ s.traffic.nextPassage then 1 else s.traffic.nextPassage + 1
              nextStamp := s.traffic.nextStamp + 1 }).settlesTo t))

/-- R106, R107: WITHDRAW VESSEL is refused for a number not held and for a vessel in a batch; otherwise the
record leaves its queue, with a pending order that names it. -/
def Obligations.WithdrawTakesTheRecordAway : Prop :=
  ∀ (tag : Octet) (n : Nat) (s : State), s.takesRequest (.withdrawVessel tag n) = true →
    ((∀ p ∈ s.allPassages, p.number ≠ n) →
      exec (.withdrawVessel tag n) s = .next (s.replied tag 0xA1#8 (some .noSuchVessel) [])) ∧
    (s.queued? n = none → (∃ p ∈ s.allPassages, p.number = n) →
      exec (.withdrawVessel tag n) s = .next (s.replied tag 0xA1#8 (some .inBatch) [])) ∧
    (∀ p, s.queued? n = some p → s.calm →
      (s.admitsNothing ∨ (s.traffic.mode = .keeper ∧ s.orderHolds n = true)) →
        ∃ t, exec (.withdrawVessel tag n) s = .next t ∧
          t.fixed = { s.fixed with order := s.console.order.drop 1 } ∧
          t.replyIs tag 0xA1#8 none [flag (s.orderHolds n)] ∧
          let u := s.popRequest.setQueueOf p.direction
            ((s.queueOf p.direction).filter fun q => q.number != n)
          (u.setTraffic { u.traffic with
            order := if s.orderHolds n then none else s.traffic.order }).settlesTo t)

/-- R105, R108 to R110, R121: the queue limits and the admission settings are clamped and taken, the near-full
indications follow, and a lowered skip limit lowers the counts; SET MODE takes its mode, and discards a
pending order when the mode leaves KEEPER. -/
def Obligations.TrafficSettingsAreTaken : Prop :=
  (∀ (tag : Octet) (m l : Nat) (s : State), s.takesRequest (.setQueueLimits tag m l) = true →
    ∃ t, exec (.setQueueLimits tag m l) s = .next t ∧
      t.fixed = { s.fixed with
        order := s.console.order.drop 1, margin := min 23 m, skipLimit := max 1 (min 10 l) } ∧
      t.replyIs tag 0xA2#8 none [num 1 (min 23 m), num 1 (max 1 (min 10 l))] ∧
      (∀ d, t.nearFullOf d = decide (24 - min 23 m ≤ t.charge d)) ∧
      (s.calm → s.admitsNothing →
        let low := fun (p : Passage) => { p with skips := min (max 1 (min 10 l)) p.skips }
        (s.popRequest.setTraffic { s.traffic with
          margin := min 23 m, skipLimit := max 1 (min 10 l)
          up := s.traffic.up.map low, down := s.traffic.down.map low
          batches := s.traffic.batches.map fun b =>
            { b with members := b.members.map low } }).settlesTo t)) ∧
  (∀ (tag : Octet) (x : Nat) (m : FlightMode) (s : State), flightModeOf x = some m →
    s.takesRequest (.setMode tag x) = true → s.traffic.mode = m →
      exec (.setMode tag x) s = .next (s.replied tag 0xA3#8 none [flag false, num 1 x])) ∧
  (∀ (tag : Octet) (x : Nat) (m : FlightMode) (s : State), flightModeOf x = some m →
    s.takesRequest (.setMode tag x) = true → s.traffic.mode ≠ m →
      ∃ t, exec (.setMode tag x) s = .next t ∧
        t.fixed = { s.fixed with order := s.console.order.drop 1, mode := m } ∧
        t.replyIs tag 0xA3#8 none
          [flag (s.traffic.mode == .keeper && s.traffic.order.isSome), num 1 x] ∧
        (s.traffic.mode = .keeper → t.traffic.order = none) ∧
        (s.calm → (s.setTraffic { s.traffic with
            mode := m, order := if s.traffic.mode = .keeper then none else s.traffic.order }).admitsNothing →
          (s.popRequest.setTraffic { s.traffic with
            mode := m, order := if s.traffic.mode = .keeper then none else s.traffic.order }).settlesTo t)) ∧
  (∀ (tag : Octet) (a : AdmissionArgs) (f : Bool) (s : State), followOnOf a.followOn = some f →
    s.takesRequest (.setAdmissionSettings tag a) = true →
      ∃ t, exec (.setAdmissionSettings tag a) s = .next t ∧
        t.fixed = { s.fixed with
          order := s.console.order.drop 1, quota := max 1 (min 4 a.quota), spacing := min 100 a.spacing
          followOn := f } ∧
        t.replyIs tag 0xA8#8 none
          [num 1 (max 1 (min 4 a.quota)), num 1 (min 100 a.spacing), num 1 a.followOn] ∧
        (s.calm → s.admitsNothing → (s.popRequest.setTraffic { s.traffic with
          quota := max 1 (min 4 a.quota), spacing := min 100 a.spacing, followOn := f }).settlesTo t))

/-- R100, R112, R113, R116, R119, R120, R122, R123, R128: an order is refused by the first row of the table of R122
that applies, and is not refused when none does; one that is refused changes nothing; one that cannot be
admitted now stands pending; one that can is admitted: the reply names the next batch number, and a batch of
that number stands last in the table with the named vessels as its members, in the order named, gone from their
queue. The layout of the reply is log 12's, the batch counter after a number passed over log 28's. -/
def Obligations.KeeperOrdersAreTested : Prop :=
  (∀ (tag : Octet) (ns : List Nat) (c : RefuseCode) (s : State), s.orderRefusal ns = some c →
    s.takesRequest (.orderBatch tag ns) = true →
      exec (.orderBatch tag ns) s = .next (s.replied tag 0xA9#8 (some c) [])) ∧
  (∀ (ns : List Nat) (s : State),
    let sized := 1 ≤ ns.length ∧ ns.length ≤ 4 ∧ ns.Nodup
    let configured := s.toll.current.isSome = true ∧ s.flightDims.isSome = true
    (¬sized → s.orderRefusal ns = some .badValue) ∧
    (sized → s.traffic.mode ≠ .keeper → s.orderRefusal ns = some .wrongMode) ∧
    (sized → s.traffic.mode = .keeper → ¬configured → s.orderRefusal ns = some .notConfigured) ∧
    (sized → s.traffic.mode = .keeper → configured → s.traffic.order ≠ none →
      s.orderRefusal ns = some .orderPending) ∧
    (sized → s.traffic.mode = .keeper → configured → s.traffic.order = none →
      (∃ n ∈ ns, ∀ p ∈ s.allPassages, p.number ≠ n) → s.orderRefusal ns = some .noSuchVessel) ∧
    (sized → s.traffic.mode = .keeper → configured → s.traffic.order = none →
      (∀ n ∈ ns, ∃ p ∈ s.allPassages, p.number = n) → (∃ n ∈ ns, s.queued? n = none) →
      s.orderRefusal ns = some .inBatch) ∧
    (∀ dims ps, sized → s.traffic.mode = .keeper → s.toll.current.isSome = true → s.flightDims = some dims →
      s.traffic.order = none → ns.map s.queued? = ps.map some →
      ((∃ p ∈ ps, ∃ q ∈ ps, p.direction ≠ q.direction) → s.orderRefusal ns = some .badValue) ∧
      ((∀ p ∈ ps, ∀ q ∈ ps, p.direction = q.direction) →
        ((∃ p ∈ ps, s.unfit p.length p.beam p.draught ≠ none) ∨
          dims.usable < batchLength s.traffic.spacing ps →
            s.orderRefusal ns = some .doesNotFit) ∧
        ((∀ p ∈ ps, s.unfit p.length p.beam p.draught = none) →
          batchLength s.traffic.spacing ps ≤ dims.usable →
            s.orderRefusal ns = if s.freeSlots < ns.length then some .receiptsFull else none)))) ∧
  (∀ (tag : Octet) (ns : List Nat) (s : State), s.orderRefusal ns = none →
    s.takesRequest (.orderBatch tag ns) = true →
    s.orderOpen { passages := ns, direction := s.orderDirection ns } = false → s.calm →
      ∃ t, exec (.orderBatch tag ns) s = .next t ∧
        t.fixed = { s.fixed with order := s.console.order.drop 1 } ∧
        t.replyIs tag 0xA9#8 none [num 1 1, opt 2 none] ∧
        (s.popRequest.setTraffic { s.traffic with
          order := some { passages := ns, direction := s.orderDirection ns } }).settlesTo t) ∧
  (∀ (tag : Octet) (ns : List Nat) (s : State), s.orderRefusal ns = none →
    s.takesRequest (.orderBatch tag ns) = true →
    s.orderOpen { passages := ns, direction := s.orderDirection ns } = true →
      ∃ t n, exec (.orderBatch tag ns) s = .next t ∧
        t.fixed = { s.fixed with order := s.console.order.drop 1 } ∧
        t.replyIs tag 0xA9#8 none [num 1 0, opt 2 (some n)] ∧ s.nextBatchNumber n ∧ t.traffic.order = none ∧
        (s.calm → ∃ e x, s.toll.current = some e ∧ t.traffic.batches = s.traffic.batches ++ [x] ∧
          x.number = n ∧ x.direction = s.orderDirection ns ∧
          x.members = (s.orderRecords ns).zipIdx.map (fun p =>
            { p.1 with state := .admitted, location := .approach, batch := some (n, p.2 + 1) }) ∧
          x.members.map (·.number) = ns ∧ x.admitDay = s.toll.account.day ∧ x.admitTime = s.toll.clock ∧
          x.edition = e.number ∧ x.night = isNight e s.toll.clock ∧ x.moved = false ∧ x.entered = false ∧
          x.cleared = false ∧ x.step.isSome = true ∧
          t.queueOf x.direction =
            (skipAhead s.traffic.skipLimit ns (s.queueOf x.direction)).filter (fun p => !ns.contains p.number) ∧
          t.queueOf (otherDirection x.direction) = s.queueOf (otherDirection x.direction) ∧
          t.traffic.lastDirection = some x.direction ∧
          t.traffic.consecutive =
            (if s.traffic.lastDirection = some x.direction then min 255 (s.traffic.consecutive + 1) else 1) ∧
          t.traffic.nextBatch = if 255 ≤ n then 1 else n + 1))

/-- R124: CANCEL ORDER carries no data and is taken in every halt state and mode; with no pending keeper order
it is refused NO ORDER, and otherwise the order is discarded and the reply carries the passage numbers it
named. -/
def Obligations.CancelOrderDiscards : Prop :=
  (∀ (tag : Octet), requestOf ⟨tag, 0x2A#8, []⟩ = .cancelOrder tag) ∧
  (∀ (tag : Octet) (payload : List Octet), payload ≠ [] →
    requestOf ⟨tag, 0x2A#8, payload⟩ = .refuseMalformed ⟨tag, 0x2A#8, payload⟩) ∧
  (∀ (tag : Octet) (s : State), s.traffic.order = none → s.takesRequest (.cancelOrder tag) = true →
    exec (.cancelOrder tag) s = .next (s.replied tag 0xAA#8 (some .noOrder) [])) ∧
  (∀ (tag : Octet) (o : KeeperOrder) (s : State), s.traffic.order = some o →
    s.takesRequest (.cancelOrder tag) = true →
      exec (.cancelOrder tag) s =
        .next ({ s with traffic := { s.traffic with order := none } }.replied tag 0xAA#8 none
          (num 1 o.passages.length :: o.passages.map (num 2))))

/-- R125, R126, R163: ABANDON BATCH is refused while vessels are inside and unless suspended; otherwise the
batch leaves the table, its members go back to their queue, and its lockage water is charged unallocated. The
reply carries the outcome, the batch, the passages, the charge and the new queue positions, in log 12's
layout. -/
def Obligations.AbandonReturnsTheMembers : Prop :=
  ∀ (tag : Octet) (n : Nat) (s : State), s.takesRequest (.abandonBatch tag n) = true →
    (s.batch? n = none →
      exec (.abandonBatch tag n) s = .next (s.replied tag 0xAB#8 (some .noSuchBatch) [])) ∧
    (∀ b, s.batch? n = some b → b.entered = true →
      exec (.abandonBatch tag n) s = .next (s.replied tag 0xAB#8 (some .vesselsInside) [])) ∧
    (∀ b, s.batch? n = some b → b.entered = false → b.suspended = false →
      exec (.abandonBatch tag n) s = .next (s.replied tag 0xAB#8 (some .notSuspended) [])) ∧
    (∀ b, s.batch? n = some b → b.entered = false → b.suspended = true → s.calm → s.admitsNothing →
      ∃ t w, exec (.abandonBatch tag n) s = .next t ∧
        t.fixed = { s.fixed with order := s.console.order.drop 1 } ∧
        t.replyIs tag 0xAB#8 none
          ([num 1 1, num 1 n, num 1 b.members.length] ++ b.members.map (fun p => num 2 p.number) ++
            [num 3 w, num 1 b.members.length] ++
            b.members.map fun p => num 1 (positionOf p.number (t.queueOf b.direction))) ∧
        t.traffic.batches = s.traffic.batches.filter (fun x => x.number != n) ∧
        t.queueOf b.direction =
          b.members.foldl
            (fun q p => placePassage { p with state := .queued, location := .queue, batch := none } q)
            (s.queueOf b.direction) ∧
        t.queueOf (otherDirection b.direction) = s.queueOf (otherDirection b.direction) ∧
        w = (s.batchWater { b with meter := b.meter.close s.meterLevel }).charge ∧
        t.toll.account.unallocated = min 99999999999999 (s.toll.account.unallocated + w) ∧
        t.toll.account.waterCharges = min 99999999999999 (s.toll.account.waterCharges + w) ∧
        t.toll.account.dues = s.toll.account.dues ∧
        t.toll.account.waterAllocated = s.toll.account.waterAllocated ∧
        t.toll.account.fees = s.toll.account.fees ∧ t.toll.account.issued = s.toll.account.issued ∧
        t.receipts.queue = s.receipts.queue)

/-! ### Running a lockage -/

/-- R101, R132, R142: an accepted CONFIRM MOVED sets the moved mark, moves the members, sets the flags of its
step, stops the move wait and asks STOP of the entry face; it is refused unless the step is ready. -/
def Obligations.ConfirmMovesTheMembers : Prop :=
  ∀ (tag : Octet) (n x : Nat) (g : Station) (s : State), stationOf x = some g →
    s.takesRequest (.confirmMoved tag n x) = true →
      (s.batch? n = none →
        exec (.confirmMoved tag n x) s = .next (s.replied tag 0xB1#8 (some .noSuchBatch) [])) ∧
      (∀ b, s.batch? n = some b → s.readyToConfirm b g = false →
        exec (.confirmMoved tag n x) s = .next (s.replied tag 0xB1#8 (some .notReady) [])) ∧
      (∀ b, s.batch? n = some b → s.readyToConfirm b g = true → s.calm → s.admitsNothing →
        ∃ t, exec (.confirmMoved tag n x) s = .next t ∧
          t.fixed = { s.fixed with order := s.console.order.drop 1 } ∧
          t.replyIs tag 0xB1#8 none
            [num 1 n, num 1 x, opt 1 ((destination b.direction g).map chamberCode)] ∧
          t.batch? n = some { b with
            moved := true
            members := b.members.map fun p =>
              { p with state := .inFlight
                       location := match destination b.direction g with
                         | some c => .chamber c
                         | none => p.location }
            entered := b.entered || decide (b.position = .two)
            cleared := b.cleared || decide (b.position = .four)
            step := b.step.map fun r => { r with phase := .stopping, moveWait := none } } ∧
          (t.face (entryFace b.direction g)).request = none ∧
          (t.face (entryFace b.direction g)).stopWait = some (n, b.current))

/-- R145 to R148: SUSPEND BATCH adds BY REQUEST, drops the preparation list and releases the claims; RESUME
BATCH empties the reasons, closes the metering segment and starts the step at the run position again, which
waits in CLAIMING while another batch claims one of its chambers. The step record a suspended batch keeps, and
the step the reply names, are log 14's and log 12's. -/
def Obligations.SuspendAndResume : Prop :=
  (∀ (tag : Octet) (n : Nat) (b : Batch) (s : State), s.batch? n = some b → b.suspended = false → s.calm →
    s.takesRequest (.suspendBatch tag n) = true →
      ∃ t rs, exec (.suspendBatch tag n) s = .next t ∧
        t.fixed = { s.fixed with order := s.console.order.drop 1 } ∧
        t.replyIs tag 0xB2#8 none [num 1 (stepCode b.position), setField 2 reasonCode rs] ∧
        Reason.byRequest ∈ rs ∧
        t.batch? n = some { b with
          reasons := rs, preparation := []
          step := b.step.map fun r =>
            { r with claims := [], roomMade := [], waterLimit := none, moveWait := none } }) ∧
  (∀ (tag : Octet) (n : Nat) (b : Batch) (s : State), s.batch? n = some b → b.suspended = true →
    s.takesRequest (.suspendBatch tag n) = true →
      exec (.suspendBatch tag n) s = .next (s.replied tag 0xB2#8 (some .alreadySuspended) [])) ∧
  (∀ (tag : Octet) (n : Nat) (b : Batch) (s : State), s.batch? n = some b →
    s.takesRequest (.resumeBatch tag n) = true →
      (b.suspended = false →
        exec (.resumeBatch tag n) s = .next (s.replied tag 0xB3#8 (some .notSuspended) [])) ∧
      (b.suspended = true → s.halt.state ≠ .running →
        exec (.resumeBatch tag n) s = .next (s.replied tag 0xB3#8 (some .halted) [])) ∧
      (b.suspended = true → s.halt.state = .running →
        s.stillActive b.direction (.main b.direction b.position) = true →
        exec (.resumeBatch tag n) s = .next (s.replied tag 0xB3#8 (some .stillActive) [])) ∧
      (b.suspended = true → s.halt.state = .running →
        s.stillActive b.direction (.main b.direction b.position) = false →
        ∃ t, exec (.resumeBatch tag n) s = .next t ∧
          t.fixed = { s.fixed with order := s.console.order.drop 1 } ∧
          t.replyIs tag 0xB3#8 none [num 1 n, num 1 (stepCode b.position)] ∧
          (s.calm → (∃ x ∈ s.traffic.batches, x.number ≠ n ∧
              ∃ c ∈ gateChambers (mainGate b.direction b.position), c ∈ x.claims) →
            t.batch? n = some { b with
              reasons := [], preparation := [], meter := b.meter.close s.meterLevel
              step := some { phase := .claiming, claims := [], rounds := 0, roomMade := []
                             waterLimit := none, moveWait := none, overdueSent := false
                             readySent := false } })))

/-- R138, R141: a water step limit that expires raises LEVEL TIMEOUT on the chamber of its path and suspends
the batch; a move wait that expires raises OVERDUE once and stops; a limit that does not run has nothing to
expire. The time at an expiry is log 2's; that the step record of the suspended batch stands with its phase, its
claims emptied, is log 14's. R130, R133, R134, R137, R140, R143, R144: how the steps of a running batch go on: a
gate step takes its claims and waits in READYING, a water step without a prediction in LEVEL WAIT; a gate that is
settled equal with its neighbours CLOSED is requested OPEN; a water step whose end condition holds is requested
SHUT; a movement that is COMPLETE takes the step to its open phase or to its end, and the exit step ends the
batch. -/
def Obligations.StepLimitsExpire : Prop :=
  (∀ (n e : Nat) (b : Batch) (r : StepRec) (s : State), s.powered = true → s.calm →
    s.active? n = some (b, r) → r.waterLimit = some e →
    s.faultOf .levelTimeout (.chamber (timeoutChamber (stepItem b.current))) = none →
    s.mach.faults.length < 16 →
      ∃ t f x, exec (.waterStepLimitExpiry n) s = .next t ∧
        t.fixed = { s.fixed with now := max s.now e } ∧ t.mach.faults = s.mach.faults ++ [f] ∧
        f.kind = .levelTimeout ∧ f.source = .chamber (timeoutChamber (stepItem b.current)) ∧
        f.latched = true ∧ f.capture.batch = some (n, b.current) ∧
        t.batch? n = some x ∧ Reason.levelTimeout ∈ x.reasons ∧
        x.step = some { r with claims := [], roomMade := [], waterLimit := none, moveWait := none }) ∧
  (∀ (n e : Nat) (b : Batch) (r : StepRec) (s : State), s.powered = true →
    s.active? n = some (b, r) → r.moveWait = some e → r.overdueSent = false → s.console.mask.traffic = true →
      exec (.moveWaitExpiry n) s = .next { s with
        now := max s.now e
        traffic := { s.traffic with batches := s.traffic.batches.map fun x =>
          if x.number = n then
            { x with step := x.step.map fun y => { y with moveWait := none, overdueSent := true } }
          else x }
        console := { s.console with
          notices :=
            placeNotice ⟨.overdue, n, [num 1 n, num 1 (stepCodeOf b.current)]⟩ s.console.notices } }) ∧
  (∀ (n : Nat) (s : State), (∀ b r, s.active? n = some (b, r) → r.waterLimit = none) →
    exec (.waterStepLimitExpiry n) s = .next s) ∧
  (∀ (n : Nat) (s : State), (∀ b r, s.active? n = some (b, r) → r.moveWait = none) →
    exec (.moveWaitExpiry n) s = .next s) ∧
  (∀ (n : Nat) (b : Batch) (r : StepRec) (s : State), s.active? n = some (b, r) →
    (∀ g, stepWork b.current = .passage g → b.moved = false → s.settledEqual g = false →
      (s.takeClaims b).batch? n =
        some { b with step := some { r with phase := .readying, claims := stepClaims b.current } }) ∧
    (∀ path e, stepWork b.current = .water path e →
      (∀ c ∈ stepClaims b.current, (s.chamber c).condition ≠ .disputed) → s.alreadyThere e = false →
      (∀ c x, conditionOf b.current = some (c, x) → s.inBand c x = true) →
      s.predict path = .noPrediction →
        (s.takeClaims b).batch? n =
          some { b with step := some { r with phase := .levelWait, claims := stepClaims b.current } }) ∧
    (∀ g, stepWork b.current = .passage g → r.phase = .readying → s.settledEqual g = true →
      (∀ j ∈ neighbourGates g, (s.item (.gate j)).position = some .shut) →
      s.notAvailable (.gate g) .opened = none → (s.item (.gate g)).position ≠ some .opened →
        (s.batchRoundEnd n).batch? n = some { b with step := some { r with phase := .opening } } ∧
        ∃ m, ((s.batchRoundEnd n).item (.gate g)).movement = some m ∧ m.target = .opened) ∧
    (∀ path e, stepWork b.current = .water path e → r.phase = .flowing → s.endReached e = true →
      s.notAvailable path .shut = none → (s.item path).position ≠ some .shut →
        (s.batchRoundEnd n).batch? n =
          some { b with step := some { r with phase := .closing, waterLimit := none } } ∧
        (∀ c x, e = .target c x → ((s.batchRoundEnd n).chamber c).target = none) ∧
        ∃ m, ((s.batchRoundEnd n).item path).movement = some m ∧ m.target = .shut) ∧
    (∀ g, stepWork b.current = .passage g → r.phase = .opening →
      (s.takeComplete n (.gate g) .opened).batch? n = some { b with step := some { r with
        phase := .opened, moveWait := some (s.now + s.traffic.moveWait), overdueSent := false
        readySent := false } } ∧
      ((s.takeComplete n (.gate g) .opened).face (entryFace b.direction g)).request = some (n, b.current)) ∧
    (∀ path e, stepWork b.current = .water path e → r.phase = .closing → b.preparation = [] →
      (s.takeComplete n path .shut).batch? n = some { b with
        position := nextStep b.position, moved := false
        meter := if path = .sluice .k0 then b.meter.close s.meterLevel else b.meter
        step := some StepRec.start }) ∧
    (∀ g, stepWork b.current = .passage g → r.phase = .closing → b.preparation = [] →
      (b.position ≠ .eight → (s.takeComplete n (.gate g) .shut).batch? n = some { b with
        position := nextStep b.position, moved := false, step := some StepRec.start }) ∧
      (b.position = .eight → (s.takeComplete n (.gate g) .shut).batch? n = none)))

/-! ### Tolls, receipts and the day -/

/-- R154: SWITCH TARIFF discards the previous edition and moves the current and the pending one up, unless
there is no pending edition, it has the current one's number, or a batch refers to the previous one. -/
def Obligations.SwitchMovesTheEditions : Prop :=
  ∀ (tag : Octet) (s : State), s.takesRequest (.switchTariff tag) = true →
    (s.toll.pending = none →
      exec (.switchTariff tag) s = .next (s.replied tag 0xB9#8 (some .noPendingTariff) [])) ∧
    (∀ p e, s.toll.pending = some p → s.toll.current = some e → e.number = p.number →
      exec (.switchTariff tag) s = .next (s.replied tag 0xB9#8 (some .sameEdition) [])) ∧
    (∀ p q, s.toll.pending = some p → (∀ e, s.toll.current = some e → e.number ≠ p.number) →
      s.toll.previous = some q → (∃ b ∈ s.traffic.batches, b.edition = q.number) →
      exec (.switchTariff tag) s = .next (s.replied tag 0xB9#8 (some .previousInUse) [])) ∧
    (∀ p, s.toll.pending = some p → (∀ e, s.toll.current = some e → e.number ≠ p.number) →
      (∀ q, s.toll.previous = some q → ∀ b ∈ s.traffic.batches, b.edition ≠ q.number) →
        ∃ t, exec (.switchTariff tag) s = .next t ∧
          t.fixed = { s.fixed with
            order := s.console.order.drop 1, current := some p, previous := s.toll.current
            loaded := none } ∧
          t.replyIs tag 0xB9#8 none [num 2 p.number, opt 3 (s.toll.current.map (·.number))] ∧
          (s.toll.current.isSome = true →
            t = s.answering { s with toll := { s.toll with
              current := some p, previous := s.toll.current, pending := none } } tag 0xB9#8 none
              [num 2 p.number, opt 3 (s.toll.current.map (·.number))]))

/-- R168, R170: RELEASE RECEIPTS removes the receipt named and every older one, and the newer keep their
order: from a calm state nothing joins them in the step, and the near-full indication and the hold follow. The
receipt margin is clamped and the near-full indication follows it, with its notice when it changes; at the expiry
of the repeat timer the notice is raised again and the timer runs again for 10 s. The time at an expiry is log
2's, the layout of the notice of an empty queue log 12's. -/
def Obligations.ReleaseRemovesTheOldestReceipts : Prop :=
  (∀ (tag : Octet) (day n : Nat) (older rest : List Receipt) (r : Receipt) (s : State),
    1 ≤ day → day ≤ 9999 → 1 ≤ n → n ≤ 999999 → s.takesRequest (.releaseReceipts tag day n) = true →
    s.receipts.queue = older ++ r :: rest → r.day = day → r.number = n →
    (∀ x ∈ older, ¬(x.day = day ∧ x.number = n)) →
      ∃ t r', exec (.releaseReceipts tag day n) s = .next t ∧
        r' = receiptsEvaluated { s.receipts with queue := rest } s.now ∧
        t.fixed = { s.fixed with order := s.console.order.drop 1 } ∧ rest <+: t.receipts.queue ∧
        (s.calm → t.receipts = { r' with hold := t.receipts.hold }) ∧
        t.receipts.hold = decide (t.freeSlots = 0) ∧
        (s.calm → s.admitsNothing → ({ s.popRequest with receipts := r' } : State).settlesTo t) ∧
        t.replyIs tag 0xC2#8 none
          [num 1 (older.length + 1), num 1 rest.length,
            num 1 (min (64 - rest.length - s.reserved) s.numbersLeft)]) ∧
  (∀ (tag : Octet) (day n : Nat) (s : State), 1 ≤ day → day ≤ 9999 → 1 ≤ n → n ≤ 999999 →
    s.takesRequest (.releaseReceipts tag day n) = true →
    (∀ x ∈ s.receipts.queue, ¬(x.day = day ∧ x.number = n)) →
      exec (.releaseReceipts tag day n) s = .next (s.replied tag 0xC2#8 (some .noSuchReceipt) [])) ∧
  (∀ (tag : Octet) (v m : Nat) (near : Bool) (s u : State), s.takesRequest (.setReceiptMargin tag v) = true →
    m = min 63 v → near = decide (64 - m ≤ s.receipts.queue.length) →
    u = { s with receipts := { s.receipts with
            margin := m, nearFull := near
            repeatTimer := if near = s.receipts.nearFull then s.receipts.repeatTimer
              else if near then some (s.now + 100) else none } } →
      exec (.setReceiptMargin tag v) s =
        .next (s.answering
          { u with console := { s.console with
              notices := if near = s.receipts.nearFull then s.console.notices else u.receiptNotices } }
          tag 0xC0#8 none [num 1 m])) ∧
  (∀ (e : Nat) (s : State), s.powered = true → s.receipts.repeatTimer = some e →
    exec .receiptsRepeatExpiry s = .next { s with
      now := max s.now e
      receipts := { s.receipts with repeatTimer := some (max s.now e + 100) }
      console := { s.console with notices := s.receiptNotices } }) ∧
  (∀ s : State, s.receipts.repeatTimer = none → exec .receiptsRepeatExpiry s = .next s)

/-- R172: CLOSE DAY replies with the account as it stood and the time, opens the next day with every total 0,
and keeps the receipts; it is refused while a receipt held carries the next day's number. -/
def Obligations.CloseDayOpensTheNext : Prop :=
  ∀ (tag : Octet) (next : Nat) (s : State), s.takesRequest (.closeDay tag) = true →
    next = (if 9999 ≤ s.toll.account.day then 1 else s.toll.account.day + 1) →
      ((∃ r ∈ s.receipts.queue, r.day = next) →
        exec (.closeDay tag) s = .next (s.replied tag 0xC3#8 (some .inUse) [])) ∧
      ((∀ r ∈ s.receipts.queue, r.day ≠ next) →
        ∃ t, exec (.closeDay tag) s = .next t ∧
          t.fixed = { s.fixed with
            order := s.console.order.drop 1, day := next, opened := s.toll.clock } ∧
          t.replyIs tag 0xC3#8 none (accountFields s.toll.account ++ [num 3 s.toll.clock]) ∧
          (s.calm → s.admitsNothing →
            ∃ u : State, u = s.popRequest.setAccount
                { day := next, opened := s.toll.clock, issued := 0, dues := 0, waterAllocated := 0
                  fees := 0, waterCharges := 0, unallocated := 0, volume := 0, batchesUp := 0
                  batchesDown := 0, vesselsUp := 0, vesselsDown := 0, capped := false } ∧
              u.settlesTo t))

/-! ### Rules of the computations -/

/-- R161, the seventh law: the shares of a lockage water charge add up to it; each is its floor or one cent
more, and a cent goes to a smaller remainder, or to a later sharer of an equal one, only when it goes to the
greater or earlier too. R160, R163: the lockage volume is C1's area times the rise and the charge the volume times
the edition's water rate, each rounded half up, the charge held at 99,999.99 and then CAPPED. R144, R157 to R159, R162, R165, R167, R171: at its completion a batch leaves the table,
each member has a receipt with the next number of the day, its dues within the edition's bounds (none for a
SERVICE vessel) and its fee, and the day account takes the totals. -/
def Obligations.WaterSharesAddUp : Prop :=
  (∀ (cw : Nat) (ls : List Nat), 0 < natSum ls →
    natSum (waterShares cw ls) = cw ∧ (waterShares cw ls).length = ls.length ∧
    (∀ i, i < ls.length →
      cw * ls.getD i 0 / natSum ls ≤ (waterShares cw ls).getD i 0 ∧
        (waterShares cw ls).getD i 0 ≤ cw * ls.getD i 0 / natSum ls + 1) ∧
    (∀ i j, i < ls.length → j < ls.length →
      (cw * ls.getD j 0 % natSum ls < cw * ls.getD i 0 % natSum ls ∨
        (cw * ls.getD j 0 % natSum ls = cw * ls.getD i 0 % natSum ls ∧ i < j)) →
      (waterShares cw ls).getD j 0 = cw * ls.getD j 0 / natSum ls + 1 →
        (waterShares cw ls).getD i 0 = cw * ls.getD i 0 / natSum ls + 1)) ∧
  (∀ (b : Batch) (e : Edition) (g : ChamberConfig) (v c : Nat) (s : State), s.editionOf b.edition = some e →
    (s.chamber .c1).config = some g → v = (2 * (g.area * b.meter.rise) + 1000) / 2000 →
    c = (2 * (v * e.waterRate) + 100) / 200 →
      s.batchWater b = { volume := v, charge := min 9999999 c, capped := decide (9999999 < c) }) ∧
  ∀ (b : Batch) (e : Edition) (s : State), s.editionOf b.edition = some e → e.minDues ≤ e.maxDues →
    (∀ p ∈ b.members, 1 ≤ p.length) →
    ∃ t w rs, t = s.completeBatch b ∧ w = s.batchWater b ∧
      t.traffic.batches = s.traffic.batches.filter (fun x => x.number != b.number) ∧
      t.receipts.queue = s.receipts.queue ++ rs ∧ rs.length = b.members.length ∧
      (∀ j p, b.members[j]? = some p → ∃ x, rs[j]? = some x ∧ x.day = s.toll.account.day ∧
        x.number = s.toll.account.issued + 1 + j ∧ x.passage = p.number ∧ x.reference = p.reference ∧
        x.direction = b.direction ∧ x.batch = b.number ∧ x.edition = b.edition ∧ x.night = b.night ∧
        x.base = baseCharge e p.length ∧ x.tonnage = tonnageCharge e p.deadweight p.cargo ∧
        (p.priority ≠ .service → e.minDues ≤ x.dues ∧ x.dues ≤ e.maxDues ∧ x.share.isSome = true ∧
          let dues1 := surcharged (x.base + x.tonnage) (surchargePercent e p.priority b.night)
          x.dues = max e.minDues (min e.maxDues dues1) ∧
          x.surcharge = if dues1 = x.base + x.tonnage then none else some (dues1 - (x.base + x.tonnage))) ∧
        (p.priority = .service → x.dues = 0 ∧ x.share = none ∧ x.surcharge = none ∧ x.clamp = none) ∧
        x.fee = x.dues + x.share.getD 0 ∧ x.volume = w.volume ∧ x.charge = w.charge ∧
        x.estimated = b.meter.estimated ∧ x.capped = w.capped) ∧
      ((∃ p ∈ b.members, p.priority ≠ .service) → natSum (rs.map fun x => x.share.getD 0) = w.charge) ∧
      t.toll.account.issued = s.toll.account.issued + b.members.length ∧
      t.toll.account.dues = s.toll.account.dues + natSum (rs.map (·.dues)) ∧
      t.toll.account.waterAllocated =
        s.toll.account.waterAllocated + natSum (rs.map fun x => x.share.getD 0) ∧
      t.toll.account.fees = s.toll.account.fees + natSum (rs.map (·.fee)) ∧
      t.toll.account.waterCharges = min 99999999999999 (s.toll.account.waterCharges + w.charge) ∧
      t.toll.account.unallocated = min 99999999999999 (s.toll.account.unallocated +
        if ∃ p ∈ b.members, p.priority ≠ .service then 0 else w.charge) ∧
      t.toll.account.volume = min 99999999999999 (s.toll.account.volume + w.volume) ∧
      (b.direction = .up →
        t.toll.account.batchesUp = min 999999 (s.toll.account.batchesUp + 1) ∧
        t.toll.account.vesselsUp = min 999999 (s.toll.account.vesselsUp + b.members.length)) ∧
      (b.direction = .down →
        t.toll.account.batchesDown = min 999999 (s.toll.account.batchesDown + 1) ∧
        t.toll.account.vesselsDown = min 999999 (s.toll.account.vesselsDown + b.members.length))

/-- R18, R20: the predicted level is the common level rounded half up, and a lower chamber at or below the
room-making target is predicted at or below the room limit. -/
def Obligations.RoomTargetGivesRoom : Prop :=
  ∀ au hu al hl limit : Nat, 0 < al →
    (2 * (au * hu + al * hl) < (2 * predictedLevel au hu al hl + 1) * (au + al) ∧
      2 * predictedLevel au hu al hl * (au + al) ≤ 2 * (au * hu + al * hl) + (au + al)) ∧
    (au * hu ≤ limit * (au + al) → hl ≤ roomTarget limit au hu al → predictedLevel au hu al hl ≤ limit)

/-- R77, R78: a STOP goes to the head, before every other entry, and takes its item's slot: a STOP that held
it moves there, another entry is removed, and the others keep their order; a move or an aspect takes the
place of the entry of its slot, takes the slot from a STOP by joining at the tail, and joins at the tail when
its slot is empty. That an entry the poll in progress carries is replaced like any other, and a STOP moved to
the head keeps its marks, is log 10's. -/
def Obligations.StopsGoBeforeEveryEntry : Prop :=
  ∀ q : List QueueEntry, oneEntryPerSlot q →
    (∀ i, ∃ e rest, placeStop i q = e :: rest ∧ e.command = .item i .stops ∧
      (e ∈ q ∨ ((∀ x ∈ q, x.command ≠ .item i .stops) ∧
        e = { command := .item i .stops, failed := false, inPoll := false })) ∧
      rest.Sublist q ∧ (∀ e ∈ rest, slotCode e.command ≠ slotCode (.item i .stops)) ∧
      ∀ e ∈ q, slotCode e.command ≠ slotCode (.item i .stops) → e ∈ rest) ∧
    (∀ c, (∀ e ∈ q, slotCode e.command ≠ slotCode c) →
      placeEntry c q = q ++ [{ command := c, failed := false, inPoll := false }]) ∧
    (∀ c a e b, q = a ++ e :: b → slotCode e.command = slotCode c → (∀ i, e.command ≠ .item i .stops) →
      placeEntry c q = a ++ { command := c, failed := false, inPoll := false } :: b) ∧
    (∀ c a i e b, q = a ++ e :: b → slotCode e.command = slotCode c → e.command = .item i .stops →
      placeEntry c q = a ++ b ++ [{ command := c, failed := false, inPoll := false }])

/-- R7 to R11: what a round end makes of a chamber with trust BOTH and two valid readings, with its surge blank
timer elapsed or running, of one with one reading or none, DISPUTED or not, and of one with the trust of one
side. That no dispute is entered or left under blanking, though the counter stands at a settle count just
lowered, is log 17's. -/
def Obligations.DisputesAreCounted : Prop :=
  (∀ (set : LevelSettings) (r : ChamberRec) (u l : Nat), r.trust = .both →
    (r.condition ≠ .disputed → max u l - min u l ≤ set.agreementTolerance → r.surge = none →
      (deriveChamber set r (some u) (some l)).record =
        { r with agreed := some ((u + l + 1) / 2), lastKnown := some ((u + l + 1) / 2)
                 condition := .normal, dispute := 0 }) ∧
    (r.condition ≠ .disputed → set.agreementTolerance < max u l - min u l → r.surge = none →
      r.dispute + 1 < set.settleCount →
      (deriveChamber set r (some u) (some l)).record =
        { r with agreed := some ((u + l + 1) / 2), lastKnown := some ((u + l + 1) / 2)
                 condition := .normal, dispute := r.dispute + 1 }) ∧
    (r.condition ≠ .disputed → set.agreementTolerance < max u l - min u l → r.surge = none →
      set.settleCount ≤ r.dispute + 1 →
      deriveChamber set r (some u) (some l) =
        { record := { r with agreed := some (max u l), lastKnown := some (max u l)
                             condition := .disputed, dispute := 0, targetCount := 0 }
          entered := true, left := false }) ∧
    (r.condition = .disputed → max u l - min u l ≤ set.agreementTolerance → r.surge = none →
      set.settleCount ≤ r.dispute + 1 →
      deriveChamber set r (some u) (some l) =
        { record := { r with agreed := some ((u + l + 1) / 2), lastKnown := some ((u + l + 1) / 2)
                             condition := .normal, dispute := 0 }
          entered := false, left := true }) ∧
    (r.condition = .disputed → max u l - min u l ≤ set.agreementTolerance → r.surge = none →
      r.dispute + 1 < set.settleCount →
      (deriveChamber set r (some u) (some l)).record =
        { r with agreed := some (max u l), lastKnown := some (max u l), dispute := r.dispute + 1 }) ∧
    (r.condition = .disputed → set.agreementTolerance < max u l - min u l → r.surge = none →
      (deriveChamber set r (some u) (some l)).record =
        { r with agreed := some (max u l), lastKnown := some (max u l), dispute := 0 }) ∧
    (r.surge.isSome = true →
      (deriveChamber set r (some u) (some l)).record =
        if r.condition = .disputed then { r with agreed := some (max u l), lastKnown := some (max u l) }
        else { r with agreed := some ((u + l + 1) / 2), lastKnown := some ((u + l + 1) / 2)
                      condition := .normal }) ∧
    (r.condition ≠ .disputed →
      (deriveChamber set r (some u) none).record =
        { r with agreed := some u, lastKnown := some u, condition := .degraded, dispute := 0 } ∧
      (deriveChamber set r none (some l)).record =
        { r with agreed := some l, lastKnown := some l, condition := .degraded, dispute := 0 } ∧
      (deriveChamber set r none none).record =
        { r with agreed := none, condition := .unknown, dispute := 0 }) ∧
    (r.condition = .disputed →
      deriveChamber set r (some u) none =
        { record := { r with agreed := some u, lastKnown := some u, dispute := 0 }
          entered := false, left := false } ∧
      deriveChamber set r none (some l) =
        { record := { r with agreed := some l, lastKnown := some l, dispute := 0 }
          entered := false, left := false } ∧
      deriveChamber set r none none =
        { record := { r with agreed := none, dispute := 0 }, entered := false, left := false })) ∧
  ∀ (set : LevelSettings) (r : ChamberRec) (u l trusted : Option Nat), r.condition ≠ .disputed →
    (r.trust = .upperOnly ∧ trusted = u ∨ r.trust = .lowerOnly ∧ trusted = l) →
      deriveChamber set r u l =
        { record := match trusted with
            | some v => { r with agreed := some v, lastKnown := some v, condition := .degraded, dispute := 0 }
            | none => { r with agreed := none, condition := .unknown, dispute := 0 }
          entered := false, left := false }

/-- R117, R118: the members packed stand in queue order, at most four and at most the free receipt slots, each
within the flight dimensions and together within its usable length; a vessel passed over while one behind it
is taken had not reached the skip limit. R114 to R116: with the table empty an AUTOMATIC evaluation takes the last
direction while its keep conditions hold and the other when they fail, or chooses by the heads of the queues when
there is none, and packs the other queue where the chosen one yields nothing; behind a leading batch it takes that
batch's direction or none. R99, R100, R108, R112 to R116, R119, R120, R128: an AUTOMATIC evaluation
that admits puts the members packed, with their stamps and their entry positions, in a new batch at the end of
the table, which starts its first step with no claims, and takes them from their queue; the new batch has the next
batch number (the counter after a number passed over is log 28's). -/
def Obligations.PackingKeepsWithinTheFlight : Prop :=
  ∀ (d : Direction) (s : State),
    (s.pack d).Sublist (s.queueOf d) ∧ (s.pack d).length ≤ 4 ∧ (s.pack d).length ≤ s.freeSlots ∧
    (∀ p ∈ s.pack d, s.unfit p.length p.beam p.draught = none) ∧
    (∀ dims, s.flightDims = some dims → s.pack d ≠ [] →
      batchLength s.traffic.spacing (s.pack d) ≤ dims.usable) ∧
    (∀ before p behind, s.queueOf d = before ++ p :: behind → (s.queueOf d).Nodup →
      (∃ q ∈ behind, q ∈ s.pack d) → p ∈ s.pack d ∨ p.skips < s.traffic.skipLimit) ∧
    (let other := otherDirection d
     let taken := fun a b => if s.pack a ≠ [] then some (a, s.pack a)
       else if s.pack b ≠ [] then some (b, s.pack b) else none
     (s.freeSlots = 0 → s.automaticBatch = none) ∧
     (s.traffic.batches = [] → s.freeSlots ≠ 0 →
      (s.traffic.lastDirection = none → s.firstChoice d → s.automaticBatch = taken d other) ∧
      (s.traffic.lastDirection = some d → s.keepsDirection d → s.automaticBatch = taken d other) ∧
      (s.traffic.lastDirection = some d → ¬s.keepsDirection d → s.queueOf other ≠ [] →
        s.automaticBatch = taken other d) ∧
      (s.traffic.lastDirection = some d → ¬s.keepsDirection d → s.queueOf other = [] →
        s.automaticBatch = none) ∧
      (s.queueOf d = [] → s.queueOf other = [] → s.automaticBatch = none)) ∧
     (∀ b, s.traffic.batches = [b] → s.freeSlots ≠ 0 → b.direction = d →
      (s.traffic.followOn = true → b.cleared = true → s.keepsDirection d → s.pack d ≠ [] →
        s.automaticBatch = some (d, s.pack d)) ∧
      (s.traffic.followOn = false ∨ b.cleared = false ∨ ¬s.keepsDirection d ∨ s.pack d = [] →
        s.automaticBatch = none)) ∧
     (2 ≤ s.traffic.batches.length → s.automaticBatch = none)) ∧
    (∀ ms e, s.traffic.mode = .automatic → s.admissionOpen = true → s.automaticBatch = some (d, ms) →
      s.toll.current = some e →
        ms ≠ [] ∧ ms = s.pack d ∧ (s.traffic.batches = [] ∨ ∃ b, s.leader = some b ∧ b.direction = d) ∧
        ∃ t n, t = s.evaluateAdmission ∧ s.nextBatchNumber n ∧
          t.traffic.batches = s.traffic.batches ++
            [{ number := n, direction := d
               members := ms.zipIdx.map fun p =>
                { p.1 with state := .admitted, location := .approach, batch := some (n, p.2 + 1) }
               admitDay := s.toll.account.day, admitTime := s.toll.clock, night := isNight e s.toll.clock
               edition := e.number, reasons := [], position := .one, moved := false, preparation := []
               meter := { rise := 0, segment := none, estimated := false, startUpMark := false }
               entered := false, cleared := false
               step := some { phase := .claiming, claims := [], rounds := 0, roomMade := []
                              waterLimit := none, moveWait := none, overdueSent := false
                              readySent := false } }] ∧
          t.queueOf d = (skipAhead s.traffic.skipLimit (ms.map (·.number)) (s.queueOf d)).filter
            (fun p => !(ms.map (·.number)).contains p.number) ∧
          t.queueOf (otherDirection d) = s.queueOf (otherDirection d) ∧
          t.traffic.lastDirection = some d ∧
          t.traffic.consecutive =
            (if s.traffic.lastDirection = some d then min 255 (s.traffic.consecutive + 1) else 1) ∧
          t.traffic.nextBatch = if 255 ≤ n then 1 else n + 1)

/-- R14, R30 to R32: an OPEN command is placed only while its interlock holds, by a request, by the test of a
waiting movement and by the retest of all of them, the three ways a step places one: for a gate, settled equal
with every neighbour gate reported CLOSED and not commanded open; for a water path, every other path of its
chambers reported SHUT and not commanded open, the changeover timers elapsed and the HIGH flag of the chamber it
feeds clear. The HIGH flag among R30's conditions is log 25's. -/
def Obligations.OpenWaitsForItsInterlock : Prop :=
  ∀ (i : Item) (s : State), ¬s.holdsOrder i .opens →
    (∀ o, (s.requestMove i .opened o).2.holdsOrder i .opens → s.interlockHolds i) ∧
    (∀ j, (s.tryPlace j).holdsOrder i .opens → s.interlockHolds i) ∧
    (s.retest.holdsOrder i .opens → s.retest.interlockHolds i)

end
end

