-- ==== Sys2Proof/Laws/State.lean ====
section
/-! SUPPORT. What each update of the state leaves as it is and what it writes: one lemma per field per
update, so that no proof unfolds a record update. -/

namespace Sys2Proof.Machine

/-! ### Fixed numbers of like things -/

theorem Trio.get_set {α : Type} (t : Trio α) (c d : Chamber) (a : α) :
    (t.set c a).get d = if d = c then a else t.get d := by
  cases c <;> cases d <;> rfl

@[simp] theorem Trio.get_set_self {α : Type} (t : Trio α) (c : Chamber) (a : α) :
    (t.set c a).get c = a := by
  cases c <;> rfl

@[simp] theorem Trio.get_const {α : Type} (c : Chamber) (a : α) : (Trio.const a).get c = a := by
  cases c <;> rfl

theorem Quad.get_set {α : Type} (q : Quad α) (k j : Station) (a : α) :
    (q.set k a).get j = if j = k then a else q.get j := by
  cases k <;> cases j <;> rfl

@[simp] theorem Quad.get_set_self {α : Type} (q : Quad α) (k : Station) (a : α) :
    (q.set k a).get k = a := by
  cases k <;> rfl

@[simp] theorem Quad.get_const {α : Type} (k : Station) (a : α) : (Quad.const a).get k = a := by
  cases k <;> rfl

@[simp] theorem Quad.get_map {α β : Type} (q : Quad α) (f : α → β) (k : Station) :
    (q.map f).get k = f (q.get k) := by
  cases k <;> rfl

theorem Quad.set_get {α : Type} (q : Quad α) (k : Station) : q.set k (q.get k) = q := by
  cases k <;> rfl

theorem Ten.get_set {α : Type} (t : Ten α) (i j : Item) (a : α) :
    (t.set i a).get j = if j = i then a else t.get j := by
  rcases i with k | k | w <;> rcases j with l | l | v <;>
    first
      | (cases k <;> cases l <;> rfl)
      | (cases w <;> cases v <;> rfl)
      | (cases w <;> rfl)
      | (cases v <;> rfl)

@[simp] theorem Ten.get_set_self {α : Type} (t : Ten α) (i : Item) (a : α) : (t.set i a).get i = a := by
  rw [Ten.get_set, if_pos rfl]

@[simp] theorem Ten.get_map {α β : Type} (t : Ten α) (f : α → β) (i : Item) :
    (t.map f).get i = f (t.get i) := by
  rcases i with k | k | w
  · exact Quad.get_map _ _ _
  · exact Quad.get_map _ _ _
  · cases w <;> rfl

theorem Eight.get_set {α : Type} (e : Eight α) (f g : Face) (a : α) :
    (e.set f a).get g = if g = f then a else e.get g := by
  obtain ⟨k, x⟩ := f
  obtain ⟨j, y⟩ := g
  cases x <;> cases y <;> simp [Eight.set, Eight.get, Quad.get_set]

@[simp] theorem Eight.get_set_self {α : Type} (e : Eight α) (f : Face) (a : α) :
    (e.set f a).get f = a := by
  rw [Eight.get_set, if_pos rfl]

/-! ### Records by name -/

theorem State.chamber_setChamber (s : State) (c d : Chamber) (r : ChamberRec) :
    (s.setChamber c r).chamber d = if d = c then r else s.chamber d := Trio.get_set _ _ _ _

@[simp] theorem State.chamber_setChamber_self (s : State) (c : Chamber) (r : ChamberRec) :
    (s.setChamber c r).chamber c = r := Trio.get_set_self _ _ _

theorem State.item_setItem (s : State) (i j : Item) (r : ItemRec) :
    (s.setItem i r).item j = if j = i then r else s.item j := Ten.get_set _ _ _ _

@[simp] theorem State.item_setItem_self (s : State) (i : Item) (r : ItemRec) :
    (s.setItem i r).item i = r := Ten.get_set_self _ _ _

theorem State.item_setMovement (s : State) (i j : Item) (m : Option Movement) :
    (s.setMovement i m).item j = if j = i then { s.item i with movement := m } else s.item j :=
  Ten.get_set _ _ _ _

@[simp] theorem State.item_setMovement_self (s : State) (i : Item) (m : Option Movement) :
    (s.setMovement i m).item i = { s.item i with movement := m } := Ten.get_set_self _ _ _

theorem State.face_setFace (s : State) (f g : Face) (r : FaceRec) :
    (s.setFace f r).face g = if g = f then r else s.face g := Eight.get_set _ _ _ _

@[simp] theorem State.face_setFace_self (s : State) (f : Face) (r : FaceRec) :
    (s.setFace f r).face f = r := Eight.get_set_self _ _ _

theorem State.station_setStation (s : State) (k j : Station) (r : StationRec) :
    (s.setStation k r).station j = if j = k then r else s.station j := Quad.get_set _ _ _ _

@[simp] theorem State.station_setStation_self (s : State) (k : Station) (r : StationRec) :
    (s.setStation k r).station k = r := Quad.get_set_self _ _ _

theorem State.station_setQueue (s : State) (k j : Station) (q : List QueueEntry) :
    (s.setQueue k q).station j = if j = k then { s.station k with queue := q } else s.station j :=
  Quad.get_set _ _ _ _

@[simp] theorem State.station_setQueue_self (s : State) (k : Station) (q : List QueueEntry) :
    (s.setQueue k q).station k = { s.station k with queue := q } := Quad.get_set_self _ _ _

@[simp] theorem State.held_setHeld_self (s : State) (k : Station) (i : Input) (v : Option Bool) :
    (s.setHeld k i v).held k i = v := by
  cases i <;> simp [State.held, State.setHeld, inputState, setInputState]

@[simp] theorem State.unrecorded_setUnrecorded_self (s : State) (k : Station) (i : Input) (v : Bool) :
    (s.setUnrecorded k i v).unrecorded k i = v := by
  cases i <;> simp [State.unrecorded, State.setUnrecorded, inputFlag, setInputFlag]

@[simp] theorem State.faults_setFaults (s : State) (fs : List FaultRec) :
    (s.setFaults fs).mach.faults = fs := rfl

@[simp] theorem State.batches_setBatches (s : State) (bs : List Batch) :
    (s.setBatches bs).traffic.batches = bs := rfl

@[simp] theorem State.batches_modBatch (s : State) (n : Nat) (f : Batch → Batch) :
    (s.modBatch n f).traffic.batches = s.traffic.batches.map fun b => if b.number = n then f b else b :=
  rfl

@[simp] theorem State.now_reach (s : State) (t : Nat) : (s.reach t).now = max s.now t := rfl

@[simp] theorem State.toRun_emit (s : State) (e : RunEvent) :
    (s.emit e).hand.toRun = s.hand.toRun ++ [e] := rfl

@[simp] theorem State.toHalt_handCause (s : State) (c : HaltCause) :
    (s.handCause c).hand.toHalt = s.hand.toHalt ++ [c] := rfl

/-! ### Fields an update leaves as they are -/

@[simp] theorem State.setChamber_powered (s : State) (c : Chamber) (r : ChamberRec) : (s.setChamber c r).powered = s.powered := rfl
@[simp] theorem State.setChamber_now (s : State) (c : Chamber) (r : ChamberRec) : (s.setChamber c r).now = s.now := rfl
@[simp] theorem State.setChamber_pending (s : State) (c : Chamber) (r : ChamberRec) : (s.setChamber c r).pending = s.pending := rfl
@[simp] theorem State.setChamber_console (s : State) (c : Chamber) (r : ChamberRec) : (s.setChamber c r).console = s.console := rfl
@[simp] theorem State.setChamber_line (s : State) (c : Chamber) (r : ChamberRec) : (s.setChamber c r).line = s.line := rfl
@[simp] theorem State.setChamber_mach (s : State) (c : Chamber) (r : ChamberRec) : (s.setChamber c r).mach = s.mach := rfl
@[simp] theorem State.setChamber_signal (s : State) (c : Chamber) (r : ChamberRec) : (s.setChamber c r).signal = s.signal := rfl
@[simp] theorem State.setChamber_halt (s : State) (c : Chamber) (r : ChamberRec) : (s.setChamber c r).halt = s.halt := rfl
@[simp] theorem State.setChamber_traffic (s : State) (c : Chamber) (r : ChamberRec) : (s.setChamber c r).traffic = s.traffic := rfl
@[simp] theorem State.setChamber_toll (s : State) (c : Chamber) (r : ChamberRec) : (s.setChamber c r).toll = s.toll := rfl
@[simp] theorem State.setChamber_receipts (s : State) (c : Chamber) (r : ChamberRec) : (s.setChamber c r).receipts = s.receipts := rfl
@[simp] theorem State.setChamber_store (s : State) (c : Chamber) (r : ChamberRec) : (s.setChamber c r).store = s.store := rfl
@[simp] theorem State.setChamber_hand (s : State) (c : Chamber) (r : ChamberRec) : (s.setChamber c r).hand = s.hand := rfl

@[simp] theorem State.setItem_powered (s : State) (i : Item) (r : ItemRec) : (s.setItem i r).powered = s.powered := rfl
@[simp] theorem State.setItem_now (s : State) (i : Item) (r : ItemRec) : (s.setItem i r).now = s.now := rfl
@[simp] theorem State.setItem_pending (s : State) (i : Item) (r : ItemRec) : (s.setItem i r).pending = s.pending := rfl
@[simp] theorem State.setItem_console (s : State) (i : Item) (r : ItemRec) : (s.setItem i r).console = s.console := rfl
@[simp] theorem State.setItem_line (s : State) (i : Item) (r : ItemRec) : (s.setItem i r).line = s.line := rfl
@[simp] theorem State.setItem_level (s : State) (i : Item) (r : ItemRec) : (s.setItem i r).level = s.level := rfl
@[simp] theorem State.setItem_signal (s : State) (i : Item) (r : ItemRec) : (s.setItem i r).signal = s.signal := rfl
@[simp] theorem State.setItem_halt (s : State) (i : Item) (r : ItemRec) : (s.setItem i r).halt = s.halt := rfl
@[simp] theorem State.setItem_traffic (s : State) (i : Item) (r : ItemRec) : (s.setItem i r).traffic = s.traffic := rfl
@[simp] theorem State.setItem_toll (s : State) (i : Item) (r : ItemRec) : (s.setItem i r).toll = s.toll := rfl
@[simp] theorem State.setItem_receipts (s : State) (i : Item) (r : ItemRec) : (s.setItem i r).receipts = s.receipts := rfl
@[simp] theorem State.setItem_store (s : State) (i : Item) (r : ItemRec) : (s.setItem i r).store = s.store := rfl
@[simp] theorem State.setItem_hand (s : State) (i : Item) (r : ItemRec) : (s.setItem i r).hand = s.hand := rfl

@[simp] theorem State.setMovement_powered (s : State) (i : Item) (m : Option Movement) : (s.setMovement i m).powered = s.powered := rfl
@[simp] theorem State.setMovement_now (s : State) (i : Item) (m : Option Movement) : (s.setMovement i m).now = s.now := rfl
@[simp] theorem State.setMovement_pending (s : State) (i : Item) (m : Option Movement) : (s.setMovement i m).pending = s.pending := rfl
@[simp] theorem State.setMovement_console (s : State) (i : Item) (m : Option Movement) : (s.setMovement i m).console = s.console := rfl
@[simp] theorem State.setMovement_line (s : State) (i : Item) (m : Option Movement) : (s.setMovement i m).line = s.line := rfl
@[simp] theorem State.setMovement_level (s : State) (i : Item) (m : Option Movement) : (s.setMovement i m).level = s.level := rfl
@[simp] theorem State.setMovement_signal (s : State) (i : Item) (m : Option Movement) : (s.setMovement i m).signal = s.signal := rfl
@[simp] theorem State.setMovement_halt (s : State) (i : Item) (m : Option Movement) : (s.setMovement i m).halt = s.halt := rfl
@[simp] theorem State.setMovement_traffic (s : State) (i : Item) (m : Option Movement) : (s.setMovement i m).traffic = s.traffic := rfl
@[simp] theorem State.setMovement_toll (s : State) (i : Item) (m : Option Movement) : (s.setMovement i m).toll = s.toll := rfl
@[simp] theorem State.setMovement_receipts (s : State) (i : Item) (m : Option Movement) : (s.setMovement i m).receipts = s.receipts := rfl
@[simp] theorem State.setMovement_store (s : State) (i : Item) (m : Option Movement) : (s.setMovement i m).store = s.store := rfl
@[simp] theorem State.setMovement_hand (s : State) (i : Item) (m : Option Movement) : (s.setMovement i m).hand = s.hand := rfl

@[simp] theorem State.setFace_powered (s : State) (f : Face) (r : FaceRec) : (s.setFace f r).powered = s.powered := rfl
@[simp] theorem State.setFace_now (s : State) (f : Face) (r : FaceRec) : (s.setFace f r).now = s.now := rfl
@[simp] theorem State.setFace_pending (s : State) (f : Face) (r : FaceRec) : (s.setFace f r).pending = s.pending := rfl
@[simp] theorem State.setFace_console (s : State) (f : Face) (r : FaceRec) : (s.setFace f r).console = s.console := rfl
@[simp] theorem State.setFace_line (s : State) (f : Face) (r : FaceRec) : (s.setFace f r).line = s.line := rfl
@[simp] theorem State.setFace_level (s : State) (f : Face) (r : FaceRec) : (s.setFace f r).level = s.level := rfl
@[simp] theorem State.setFace_mach (s : State) (f : Face) (r : FaceRec) : (s.setFace f r).mach = s.mach := rfl
@[simp] theorem State.setFace_halt (s : State) (f : Face) (r : FaceRec) : (s.setFace f r).halt = s.halt := rfl
@[simp] theorem State.setFace_traffic (s : State) (f : Face) (r : FaceRec) : (s.setFace f r).traffic = s.traffic := rfl
@[simp] theorem State.setFace_toll (s : State) (f : Face) (r : FaceRec) : (s.setFace f r).toll = s.toll := rfl
@[simp] theorem State.setFace_receipts (s : State) (f : Face) (r : FaceRec) : (s.setFace f r).receipts = s.receipts := rfl
@[simp] theorem State.setFace_store (s : State) (f : Face) (r : FaceRec) : (s.setFace f r).store = s.store := rfl
@[simp] theorem State.setFace_hand (s : State) (f : Face) (r : FaceRec) : (s.setFace f r).hand = s.hand := rfl

@[simp] theorem State.setStation_powered (s : State) (k : Station) (r : StationRec) : (s.setStation k r).powered = s.powered := rfl
@[simp] theorem State.setStation_now (s : State) (k : Station) (r : StationRec) : (s.setStation k r).now = s.now := rfl
@[simp] theorem State.setStation_pending (s : State) (k : Station) (r : StationRec) : (s.setStation k r).pending = s.pending := rfl
@[simp] theorem State.setStation_console (s : State) (k : Station) (r : StationRec) : (s.setStation k r).console = s.console := rfl
@[simp] theorem State.setStation_level (s : State) (k : Station) (r : StationRec) : (s.setStation k r).level = s.level := rfl
@[simp] theorem State.setStation_mach (s : State) (k : Station) (r : StationRec) : (s.setStation k r).mach = s.mach := rfl
@[simp] theorem State.setStation_signal (s : State) (k : Station) (r : StationRec) : (s.setStation k r).signal = s.signal := rfl
@[simp] theorem State.setStation_halt (s : State) (k : Station) (r : StationRec) : (s.setStation k r).halt = s.halt := rfl
@[simp] theorem State.setStation_traffic (s : State) (k : Station) (r : StationRec) : (s.setStation k r).traffic = s.traffic := rfl
@[simp] theorem State.setStation_toll (s : State) (k : Station) (r : StationRec) : (s.setStation k r).toll = s.toll := rfl
@[simp] theorem State.setStation_receipts (s : State) (k : Station) (r : StationRec) : (s.setStation k r).receipts = s.receipts := rfl
@[simp] theorem State.setStation_store (s : State) (k : Station) (r : StationRec) : (s.setStation k r).store = s.store := rfl
@[simp] theorem State.setStation_hand (s : State) (k : Station) (r : StationRec) : (s.setStation k r).hand = s.hand := rfl

@[simp] theorem State.setQueue_powered (s : State) (k : Station) (q : List QueueEntry) : (s.setQueue k q).powered = s.powered := rfl
@[simp] theorem State.setQueue_now (s : State) (k : Station) (q : List QueueEntry) : (s.setQueue k q).now = s.now := rfl
@[simp] theorem State.setQueue_pending (s : State) (k : Station) (q : List QueueEntry) : (s.setQueue k q).pending = s.pending := rfl
@[simp] theorem State.setQueue_console (s : State) (k : Station) (q : List QueueEntry) : (s.setQueue k q).console = s.console := rfl
@[simp] theorem State.setQueue_level (s : State) (k : Station) (q : List QueueEntry) : (s.setQueue k q).level = s.level := rfl
@[simp] theorem State.setQueue_mach (s : State) (k : Station) (q : List QueueEntry) : (s.setQueue k q).mach = s.mach := rfl
@[simp] theorem State.setQueue_signal (s : State) (k : Station) (q : List QueueEntry) : (s.setQueue k q).signal = s.signal := rfl
@[simp] theorem State.setQueue_halt (s : State) (k : Station) (q : List QueueEntry) : (s.setQueue k q).halt = s.halt := rfl
@[simp] theorem State.setQueue_traffic (s : State) (k : Station) (q : List QueueEntry) : (s.setQueue k q).traffic = s.traffic := rfl
@[simp] theorem State.setQueue_toll (s : State) (k : Station) (q : List QueueEntry) : (s.setQueue k q).toll = s.toll := rfl
@[simp] theorem State.setQueue_receipts (s : State) (k : Station) (q : List QueueEntry) : (s.setQueue k q).receipts = s.receipts := rfl
@[simp] theorem State.setQueue_store (s : State) (k : Station) (q : List QueueEntry) : (s.setQueue k q).store = s.store := rfl
@[simp] theorem State.setQueue_hand (s : State) (k : Station) (q : List QueueEntry) : (s.setQueue k q).hand = s.hand := rfl

@[simp] theorem State.setFaults_powered (s : State) (fs : List FaultRec) : (s.setFaults fs).powered = s.powered := rfl
@[simp] theorem State.setFaults_now (s : State) (fs : List FaultRec) : (s.setFaults fs).now = s.now := rfl
@[simp] theorem State.setFaults_pending (s : State) (fs : List FaultRec) : (s.setFaults fs).pending = s.pending := rfl
@[simp] theorem State.setFaults_console (s : State) (fs : List FaultRec) : (s.setFaults fs).console = s.console := rfl
@[simp] theorem State.setFaults_line (s : State) (fs : List FaultRec) : (s.setFaults fs).line = s.line := rfl
@[simp] theorem State.setFaults_level (s : State) (fs : List FaultRec) : (s.setFaults fs).level = s.level := rfl
@[simp] theorem State.setFaults_signal (s : State) (fs : List FaultRec) : (s.setFaults fs).signal = s.signal := rfl
@[simp] theorem State.setFaults_halt (s : State) (fs : List FaultRec) : (s.setFaults fs).halt = s.halt := rfl
@[simp] theorem State.setFaults_traffic (s : State) (fs : List FaultRec) : (s.setFaults fs).traffic = s.traffic := rfl
@[simp] theorem State.setFaults_toll (s : State) (fs : List FaultRec) : (s.setFaults fs).toll = s.toll := rfl
@[simp] theorem State.setFaults_receipts (s : State) (fs : List FaultRec) : (s.setFaults fs).receipts = s.receipts := rfl
@[simp] theorem State.setFaults_store (s : State) (fs : List FaultRec) : (s.setFaults fs).store = s.store := rfl
@[simp] theorem State.setFaults_hand (s : State) (fs : List FaultRec) : (s.setFaults fs).hand = s.hand := rfl

@[simp] theorem State.setBatches_powered (s : State) (bs : List Batch) : (s.setBatches bs).powered = s.powered := rfl
@[simp] theorem State.setBatches_now (s : State) (bs : List Batch) : (s.setBatches bs).now = s.now := rfl
@[simp] theorem State.setBatches_pending (s : State) (bs : List Batch) : (s.setBatches bs).pending = s.pending := rfl
@[simp] theorem State.setBatches_console (s : State) (bs : List Batch) : (s.setBatches bs).console = s.console := rfl
@[simp] theorem State.setBatches_line (s : State) (bs : List Batch) : (s.setBatches bs).line = s.line := rfl
@[simp] theorem State.setBatches_level (s : State) (bs : List Batch) : (s.setBatches bs).level = s.level := rfl
@[simp] theorem State.setBatches_mach (s : State) (bs : List Batch) : (s.setBatches bs).mach = s.mach := rfl
@[simp] theorem State.setBatches_signal (s : State) (bs : List Batch) : (s.setBatches bs).signal = s.signal := rfl
@[simp] theorem State.setBatches_halt (s : State) (bs : List Batch) : (s.setBatches bs).halt = s.halt := rfl
@[simp] theorem State.setBatches_toll (s : State) (bs : List Batch) : (s.setBatches bs).toll = s.toll := rfl
@[simp] theorem State.setBatches_receipts (s : State) (bs : List Batch) : (s.setBatches bs).receipts = s.receipts := rfl
@[simp] theorem State.setBatches_store (s : State) (bs : List Batch) : (s.setBatches bs).store = s.store := rfl
@[simp] theorem State.setBatches_hand (s : State) (bs : List Batch) : (s.setBatches bs).hand = s.hand := rfl

@[simp] theorem State.modBatch_powered (s : State) (n : Nat) (f : Batch → Batch) : (s.modBatch n f).powered = s.powered := rfl
@[simp] theorem State.modBatch_now (s : State) (n : Nat) (f : Batch → Batch) : (s.modBatch n f).now = s.now := rfl
@[simp] theorem State.modBatch_pending (s : State) (n : Nat) (f : Batch → Batch) : (s.modBatch n f).pending = s.pending := rfl
@[simp] theorem State.modBatch_console (s : State) (n : Nat) (f : Batch → Batch) : (s.modBatch n f).console = s.console := rfl
@[simp] theorem State.modBatch_line (s : State) (n : Nat) (f : Batch → Batch) : (s.modBatch n f).line = s.line := rfl
@[simp] theorem State.modBatch_level (s : State) (n : Nat) (f : Batch → Batch) : (s.modBatch n f).level = s.level := rfl
@[simp] theorem State.modBatch_mach (s : State) (n : Nat) (f : Batch → Batch) : (s.modBatch n f).mach = s.mach := rfl
@[simp] theorem State.modBatch_signal (s : State) (n : Nat) (f : Batch → Batch) : (s.modBatch n f).signal = s.signal := rfl
@[simp] theorem State.modBatch_halt (s : State) (n : Nat) (f : Batch → Batch) : (s.modBatch n f).halt = s.halt := rfl
@[simp] theorem State.modBatch_toll (s : State) (n : Nat) (f : Batch → Batch) : (s.modBatch n f).toll = s.toll := rfl
@[simp] theorem State.modBatch_receipts (s : State) (n : Nat) (f : Batch → Batch) : (s.modBatch n f).receipts = s.receipts := rfl
@[simp] theorem State.modBatch_store (s : State) (n : Nat) (f : Batch → Batch) : (s.modBatch n f).store = s.store := rfl
@[simp] theorem State.modBatch_hand (s : State) (n : Nat) (f : Batch → Batch) : (s.modBatch n f).hand = s.hand := rfl

@[simp] theorem State.setHeld_powered (s : State) (k : Station) (i : Input) (v : Option Bool) : (s.setHeld k i v).powered = s.powered := rfl
@[simp] theorem State.setHeld_now (s : State) (k : Station) (i : Input) (v : Option Bool) : (s.setHeld k i v).now = s.now := rfl
@[simp] theorem State.setHeld_pending (s : State) (k : Station) (i : Input) (v : Option Bool) : (s.setHeld k i v).pending = s.pending := rfl
@[simp] theorem State.setHeld_console (s : State) (k : Station) (i : Input) (v : Option Bool) : (s.setHeld k i v).console = s.console := rfl
@[simp] theorem State.setHeld_line (s : State) (k : Station) (i : Input) (v : Option Bool) : (s.setHeld k i v).line = s.line := rfl
@[simp] theorem State.setHeld_level (s : State) (k : Station) (i : Input) (v : Option Bool) : (s.setHeld k i v).level = s.level := rfl
@[simp] theorem State.setHeld_signal (s : State) (k : Station) (i : Input) (v : Option Bool) : (s.setHeld k i v).signal = s.signal := rfl
@[simp] theorem State.setHeld_halt (s : State) (k : Station) (i : Input) (v : Option Bool) : (s.setHeld k i v).halt = s.halt := rfl
@[simp] theorem State.setHeld_traffic (s : State) (k : Station) (i : Input) (v : Option Bool) : (s.setHeld k i v).traffic = s.traffic := rfl
@[simp] theorem State.setHeld_toll (s : State) (k : Station) (i : Input) (v : Option Bool) : (s.setHeld k i v).toll = s.toll := rfl
@[simp] theorem State.setHeld_receipts (s : State) (k : Station) (i : Input) (v : Option Bool) : (s.setHeld k i v).receipts = s.receipts := rfl
@[simp] theorem State.setHeld_store (s : State) (k : Station) (i : Input) (v : Option Bool) : (s.setHeld k i v).store = s.store := rfl
@[simp] theorem State.setHeld_hand (s : State) (k : Station) (i : Input) (v : Option Bool) : (s.setHeld k i v).hand = s.hand := rfl

@[simp] theorem State.setUnrecorded_powered (s : State) (k : Station) (i : Input) (v : Bool) : (s.setUnrecorded k i v).powered = s.powered := rfl
@[simp] theorem State.setUnrecorded_now (s : State) (k : Station) (i : Input) (v : Bool) : (s.setUnrecorded k i v).now = s.now := rfl
@[simp] theorem State.setUnrecorded_pending (s : State) (k : Station) (i : Input) (v : Bool) : (s.setUnrecorded k i v).pending = s.pending := rfl
@[simp] theorem State.setUnrecorded_console (s : State) (k : Station) (i : Input) (v : Bool) : (s.setUnrecorded k i v).console = s.console := rfl
@[simp] theorem State.setUnrecorded_line (s : State) (k : Station) (i : Input) (v : Bool) : (s.setUnrecorded k i v).line = s.line := rfl
@[simp] theorem State.setUnrecorded_level (s : State) (k : Station) (i : Input) (v : Bool) : (s.setUnrecorded k i v).level = s.level := rfl
@[simp] theorem State.setUnrecorded_signal (s : State) (k : Station) (i : Input) (v : Bool) : (s.setUnrecorded k i v).signal = s.signal := rfl
@[simp] theorem State.setUnrecorded_halt (s : State) (k : Station) (i : Input) (v : Bool) : (s.setUnrecorded k i v).halt = s.halt := rfl
@[simp] theorem State.setUnrecorded_traffic (s : State) (k : Station) (i : Input) (v : Bool) : (s.setUnrecorded k i v).traffic = s.traffic := rfl
@[simp] theorem State.setUnrecorded_toll (s : State) (k : Station) (i : Input) (v : Bool) : (s.setUnrecorded k i v).toll = s.toll := rfl
@[simp] theorem State.setUnrecorded_receipts (s : State) (k : Station) (i : Input) (v : Bool) : (s.setUnrecorded k i v).receipts = s.receipts := rfl
@[simp] theorem State.setUnrecorded_store (s : State) (k : Station) (i : Input) (v : Bool) : (s.setUnrecorded k i v).store = s.store := rfl
@[simp] theorem State.setUnrecorded_hand (s : State) (k : Station) (i : Input) (v : Bool) : (s.setUnrecorded k i v).hand = s.hand := rfl

@[simp] theorem State.setOverload_powered (s : State) (k : Station) (o : OverloadBlank) : (s.setOverload k o).powered = s.powered := rfl
@[simp] theorem State.setOverload_now (s : State) (k : Station) (o : OverloadBlank) : (s.setOverload k o).now = s.now := rfl
@[simp] theorem State.setOverload_pending (s : State) (k : Station) (o : OverloadBlank) : (s.setOverload k o).pending = s.pending := rfl
@[simp] theorem State.setOverload_console (s : State) (k : Station) (o : OverloadBlank) : (s.setOverload k o).console = s.console := rfl
@[simp] theorem State.setOverload_line (s : State) (k : Station) (o : OverloadBlank) : (s.setOverload k o).line = s.line := rfl
@[simp] theorem State.setOverload_level (s : State) (k : Station) (o : OverloadBlank) : (s.setOverload k o).level = s.level := rfl
@[simp] theorem State.setOverload_signal (s : State) (k : Station) (o : OverloadBlank) : (s.setOverload k o).signal = s.signal := rfl
@[simp] theorem State.setOverload_halt (s : State) (k : Station) (o : OverloadBlank) : (s.setOverload k o).halt = s.halt := rfl
@[simp] theorem State.setOverload_traffic (s : State) (k : Station) (o : OverloadBlank) : (s.setOverload k o).traffic = s.traffic := rfl
@[simp] theorem State.setOverload_toll (s : State) (k : Station) (o : OverloadBlank) : (s.setOverload k o).toll = s.toll := rfl
@[simp] theorem State.setOverload_receipts (s : State) (k : Station) (o : OverloadBlank) : (s.setOverload k o).receipts = s.receipts := rfl
@[simp] theorem State.setOverload_store (s : State) (k : Station) (o : OverloadBlank) : (s.setOverload k o).store = s.store := rfl
@[simp] theorem State.setOverload_hand (s : State) (k : Station) (o : OverloadBlank) : (s.setOverload k o).hand = s.hand := rfl

@[simp] theorem State.emit_powered (s : State) (e : RunEvent) : (s.emit e).powered = s.powered := rfl
@[simp] theorem State.emit_now (s : State) (e : RunEvent) : (s.emit e).now = s.now := rfl
@[simp] theorem State.emit_pending (s : State) (e : RunEvent) : (s.emit e).pending = s.pending := rfl
@[simp] theorem State.emit_console (s : State) (e : RunEvent) : (s.emit e).console = s.console := rfl
@[simp] theorem State.emit_line (s : State) (e : RunEvent) : (s.emit e).line = s.line := rfl
@[simp] theorem State.emit_level (s : State) (e : RunEvent) : (s.emit e).level = s.level := rfl
@[simp] theorem State.emit_mach (s : State) (e : RunEvent) : (s.emit e).mach = s.mach := rfl
@[simp] theorem State.emit_signal (s : State) (e : RunEvent) : (s.emit e).signal = s.signal := rfl
@[simp] theorem State.emit_halt (s : State) (e : RunEvent) : (s.emit e).halt = s.halt := rfl
@[simp] theorem State.emit_traffic (s : State) (e : RunEvent) : (s.emit e).traffic = s.traffic := rfl
@[simp] theorem State.emit_toll (s : State) (e : RunEvent) : (s.emit e).toll = s.toll := rfl
@[simp] theorem State.emit_receipts (s : State) (e : RunEvent) : (s.emit e).receipts = s.receipts := rfl
@[simp] theorem State.emit_store (s : State) (e : RunEvent) : (s.emit e).store = s.store := rfl

@[simp] theorem State.handCause_powered (s : State) (c : HaltCause) : (s.handCause c).powered = s.powered := rfl
@[simp] theorem State.handCause_now (s : State) (c : HaltCause) : (s.handCause c).now = s.now := rfl
@[simp] theorem State.handCause_pending (s : State) (c : HaltCause) : (s.handCause c).pending = s.pending := rfl
@[simp] theorem State.handCause_console (s : State) (c : HaltCause) : (s.handCause c).console = s.console := rfl
@[simp] theorem State.handCause_line (s : State) (c : HaltCause) : (s.handCause c).line = s.line := rfl
@[simp] theorem State.handCause_level (s : State) (c : HaltCause) : (s.handCause c).level = s.level := rfl
@[simp] theorem State.handCause_mach (s : State) (c : HaltCause) : (s.handCause c).mach = s.mach := rfl
@[simp] theorem State.handCause_signal (s : State) (c : HaltCause) : (s.handCause c).signal = s.signal := rfl
@[simp] theorem State.handCause_halt (s : State) (c : HaltCause) : (s.handCause c).halt = s.halt := rfl
@[simp] theorem State.handCause_traffic (s : State) (c : HaltCause) : (s.handCause c).traffic = s.traffic := rfl
@[simp] theorem State.handCause_toll (s : State) (c : HaltCause) : (s.handCause c).toll = s.toll := rfl
@[simp] theorem State.handCause_receipts (s : State) (c : HaltCause) : (s.handCause c).receipts = s.receipts := rfl
@[simp] theorem State.handCause_store (s : State) (c : HaltCause) : (s.handCause c).store = s.store := rfl

@[simp] theorem State.markRetest_powered (s : State) : (s.markRetest).powered = s.powered := rfl
@[simp] theorem State.markRetest_now (s : State) : (s.markRetest).now = s.now := rfl
@[simp] theorem State.markRetest_pending (s : State) : (s.markRetest).pending = s.pending := rfl
@[simp] theorem State.markRetest_console (s : State) : (s.markRetest).console = s.console := rfl
@[simp] theorem State.markRetest_line (s : State) : (s.markRetest).line = s.line := rfl
@[simp] theorem State.markRetest_level (s : State) : (s.markRetest).level = s.level := rfl
@[simp] theorem State.markRetest_mach (s : State) : (s.markRetest).mach = s.mach := rfl
@[simp] theorem State.markRetest_signal (s : State) : (s.markRetest).signal = s.signal := rfl
@[simp] theorem State.markRetest_halt (s : State) : (s.markRetest).halt = s.halt := rfl
@[simp] theorem State.markRetest_traffic (s : State) : (s.markRetest).traffic = s.traffic := rfl
@[simp] theorem State.markRetest_toll (s : State) : (s.markRetest).toll = s.toll := rfl
@[simp] theorem State.markRetest_receipts (s : State) : (s.markRetest).receipts = s.receipts := rfl
@[simp] theorem State.markRetest_store (s : State) : (s.markRetest).store = s.store := rfl

@[simp] theorem State.markAdmit_powered (s : State) : (s.markAdmit).powered = s.powered := rfl
@[simp] theorem State.markAdmit_now (s : State) : (s.markAdmit).now = s.now := rfl
@[simp] theorem State.markAdmit_pending (s : State) : (s.markAdmit).pending = s.pending := rfl
@[simp] theorem State.markAdmit_console (s : State) : (s.markAdmit).console = s.console := rfl
@[simp] theorem State.markAdmit_line (s : State) : (s.markAdmit).line = s.line := rfl
@[simp] theorem State.markAdmit_level (s : State) : (s.markAdmit).level = s.level := rfl
@[simp] theorem State.markAdmit_mach (s : State) : (s.markAdmit).mach = s.mach := rfl
@[simp] theorem State.markAdmit_signal (s : State) : (s.markAdmit).signal = s.signal := rfl
@[simp] theorem State.markAdmit_halt (s : State) : (s.markAdmit).halt = s.halt := rfl
@[simp] theorem State.markAdmit_traffic (s : State) : (s.markAdmit).traffic = s.traffic := rfl
@[simp] theorem State.markAdmit_toll (s : State) : (s.markAdmit).toll = s.toll := rfl
@[simp] theorem State.markAdmit_receipts (s : State) : (s.markAdmit).receipts = s.receipts := rfl
@[simp] theorem State.markAdmit_store (s : State) : (s.markAdmit).store = s.store := rfl

@[simp] theorem State.reach_powered (s : State) (t : Nat) : (s.reach t).powered = s.powered := rfl
@[simp] theorem State.reach_pending (s : State) (t : Nat) : (s.reach t).pending = s.pending := rfl
@[simp] theorem State.reach_console (s : State) (t : Nat) : (s.reach t).console = s.console := rfl
@[simp] theorem State.reach_line (s : State) (t : Nat) : (s.reach t).line = s.line := rfl
@[simp] theorem State.reach_level (s : State) (t : Nat) : (s.reach t).level = s.level := rfl
@[simp] theorem State.reach_mach (s : State) (t : Nat) : (s.reach t).mach = s.mach := rfl
@[simp] theorem State.reach_signal (s : State) (t : Nat) : (s.reach t).signal = s.signal := rfl
@[simp] theorem State.reach_halt (s : State) (t : Nat) : (s.reach t).halt = s.halt := rfl
@[simp] theorem State.reach_traffic (s : State) (t : Nat) : (s.reach t).traffic = s.traffic := rfl
@[simp] theorem State.reach_toll (s : State) (t : Nat) : (s.reach t).toll = s.toll := rfl
@[simp] theorem State.reach_receipts (s : State) (t : Nat) : (s.reach t).receipts = s.receipts := rfl
@[simp] theorem State.reach_store (s : State) (t : Nat) : (s.reach t).store = s.store := rfl
@[simp] theorem State.reach_hand (s : State) (t : Nat) : (s.reach t).hand = s.hand := rfl

@[simp] theorem State.setTarget_powered (s : State) (c : Chamber) (t : Option LevelTarget) : (s.setTarget c t).powered = s.powered := rfl
@[simp] theorem State.setTarget_now (s : State) (c : Chamber) (t : Option LevelTarget) : (s.setTarget c t).now = s.now := rfl
@[simp] theorem State.setTarget_pending (s : State) (c : Chamber) (t : Option LevelTarget) : (s.setTarget c t).pending = s.pending := rfl
@[simp] theorem State.setTarget_console (s : State) (c : Chamber) (t : Option LevelTarget) : (s.setTarget c t).console = s.console := rfl
@[simp] theorem State.setTarget_line (s : State) (c : Chamber) (t : Option LevelTarget) : (s.setTarget c t).line = s.line := rfl
@[simp] theorem State.setTarget_mach (s : State) (c : Chamber) (t : Option LevelTarget) : (s.setTarget c t).mach = s.mach := rfl
@[simp] theorem State.setTarget_signal (s : State) (c : Chamber) (t : Option LevelTarget) : (s.setTarget c t).signal = s.signal := rfl
@[simp] theorem State.setTarget_halt (s : State) (c : Chamber) (t : Option LevelTarget) : (s.setTarget c t).halt = s.halt := rfl
@[simp] theorem State.setTarget_traffic (s : State) (c : Chamber) (t : Option LevelTarget) : (s.setTarget c t).traffic = s.traffic := rfl
@[simp] theorem State.setTarget_toll (s : State) (c : Chamber) (t : Option LevelTarget) : (s.setTarget c t).toll = s.toll := rfl
@[simp] theorem State.setTarget_receipts (s : State) (c : Chamber) (t : Option LevelTarget) : (s.setTarget c t).receipts = s.receipts := rfl
@[simp] theorem State.setTarget_store (s : State) (c : Chamber) (t : Option LevelTarget) : (s.setTarget c t).store = s.store := rfl
@[simp] theorem State.setTarget_hand (s : State) (c : Chamber) (t : Option LevelTarget) : (s.setTarget c t).hand = s.hand := rfl

@[simp] theorem State.setEqual_powered (s : State) (k : Station) (n : Nat) : (s.setEqual k n).powered = s.powered := rfl
@[simp] theorem State.setEqual_now (s : State) (k : Station) (n : Nat) : (s.setEqual k n).now = s.now := rfl
@[simp] theorem State.setEqual_pending (s : State) (k : Station) (n : Nat) : (s.setEqual k n).pending = s.pending := rfl
@[simp] theorem State.setEqual_console (s : State) (k : Station) (n : Nat) : (s.setEqual k n).console = s.console := rfl
@[simp] theorem State.setEqual_line (s : State) (k : Station) (n : Nat) : (s.setEqual k n).line = s.line := rfl
@[simp] theorem State.setEqual_mach (s : State) (k : Station) (n : Nat) : (s.setEqual k n).mach = s.mach := rfl
@[simp] theorem State.setEqual_signal (s : State) (k : Station) (n : Nat) : (s.setEqual k n).signal = s.signal := rfl
@[simp] theorem State.setEqual_halt (s : State) (k : Station) (n : Nat) : (s.setEqual k n).halt = s.halt := rfl
@[simp] theorem State.setEqual_traffic (s : State) (k : Station) (n : Nat) : (s.setEqual k n).traffic = s.traffic := rfl
@[simp] theorem State.setEqual_toll (s : State) (k : Station) (n : Nat) : (s.setEqual k n).toll = s.toll := rfl
@[simp] theorem State.setEqual_receipts (s : State) (k : Station) (n : Nat) : (s.setEqual k n).receipts = s.receipts := rfl
@[simp] theorem State.setEqual_store (s : State) (k : Station) (n : Nat) : (s.setEqual k n).store = s.store := rfl
@[simp] theorem State.setEqual_hand (s : State) (k : Station) (n : Nat) : (s.setEqual k n).hand = s.hand := rfl

@[simp] theorem State.setLine_powered (s : State) (l : Line) : (s.setLine l).powered = s.powered := rfl
@[simp] theorem State.setLine_now (s : State) (l : Line) : (s.setLine l).now = s.now := rfl
@[simp] theorem State.setLine_pending (s : State) (l : Line) : (s.setLine l).pending = s.pending := rfl
@[simp] theorem State.setLine_console (s : State) (l : Line) : (s.setLine l).console = s.console := rfl
@[simp] theorem State.setLine_level (s : State) (l : Line) : (s.setLine l).level = s.level := rfl
@[simp] theorem State.setLine_mach (s : State) (l : Line) : (s.setLine l).mach = s.mach := rfl
@[simp] theorem State.setLine_signal (s : State) (l : Line) : (s.setLine l).signal = s.signal := rfl
@[simp] theorem State.setLine_halt (s : State) (l : Line) : (s.setLine l).halt = s.halt := rfl
@[simp] theorem State.setLine_traffic (s : State) (l : Line) : (s.setLine l).traffic = s.traffic := rfl
@[simp] theorem State.setLine_toll (s : State) (l : Line) : (s.setLine l).toll = s.toll := rfl
@[simp] theorem State.setLine_receipts (s : State) (l : Line) : (s.setLine l).receipts = s.receipts := rfl
@[simp] theorem State.setLine_store (s : State) (l : Line) : (s.setLine l).store = s.store := rfl
@[simp] theorem State.setLine_hand (s : State) (l : Line) : (s.setLine l).hand = s.hand := rfl

@[simp] theorem State.setPoll_powered (s : State) (p : Option Poll) : (s.setPoll p).powered = s.powered := rfl
@[simp] theorem State.setPoll_now (s : State) (p : Option Poll) : (s.setPoll p).now = s.now := rfl
@[simp] theorem State.setPoll_pending (s : State) (p : Option Poll) : (s.setPoll p).pending = s.pending := rfl
@[simp] theorem State.setPoll_console (s : State) (p : Option Poll) : (s.setPoll p).console = s.console := rfl
@[simp] theorem State.setPoll_level (s : State) (p : Option Poll) : (s.setPoll p).level = s.level := rfl
@[simp] theorem State.setPoll_mach (s : State) (p : Option Poll) : (s.setPoll p).mach = s.mach := rfl
@[simp] theorem State.setPoll_signal (s : State) (p : Option Poll) : (s.setPoll p).signal = s.signal := rfl
@[simp] theorem State.setPoll_halt (s : State) (p : Option Poll) : (s.setPoll p).halt = s.halt := rfl
@[simp] theorem State.setPoll_traffic (s : State) (p : Option Poll) : (s.setPoll p).traffic = s.traffic := rfl
@[simp] theorem State.setPoll_toll (s : State) (p : Option Poll) : (s.setPoll p).toll = s.toll := rfl
@[simp] theorem State.setPoll_receipts (s : State) (p : Option Poll) : (s.setPoll p).receipts = s.receipts := rfl
@[simp] theorem State.setPoll_store (s : State) (p : Option Poll) : (s.setPoll p).store = s.store := rfl
@[simp] theorem State.setPoll_hand (s : State) (p : Option Poll) : (s.setPoll p).hand = s.hand := rfl

@[simp] theorem State.setSlot_powered (s : State) (k : Option Station) : (s.setSlot k).powered = s.powered := rfl
@[simp] theorem State.setSlot_now (s : State) (k : Option Station) : (s.setSlot k).now = s.now := rfl
@[simp] theorem State.setSlot_pending (s : State) (k : Option Station) : (s.setSlot k).pending = s.pending := rfl
@[simp] theorem State.setSlot_console (s : State) (k : Option Station) : (s.setSlot k).console = s.console := rfl
@[simp] theorem State.setSlot_level (s : State) (k : Option Station) : (s.setSlot k).level = s.level := rfl
@[simp] theorem State.setSlot_mach (s : State) (k : Option Station) : (s.setSlot k).mach = s.mach := rfl
@[simp] theorem State.setSlot_signal (s : State) (k : Option Station) : (s.setSlot k).signal = s.signal := rfl
@[simp] theorem State.setSlot_halt (s : State) (k : Option Station) : (s.setSlot k).halt = s.halt := rfl
@[simp] theorem State.setSlot_traffic (s : State) (k : Option Station) : (s.setSlot k).traffic = s.traffic := rfl
@[simp] theorem State.setSlot_toll (s : State) (k : Option Station) : (s.setSlot k).toll = s.toll := rfl
@[simp] theorem State.setSlot_receipts (s : State) (k : Option Station) : (s.setSlot k).receipts = s.receipts := rfl
@[simp] theorem State.setSlot_store (s : State) (k : Option Station) : (s.setSlot k).store = s.store := rfl
@[simp] theorem State.setSlot_hand (s : State) (k : Option Station) : (s.setSlot k).hand = s.hand := rfl

@[simp] theorem State.markAlarm_powered (s : State) : s.markAlarm.powered = s.powered := rfl
@[simp] theorem State.markAlarm_now (s : State) : s.markAlarm.now = s.now := rfl
@[simp] theorem State.markAlarm_pending (s : State) : s.markAlarm.pending = s.pending := rfl
@[simp] theorem State.markAlarm_console (s : State) : s.markAlarm.console = s.console := rfl
@[simp] theorem State.markAlarm_level (s : State) : s.markAlarm.level = s.level := rfl
@[simp] theorem State.markAlarm_mach (s : State) : s.markAlarm.mach = s.mach := rfl
@[simp] theorem State.markAlarm_signal (s : State) : s.markAlarm.signal = s.signal := rfl
@[simp] theorem State.markAlarm_halt (s : State) : s.markAlarm.halt = s.halt := rfl
@[simp] theorem State.markAlarm_traffic (s : State) : s.markAlarm.traffic = s.traffic := rfl
@[simp] theorem State.markAlarm_toll (s : State) : s.markAlarm.toll = s.toll := rfl
@[simp] theorem State.markAlarm_receipts (s : State) : s.markAlarm.receipts = s.receipts := rfl
@[simp] theorem State.markAlarm_store (s : State) : s.markAlarm.store = s.store := rfl
@[simp] theorem State.markAlarm_hand (s : State) : s.markAlarm.hand = s.hand := rfl

@[simp] theorem State.setPoll_line (s : State) (p : Option Poll) : (s.setPoll p).line = { s.line with poll := p } := rfl
@[simp] theorem State.setPoll_station (s : State) (p : Option Poll) (j : Station) : (s.setPoll p).station j = s.station j := rfl
@[simp] theorem State.setSlot_line (s : State) (k : Option Station) :
    (s.setSlot k).line = { s.line with slot := k, alarm := false } := rfl
@[simp] theorem State.setSlot_station (s : State) (k : Option Station) (j : Station) :
    (s.setSlot k).station j = s.station j := rfl
@[simp] theorem State.markAlarm_line (s : State) : s.markAlarm.line = { s.line with alarm := true } := rfl
@[simp] theorem State.markAlarm_station (s : State) (j : Station) : s.markAlarm.station j = s.station j := rfl

@[simp] theorem State.setAccount_powered (s : State) (a : DayAccount) : (s.setAccount a).powered = s.powered := rfl
@[simp] theorem State.setAccount_now (s : State) (a : DayAccount) : (s.setAccount a).now = s.now := rfl
@[simp] theorem State.setAccount_pending (s : State) (a : DayAccount) : (s.setAccount a).pending = s.pending := rfl
@[simp] theorem State.setAccount_console (s : State) (a : DayAccount) : (s.setAccount a).console = s.console := rfl
@[simp] theorem State.setAccount_line (s : State) (a : DayAccount) : (s.setAccount a).line = s.line := rfl
@[simp] theorem State.setAccount_level (s : State) (a : DayAccount) : (s.setAccount a).level = s.level := rfl
@[simp] theorem State.setAccount_mach (s : State) (a : DayAccount) : (s.setAccount a).mach = s.mach := rfl
@[simp] theorem State.setAccount_signal (s : State) (a : DayAccount) : (s.setAccount a).signal = s.signal := rfl
@[simp] theorem State.setAccount_halt (s : State) (a : DayAccount) : (s.setAccount a).halt = s.halt := rfl
@[simp] theorem State.setAccount_traffic (s : State) (a : DayAccount) : (s.setAccount a).traffic = s.traffic := rfl
@[simp] theorem State.setAccount_receipts (s : State) (a : DayAccount) : (s.setAccount a).receipts = s.receipts := rfl
@[simp] theorem State.setAccount_store (s : State) (a : DayAccount) : (s.setAccount a).store = s.store := rfl
@[simp] theorem State.setAccount_hand (s : State) (a : DayAccount) : (s.setAccount a).hand = s.hand := rfl

@[simp] theorem State.setTraffic_powered (s : State) (t : Traffic) : (s.setTraffic t).powered = s.powered := rfl
@[simp] theorem State.setTraffic_now (s : State) (t : Traffic) : (s.setTraffic t).now = s.now := rfl
@[simp] theorem State.setTraffic_pending (s : State) (t : Traffic) : (s.setTraffic t).pending = s.pending := rfl
@[simp] theorem State.setTraffic_console (s : State) (t : Traffic) : (s.setTraffic t).console = s.console := rfl
@[simp] theorem State.setTraffic_line (s : State) (t : Traffic) : (s.setTraffic t).line = s.line := rfl
@[simp] theorem State.setTraffic_level (s : State) (t : Traffic) : (s.setTraffic t).level = s.level := rfl
@[simp] theorem State.setTraffic_mach (s : State) (t : Traffic) : (s.setTraffic t).mach = s.mach := rfl
@[simp] theorem State.setTraffic_signal (s : State) (t : Traffic) : (s.setTraffic t).signal = s.signal := rfl
@[simp] theorem State.setTraffic_halt (s : State) (t : Traffic) : (s.setTraffic t).halt = s.halt := rfl
@[simp] theorem State.setTraffic_toll (s : State) (t : Traffic) : (s.setTraffic t).toll = s.toll := rfl
@[simp] theorem State.setTraffic_receipts (s : State) (t : Traffic) : (s.setTraffic t).receipts = s.receipts := rfl
@[simp] theorem State.setTraffic_store (s : State) (t : Traffic) : (s.setTraffic t).store = s.store := rfl
@[simp] theorem State.setTraffic_hand (s : State) (t : Traffic) : (s.setTraffic t).hand = s.hand := rfl

@[simp] theorem State.setConsole_powered (s : State) (c : Console) : (s.setConsole c).powered = s.powered := rfl
@[simp] theorem State.setConsole_now (s : State) (c : Console) : (s.setConsole c).now = s.now := rfl
@[simp] theorem State.setConsole_pending (s : State) (c : Console) : (s.setConsole c).pending = s.pending := rfl
@[simp] theorem State.setConsole_line (s : State) (c : Console) : (s.setConsole c).line = s.line := rfl
@[simp] theorem State.setConsole_level (s : State) (c : Console) : (s.setConsole c).level = s.level := rfl
@[simp] theorem State.setConsole_mach (s : State) (c : Console) : (s.setConsole c).mach = s.mach := rfl
@[simp] theorem State.setConsole_signal (s : State) (c : Console) : (s.setConsole c).signal = s.signal := rfl
@[simp] theorem State.setConsole_halt (s : State) (c : Console) : (s.setConsole c).halt = s.halt := rfl
@[simp] theorem State.setConsole_traffic (s : State) (c : Console) : (s.setConsole c).traffic = s.traffic := rfl
@[simp] theorem State.setConsole_toll (s : State) (c : Console) : (s.setConsole c).toll = s.toll := rfl
@[simp] theorem State.setConsole_receipts (s : State) (c : Console) : (s.setConsole c).receipts = s.receipts := rfl
@[simp] theorem State.setConsole_store (s : State) (c : Console) : (s.setConsole c).store = s.store := rfl
@[simp] theorem State.setConsole_hand (s : State) (c : Console) : (s.setConsole c).hand = s.hand := rfl

@[simp] theorem State.popEvent_powered (s : State) : (s.popEvent).powered = s.powered := rfl
@[simp] theorem State.popEvent_now (s : State) : (s.popEvent).now = s.now := rfl
@[simp] theorem State.popEvent_pending (s : State) : (s.popEvent).pending = s.pending := rfl
@[simp] theorem State.popEvent_console (s : State) : (s.popEvent).console = s.console := rfl
@[simp] theorem State.popEvent_line (s : State) : (s.popEvent).line = s.line := rfl
@[simp] theorem State.popEvent_level (s : State) : (s.popEvent).level = s.level := rfl
@[simp] theorem State.popEvent_mach (s : State) : (s.popEvent).mach = s.mach := rfl
@[simp] theorem State.popEvent_signal (s : State) : (s.popEvent).signal = s.signal := rfl
@[simp] theorem State.popEvent_halt (s : State) : (s.popEvent).halt = s.halt := rfl
@[simp] theorem State.popEvent_traffic (s : State) : (s.popEvent).traffic = s.traffic := rfl
@[simp] theorem State.popEvent_toll (s : State) : (s.popEvent).toll = s.toll := rfl
@[simp] theorem State.popEvent_receipts (s : State) : (s.popEvent).receipts = s.receipts := rfl
@[simp] theorem State.popEvent_store (s : State) : (s.popEvent).store = s.store := rfl

@[simp] theorem State.withPending_powered (s : State) (q : List Instr) : (s.withPending q).powered = s.powered := rfl
@[simp] theorem State.withPending_now (s : State) (q : List Instr) : (s.withPending q).now = s.now := rfl
@[simp] theorem State.withPending_console (s : State) (q : List Instr) : (s.withPending q).console = s.console := rfl
@[simp] theorem State.withPending_line (s : State) (q : List Instr) : (s.withPending q).line = s.line := rfl
@[simp] theorem State.withPending_level (s : State) (q : List Instr) : (s.withPending q).level = s.level := rfl
@[simp] theorem State.withPending_mach (s : State) (q : List Instr) : (s.withPending q).mach = s.mach := rfl
@[simp] theorem State.withPending_signal (s : State) (q : List Instr) : (s.withPending q).signal = s.signal := rfl
@[simp] theorem State.withPending_halt (s : State) (q : List Instr) : (s.withPending q).halt = s.halt := rfl
@[simp] theorem State.withPending_traffic (s : State) (q : List Instr) : (s.withPending q).traffic = s.traffic := rfl
@[simp] theorem State.withPending_toll (s : State) (q : List Instr) : (s.withPending q).toll = s.toll := rfl
@[simp] theorem State.withPending_receipts (s : State) (q : List Instr) : (s.withPending q).receipts = s.receipts := rfl
@[simp] theorem State.withPending_store (s : State) (q : List Instr) : (s.withPending q).store = s.store := rfl
@[simp] theorem State.withPending_hand (s : State) (q : List Instr) : (s.withPending q).hand = s.hand := rfl

/-! ### Updates that act only in some cases -/

/-- A notice changes only the notice queue of the console link. -/
theorem State.notify_eq (s : State) (k : NoticeKind) (o : Nat) (p : List Field) :
    s.notify k o p = { s with console := { s.console with notices := (s.notify k o p).console.notices } } := by
  unfold State.notify
  split <;> rfl

/-- Setting a command state changes only that item's record and may mark the waiting movements. -/
theorem State.setCommand_spec (s : State) (i : Item) (c : CmdState) :
    s.setCommand i c = s ∧ (s.item i).command = c ∨
      s.setCommand i c = (s.setItem i { s.item i with command := c }).markRetest := by
  unfold State.setCommand
  split
  · exact .inl ⟨rfl, by assumption⟩
  · exact .inr rfl

end Sys2Proof.Machine
end

