-- ==== Sys2Proof/Laws/Fixed.lean ====
section
/-! SUPPORT. What the hand-overs at the end of a step never change (`Fixed`): one lemma per operation, up
to `State.finish`. -/

namespace Sys2Proof.Machine

/-- Folding operations that keep `Fixed` keeps it. -/
theorem foldl_fixed {α : Type} (f : State → α → State) (h : ∀ s a, (f s a).fixed = s.fixed) (xs : List α) :
    ∀ s, (xs.foldl f s).fixed = s.fixed := by
  induction xs with
  | nil => exact fun _ => rfl
  | cons x xs ih => exact fun s => (ih (f s x)).trans (h s x)

/-! ### Plain updates -/

@[simp] theorem State.setItem_fixed (s : State) (i : Item) (r : ItemRec) :
    (s.setItem i r).fixed = s.fixed := rfl

@[simp] theorem State.setMovement_fixed (s : State) (i : Item) (m : Option Movement) :
    (s.setMovement i m).fixed = s.fixed := rfl

@[simp] theorem State.setFace_fixed (s : State) (f : Face) (r : FaceRec) :
    (s.setFace f r).fixed = s.fixed := rfl

@[simp] theorem State.setStation_fixed (s : State) (k : Station) (r : StationRec) :
    (s.setStation k r).fixed = s.fixed := rfl

@[simp] theorem State.setQueue_fixed (s : State) (k : Station) (q : List QueueEntry) :
    (s.setQueue k q).fixed = s.fixed := rfl

@[simp] theorem State.setFaults_fixed (s : State) (fs : List FaultRec) :
    (s.setFaults fs).fixed = s.fixed := rfl

@[simp] theorem State.setBatches_fixed (s : State) (bs : List Batch) :
    (s.setBatches bs).fixed = s.fixed := rfl

@[simp] theorem State.modBatch_fixed (s : State) (n : Nat) (f : Batch → Batch) :
    (s.modBatch n f).fixed = s.fixed := rfl

@[simp] theorem State.setHeld_fixed (s : State) (k : Station) (i : Input) (v : Option Bool) :
    (s.setHeld k i v).fixed = s.fixed := rfl

@[simp] theorem State.setUnrecorded_fixed (s : State) (k : Station) (i : Input) (v : Bool) :
    (s.setUnrecorded k i v).fixed = s.fixed := rfl

@[simp] theorem State.setOverload_fixed (s : State) (k : Station) (o : OverloadBlank) :
    (s.setOverload k o).fixed = s.fixed := rfl

@[simp] theorem State.emit_fixed (s : State) (e : RunEvent) : (s.emit e).fixed = s.fixed := rfl

@[simp] theorem State.handCause_fixed (s : State) (c : HaltCause) : (s.handCause c).fixed = s.fixed := rfl

@[simp] theorem State.markRetest_fixed (s : State) : s.markRetest.fixed = s.fixed := rfl

@[simp] theorem State.markAdmit_fixed (s : State) : s.markAdmit.fixed = s.fixed := rfl

@[simp] theorem State.setPoll_fixed (s : State) (p : Option Poll) : (s.setPoll p).fixed = s.fixed := rfl

@[simp] theorem State.setSlot_fixed (s : State) (k : Option Station) : (s.setSlot k).fixed = s.fixed := rfl

@[simp] theorem State.markAlarm_fixed (s : State) : s.markAlarm.fixed = s.fixed := rfl

@[simp] theorem State.popEvent_fixed (s : State) : s.popEvent.fixed = s.fixed := rfl

theorem State.setChamber_fixed (s : State) (c : Chamber) (r : ChamberRec)
    (h : r.fixed = (s.chamber c).fixed) : (s.setChamber c r).fixed = s.fixed := by
  cases c <;> simp_all [State.setChamber, State.fixed, State.chamber, Trio.set, Trio.get]

@[simp] theorem State.setTarget_fixed (s : State) (c : Chamber) (t : Option LevelTarget) :
    (s.setTarget c t).fixed = s.fixed := State.setChamber_fixed s c _ rfl

@[simp] theorem State.notify_fixed (s : State) (k : NoticeKind) (o : Nat) (p : List Field) :
    (s.notify k o p).fixed = s.fixed := by
  rw [State.notify_eq]; rfl

@[simp] theorem State.setCommand_fixed (s : State) (i : Item) (c : CmdState) :
    (s.setCommand i c).fixed = s.fixed := by
  unfold State.setCommand; split <;> simp

@[simp] theorem State.orderStop_fixed (s : State) (i : Item) : (s.orderStop i).fixed = s.fixed := by
  simp [State.orderStop]

@[simp] theorem State.orderMove_fixed (s : State) (i : Item) (t : Target) :
    (s.orderMove i t).fixed = s.fixed := by
  simp [State.orderMove]

@[simp] theorem State.withdraw_fixed (s : State) (i : Item) : (s.withdraw i).fixed = s.fixed := rfl

@[simp] theorem State.withdrawMove_fixed (s : State) (i : Item) : (s.withdrawMove i).fixed = s.fixed := by
  unfold State.withdrawMove; repeat' split
  all_goals simp

/-! ### Faults -/

@[simp] theorem State.noticeRaised_fixed (s : State) (r : FaultRec) : (s.noticeRaised r).fixed = s.fixed := by
  simp [State.noticeRaised]

@[simp] theorem State.noticeReleased_fixed (s : State) (r : FaultRec) (b : Bool) :
    (s.noticeReleased r b).fixed = s.fixed := by
  simp [State.noticeReleased]

@[simp] theorem State.changeFault_fixed (s : State) (a b : FaultRec) : (s.changeFault a b).fixed = s.fixed := by
  unfold State.changeFault; split <;> simp

@[simp] theorem State.newFault_fixed (s : State) (k : FaultKind) (src : FaultSource) (l : Bool)
    (c : Capture) : (s.newFault k src l c).fixed = s.fixed := by
  simp only [State.newFault, State.noticeRaised_fixed]; rfl

@[simp] theorem State.raiseFault_fixed (s : State) (k : FaultKind) (src : FaultSource) (l n : Bool)
    (i : Item) (b : Option (Nat × Step)) : (s.raiseFault k src l n i b).fixed = s.fixed := by
  unfold State.raiseFault; repeat' split
  all_goals simp

@[simp] theorem State.handOwner_fixed (s : State) (o : Owner) (r : Reason) :
    (s.handOwner o r).fixed = s.fixed := by
  unfold State.handOwner; split <;> simp

@[simp] theorem State.stopForHold_fixed (s : State) (i : Item) : (s.stopForHold i).fixed = s.fixed := by
  unfold State.stopForHold; split <;> simp

@[simp] theorem State.holdGate_fixed (s : State) (k : Station) : (s.holdGate k).fixed = s.fixed := by
  unfold State.holdGate
  dsimp only
  split
  · rfl
  · split <;> split <;> simp

@[simp] theorem State.noticeHalt_fixed (s : State) : s.noticeHalt.fixed = s.fixed := by
  simp [State.noticeHalt]

@[simp] theorem State.endCause_fixed (s : State) (c : HaltCause) : (s.endCause c).fixed = s.fixed := by
  unfold State.endCause; split
  · simp only [State.noticeHalt_fixed]; rfl
  · rfl

@[simp] theorem State.testLocalStop_fixed (s : State) : s.testLocalStop.fixed = s.fixed := by
  unfold State.testLocalStop; split <;> simp

@[simp] theorem State.raiseInput_fixed (s : State) (k : Station) (i : Input) (l : Bool) :
    (s.raiseInput k i l).fixed = s.fixed := by
  unfold State.raiseInput; dsimp only; split <;> simp

@[simp] theorem State.inputActive_fixed (s : State) (k : Station) (i : Input) (b : Option Bool) :
    (s.inputActive k i b).fixed = s.fixed := by
  unfold State.inputActive; dsimp only; repeat' split
  all_goals simp

@[simp] theorem State.inputInactive_fixed (s : State) (k : Station) (i : Input) :
    (s.inputInactive k i).fixed = s.fixed := by
  unfold State.inputInactive; dsimp only; repeat' split
  all_goals simp

@[simp] theorem State.applyInput_fixed (s : State) (k : Station) (i : Input) (v : Bool) :
    (s.applyInput k i v).fixed = s.fixed := by
  unfold State.applyInput; dsimp only; repeat' split
  all_goals simp

@[simp] theorem State.takeOverload_fixed (s : State) (k : Station) (v : Bool) :
    (s.takeOverload k v).fixed = s.fixed := by
  unfold State.takeOverload; split <;> simp

@[simp] theorem State.applyInputs_fixed (s : State) (k : Station) (r : InputReport) :
    (s.applyInputs k r).fixed = s.fixed := by
  simp [State.applyInputs]

@[simp] theorem State.stopReleases_fixed (s : State) (k : Station) : (s.stopReleases k).fixed = s.fixed :=
  foldl_fixed _ (by simp) _ _

@[simp] theorem State.loseInputs_fixed (s : State) (k : Station) : (s.loseInputs k).fixed = s.fixed := by
  simp only [State.loseInputs, State.stopReleases_fixed]; rfl

@[simp] theorem State.recordUnrecorded_fixed (s : State) (k : Station) (i : Input) :
    (s.recordUnrecorded k i).fixed = s.fixed := by
  unfold State.recordUnrecorded; split <;> simp

@[simp] theorem State.recordAllUnrecorded_fixed (s : State) : s.recordAllUnrecorded.fixed = s.fixed :=
  foldl_fixed _ (fun s k => foldl_fixed _ (fun s i => State.recordUnrecorded_fixed s k i) _ s) _ _

@[simp] theorem State.dropFault_fixed (s : State) (r : FaultRec) (b : Bool) :
    (s.dropFault r b).fixed = s.fixed := by
  simp [State.dropFault]

@[simp] theorem State.afterRemoval_fixed (s : State) (r : FaultRec) : (s.afterRemoval r).fixed = s.fixed := by
  unfold State.afterRemoval; dsimp only; split <;> simp

@[simp] theorem State.escalate_fixed (s : State) (r : FaultRec) (k : Station) (m : Movement) :
    (s.escalate r k m).fixed = s.fixed := by
  simp [State.escalate]

@[simp] theorem State.releaseFault_fixed (s : State) (r : FaultRec) (k : Station) :
    (s.releaseFault r k).fixed = s.fixed := by
  unfold State.releaseFault; dsimp only; repeat' split
  all_goals simp

/-! ### Movements -/

@[simp] theorem State.tryPlace_fixed (s : State) (i : Item) : (s.tryPlace i).fixed = s.fixed := by
  unfold State.tryPlace; repeat' split
  all_goals simp

@[simp] theorem State.tryWithdraw_fixed (s : State) (i : Item) : (s.tryWithdraw i).fixed = s.fixed := by
  unfold State.tryWithdraw; dsimp only; repeat' split
  all_goals simp

@[simp] theorem State.retest_fixed (s : State) : s.retest.fixed = s.fixed := foldl_fixed _ (by simp) _ _

@[simp] theorem State.supersede_fixed (s : State) (a b : Owner) : (s.supersede a b).fixed = s.fixed := by
  unfold State.supersede; split <;> simp

@[simp] theorem State.requestNew_fixed (s : State) (i : Item) (t : Target) (o : Owner) :
    (s.requestNew i t o).2.fixed = s.fixed := by
  unfold State.requestNew; dsimp only; split
  · rfl
  · simp only [State.tryPlace_fixed]; rfl

@[simp] theorem State.requestJoin_fixed (s : State) (i : Item) (m : Movement) (o : Owner) :
    (s.requestJoin i m o).2.fixed = s.fixed := by
  unfold State.requestJoin; split <;> simp

@[simp] theorem State.requestReverse_fixed (s : State) (i : Item) (m : Movement) (t : Target) (o : Owner) :
    (s.requestReverse i m t o).2.fixed = s.fixed := by
  unfold State.requestReverse; dsimp only; repeat' split
  all_goals simp

@[simp] theorem State.requestMove_fixed (s : State) (i : Item) (t : Target) (o : Owner) :
    (s.requestMove i t o).2.fixed = s.fixed := by
  unfold State.requestMove; repeat' split
  all_goals simp

@[simp] theorem State.requestStop_fixed (s : State) (i : Item) : (s.requestStop i).fixed = s.fixed := by
  simp [State.requestStop]

@[simp] theorem State.failMovement_fixed (s : State) (i : Item) (k : FaultKind) :
    (s.failMovement i k).fixed = s.fixed := by
  unfold State.failMovement; split <;> simp

@[simp] theorem State.itemVerdict_fixed (s : State) (i : Item) (o : ItemOrder) (v : Verdict) :
    (s.itemVerdict i o v).fixed = s.fixed := by
  unfold State.itemVerdict; dsimp only; repeat' split
  all_goals simp

@[simp] theorem State.markUnanswered_fixed (s : State) (i : Item) (o : ItemOrder) :
    (s.markUnanswered i o).fixed = s.fixed := by
  unfold State.markUnanswered; repeat' split
  all_goals simp

@[simp] theorem State.handComplete_fixed (s : State) (i : Item) (m : Movement) :
    (s.handComplete i m).fixed = s.fixed := by
  unfold State.handComplete; split <;> simp

@[simp] theorem State.reportMovement_fixed (s : State) (i : Item) (p : Position) :
    (s.reportMovement i p).fixed = s.fixed := by
  unfold State.reportMovement; repeat' split
  all_goals simp

@[simp] theorem State.stopUncommanded_fixed (s : State) (i : Item) :
    (s.stopUncommanded i).fixed = s.fixed := by
  simp [State.stopUncommanded]

@[simp] theorem State.forgetPositions_fixed (s : State) (k : Station) :
    (s.forgetPositions k).fixed = s.fixed := foldl_fixed _ (by simp) _ _

@[simp] theorem State.endMovement_fixed (s : State) (i : Item) (r : Reason) :
    (s.endMovement i r).fixed = s.fixed := by
  unfold State.endMovement; split <;> simp

@[simp] theorem State.loseMovements_fixed (s : State) (k : Station) :
    (s.loseMovements k).fixed = s.fixed := foldl_fixed _ (by simp) _ _

@[simp] theorem State.localMovement_fixed (s : State) (i : Item) :
    (s.localMovement i).fixed = s.fixed := by
  unfold State.localMovement; split <;> simp

@[simp] theorem State.cancelMovements_fixed (s : State) : s.cancelMovements.fixed = s.fixed := rfl

@[simp] theorem State.loseReadings_fixed (s : State) (k : Station) : (s.loseReadings k).fixed = s.fixed := by
  cases k <;> rfl

/-! ### Faces -/

@[simp] theorem State.placeFace_fixed (s : State) (f : Face) (a : Aspect) :
    (s.placeFace f a).fixed = s.fixed := rfl

@[simp] theorem State.deriveFace_fixed (s : State) (f : Face) : (s.deriveFace f).fixed = s.fixed := by
  unfold State.deriveFace; dsimp only; split <;> simp

@[simp] theorem State.deriveFaces_fixed (s : State) : s.deriveFaces.fixed = s.fixed :=
  foldl_fixed _ (by simp) _ _

@[simp] theorem State.requestProceed_fixed (s : State) (f : Face) (n : Nat) (st : Step) :
    (s.requestProceed f n st).fixed = s.fixed := by
  simp [State.requestProceed]

@[simp] theorem State.answerStopWait_fixed (s : State) (f : Face) : (s.answerStopWait f).fixed = s.fixed := by
  unfold State.answerStopWait; repeat' split
  all_goals simp

@[simp] theorem State.requestFaceStop_fixed (s : State) (f : Face) (n : Nat) (st : Step) :
    (s.requestFaceStop f n st).fixed = s.fixed := by
  simp [State.requestFaceStop]

@[simp] theorem State.withdrawStopWait_fixed (s : State) (f : Face) (n : Nat) :
    (s.withdrawStopWait f n).fixed = s.fixed := by
  unfold State.withdrawStopWait; repeat' split
  all_goals simp

@[simp] theorem State.lampFailed_fixed (s : State) (f : Face) : (s.lampFailed f).fixed = s.fixed := by
  unfold State.lampFailed; dsimp only; repeat' split
  all_goals simp

@[simp] theorem State.reportFace_fixed (s : State) (f : Face) (r : FaceReport) :
    (s.reportFace f r).fixed = s.fixed := by
  unfold State.reportFace; dsimp only; repeat' split
  all_goals simp

@[simp] theorem State.reportFaces_fixed (s : State) (k : Station) (r : StationReport) :
    (s.reportFaces k r).fixed = s.fixed := by
  simp [State.reportFaces]

@[simp] theorem State.loseFaces_fixed (s : State) (k : Station) : (s.loseFaces k).fixed = s.fixed := rfl

@[simp] theorem State.dropFaceRequests_fixed (s : State) : s.dropFaceRequests.fixed = s.fixed :=
  foldl_fixed _ (by simp) _ _

/-! ### The station line -/

@[simp] theorem State.noticeStation_fixed (s : State) (k : Station) (v : Option Verdict) :
    (s.noticeStation k v).fixed = s.fixed := by
  simp [State.noticeStation]

@[simp] theorem State.stationMissing_fixed (s : State) (k : Station) :
    (s.stationMissing k).fixed = s.fixed := by
  simp [State.stationMissing]

@[simp] theorem State.stationUnsynced_fixed (s : State) (k : Station) :
    (s.stationUnsynced k).fixed = s.fixed := by
  simp [State.stationUnsynced]

@[simp] theorem State.stationGone_fixed (s : State) (k : Station) : (s.stationGone k).fixed = s.fixed := by
  simp [State.stationGone]

@[simp] theorem State.stationEffects_fixed (s : State) (k : Station) (st : StationState) :
    (s.stationEffects k st).fixed = s.fixed := by
  cases st <;> simp [State.stationEffects]

@[simp] theorem State.enterStation_fixed (s : State) (k : Station) (st : StationState) (n : Nat) :
    (s.enterStation k st n).fixed = s.fixed := by
  unfold State.enterStation; dsimp only; split <;> simp

@[simp] theorem State.countFailure_fixed (s : State) (k : Station) : (s.countFailure k).fixed = s.fixed := by
  simp [State.countFailure]

@[simp] theorem State.failCarried_fixed (s : State) (k : Station) : (s.failCarried k).fixed = s.fixed := by
  unfold State.failCarried; dsimp only; repeat' split
  all_goals simp

@[simp] theorem State.failPoll_fixed (s : State) (k : Station) : (s.failPoll k).fixed = s.fixed := by
  simp [State.failPoll]

@[simp] theorem State.abortRound_fixed (s : State) : s.abortRound.fixed = s.fixed := by
  unfold State.abortRound; dsimp only; split <;> simp

@[simp] theorem State.takeVerdict_fixed (s : State) (k : Station) (v : Option Verdict) :
    (s.takeVerdict k v).fixed = s.fixed := by
  unfold State.takeVerdict; dsimp only; repeat' split
  all_goals simp

@[simp] theorem State.resetTaken_fixed (s : State) (k : Station) : (s.resetTaken k).fixed = s.fixed := by
  simp [State.resetTaken]

@[simp] theorem State.resetRefused_fixed (s : State) (k : Station) (c : Option Command)
    (v : Option Verdict) : (s.resetRefused k c v).fixed = s.fixed := by
  unfold State.resetRefused; split <;> simp

@[simp] theorem State.unsyncAll_fixed (s : State) : s.unsyncAll.fixed = s.fixed :=
  foldl_fixed _ (fun s k => by split <;> simp) _ _

@[simp] theorem State.changeRate_fixed (s : State) (r : LineRate) : (s.changeRate r).fixed = s.fixed := by
  simp only [State.changeRate, State.unsyncAll_fixed]
  exact s.abortRound_fixed

@[simp] theorem State.emptyQueues_fixed (s : State) : s.emptyQueues.fixed = s.fixed :=
  foldl_fixed _ (by simp) _ _

@[simp] theorem State.lineHalted_fixed (s : State) (c : HaltCause) : (s.lineHalted c).fixed = s.fixed := by
  unfold State.lineHalted
  dsimp only
  have h : ∀ t : State, (t.setLine { t.line with pulse := true }).fixed = t.fixed := fun _ => rfl
  repeat' split
  all_goals simp [h]

@[simp] theorem State.placeStationReset_fixed (s : State) (k : Station) :
    (s.placeStationReset k).fixed = s.fixed := rfl

/-! ### Receipts and traffic -/

@[simp] theorem State.evaluateReceipts_fixed (s : State) : s.evaluateReceipts.fixed = s.fixed := by
  unfold State.evaluateReceipts; dsimp only; split
  · rfl
  · simp only [State.noticeReceipts, State.notify_fixed]; rfl

@[simp] theorem State.evaluateHold_fixed (s : State) : s.evaluateHold.fixed = s.fixed := by
  unfold State.evaluateHold; dsimp only; split
  · rfl
  · simp only [State.notify_fixed]; rfl

/-- An account with the day and the opening time it had. -/
theorem State.setAccount_fixed (s : State) (a : DayAccount) (h : a.day = s.toll.account.day)
    (g : a.opened = s.toll.account.opened) : (s.setAccount a).fixed = s.fixed := by
  simp [State.setAccount, State.fixed, h, g]

@[simp] theorem State.assess_fixed (s : State) (b : Batch) : (s.assess b).fixed = s.fixed :=
  State.setAccount_fixed s _ rfl rfl

@[simp] theorem State.setQueueOf_fixed (s : State) (d : Direction) (q : List Passage) :
    (s.setQueueOf d q).fixed = s.fixed := by
  cases d <;> rfl

@[simp] theorem State.evaluateQueue_fixed (s : State) (d : Direction) :
    (s.evaluateQueue d).fixed = s.fixed := by
  unfold State.evaluateQueue; dsimp only; split
  · rfl
  · simp only [State.notify_fixed]; cases d <;> rfl

@[simp] theorem State.discardOrder_fixed (s : State) : s.discardOrder.fixed = s.fixed := rfl

@[simp] theorem State.noticeAdmitted_fixed (s : State) (b : Batch) : (s.noticeAdmitted b).fixed = s.fixed := by
  simp [State.noticeAdmitted]

@[simp] theorem State.admit_fixed (s : State) (d : Direction) (ms : List Passage) :
    (s.admitBatch d ms).fixed = s.fixed := by
  unfold State.admitBatch; dsimp only; split
  · rfl
  · have h : ∀ (t : State) (bs : List Batch) (n : Nat),
        (t.setTraffic (admitHistory { t.traffic with batches := bs, nextBatch := n } d)).fixed = t.fixed := by
      intro t bs n; unfold admitHistory; split <;> rfl
    simp [h]

@[simp] theorem State.testOrder_fixed (s : State) (o : KeeperOrder) : (s.testOrder o).fixed = s.fixed := by
  unfold State.testOrder; repeat' split
  all_goals simp

@[simp] theorem State.evaluateAdmission_fixed (s : State) : s.evaluateAdmission.fixed = s.fixed := by
  unfold State.evaluateAdmission; repeat' split
  all_goals simp

@[simp] theorem State.returnMembers_fixed (s : State) (b : Batch) : (s.returnMembers b).fixed = s.fixed := by
  simp [State.returnMembers]

@[simp] theorem State.removeBatch_fixed (s : State) (n : Nat) : (s.removeBatch n).fixed = s.fixed := rfl

/-! ### Running a lockage -/

@[simp] theorem State.modStep_fixed (s : State) (n : Nat) (f : StepRec → StepRec) :
    (s.modStep n f).fixed = s.fixed := rfl

@[simp] theorem State.setPhase_fixed (s : State) (n : Nat) (p : Phase) : (s.setPhase n p).fixed = s.fixed := rfl

@[simp] theorem State.noticeSuspended_fixed (s : State) (b : Batch) (rs : List Reason) :
    (s.noticeSuspended b rs).fixed = s.fixed := by
  simp [State.noticeSuspended]

@[simp] theorem State.addReason_fixed (s : State) (n : Nat) (r : Reason) : (s.addReason n r).fixed = s.fixed := by
  unfold State.addReason; dsimp only; repeat' split
  all_goals simp

@[simp] theorem addAnswer_fixed (n : Nat) (a : MoveAnswer × State) : (addAnswer n a).fixed = a.2.fixed := by
  unfold addAnswer; split <;> simp

@[simp] theorem State.withdrawTarget_fixed (s : State) (st : Step) (p : Phase) :
    (s.withdrawTarget st p).fixed = s.fixed := by
  unfold State.withdrawTarget; split <;> simp

@[simp] theorem State.safeRequests_fixed (s : State) (n : Nat) (d : Direction) (st : Step) (p : Phase) :
    (s.safeRequests n d st p).fixed = s.fixed := by
  unfold State.safeRequests; split <;> simp

@[simp] theorem State.makeSafe_fixed (s : State) (b : Batch) : (s.makeSafe b).fixed = s.fixed := by
  unfold State.makeSafe; dsimp only; repeat' split
  all_goals simp

@[simp] theorem State.suspend_fixed (s : State) (n : Nat) (r : Reason) : (s.suspend n r).fixed = s.fixed := by
  unfold State.suspend; repeat' split
  all_goals simp

@[simp] theorem State.openSegment_fixed (s : State) (n : Nat) : (s.openSegment n).fixed = s.fixed := rfl

@[simp] theorem State.closeSegment_fixed (s : State) (n : Nat) : (s.closeSegment n).fixed = s.fixed := rfl

@[simp] theorem State.closeSegments_fixed (s : State) : s.closeSegments.fixed = s.fixed := rfl

@[simp] theorem State.startUpClose_fixed (s : State) : s.startUpClose.fixed = s.fixed := by
  unfold State.startUpClose; split <;> rfl

@[simp] theorem State.noticeStepDone_fixed (s : State) (b : Batch) (m : Bool) :
    (s.noticeStepDone b m).fixed = s.fixed := by
  simp [State.noticeStepDone]

@[simp] theorem State.endWaterStep_fixed (s : State) (b : Batch) (m : Bool) :
    (s.endWaterStep b m).fixed = s.fixed := by
  unfold State.endWaterStep; dsimp only; split <;> simp

@[simp] theorem State.noticeComplete_fixed (s : State) (b : Batch) (rs : List Receipt) (c : Nat) :
    (s.noticeComplete b rs c).fixed = s.fixed := by
  simp [State.noticeComplete]

@[simp] theorem State.completeBatch_fixed (s : State) (b : Batch) : (s.completeBatch b).fixed = s.fixed := by
  simp [State.completeBatch]

@[simp] theorem State.endGateStep_fixed (s : State) (b : Batch) : (s.endGateStep b).fixed = s.fixed := by
  unfold State.endGateStep; dsimp only; split <;> simp

@[simp] theorem State.endStep_fixed (s : State) (b : Batch) : (s.endStep b).fixed = s.fixed := by
  unfold State.endStep; split <;> simp

@[simp] theorem State.requestClose_fixed (s : State) (n : Nat) : (s.requestClose n).fixed = s.fixed := by
  unfold State.requestClose; dsimp only; repeat' split
  all_goals simp

@[simp] theorem State.enterFlowing_fixed (s : State) (n : Nat) : (s.enterFlowing n).fixed = s.fixed := rfl

@[simp] theorem State.nameTarget_fixed (s : State) (st : Step) : (s.nameTarget st).fixed = s.fixed := by
  unfold State.nameTarget; split <;> simp

@[simp] theorem State.requestOpen_fixed (s : State) (b : Batch) : (s.requestOpen b).fixed = s.fixed := by
  unfold State.requestOpen; dsimp only; repeat' split
  all_goals simp

@[simp] theorem State.levelWait_fixed (s : State) (n : Nat) : (s.levelWait n).fixed = s.fixed := rfl

@[simp] theorem State.stepFault_fixed (s : State) (b : Batch) (k : FaultKind) (c : Chamber) (r : Reason) :
    (s.stepFault b k c r).fixed = s.fixed := by
  simp [State.stepFault]

@[simp] theorem State.buildList_fixed (s : State) (b : Batch) (r : StepRec) (c : Chamber)
    (t : LevelTarget) : (s.buildList b r c t).fixed = s.fixed := by
  unfold State.buildList; split <;> simp

@[simp] theorem State.makeRoom_fixed (s : State) (b : Batch) (x : SubStep) :
    (s.makeRoom b x).fixed = s.fixed := rfl

@[simp] theorem State.noRoom_fixed (s : State) (b : Batch) (r : StepRec) (i : Item) :
    (s.noRoom b r i).fixed = s.fixed := by
  unfold State.noRoom; dsimp only; repeat' split
  all_goals simp

@[simp] theorem State.roomCheck_fixed (s : State) (b : Batch) (r : StepRec) (i : Item) :
    (s.roomCheck b r i).fixed = s.fixed := by
  unfold State.roomCheck; split <;> simp

@[simp] theorem State.waterTests_fixed (s : State) (b : Batch) (r : StepRec) (i : Item) (e : WaterEnd) :
    (s.waterTests b r i e).fixed = s.fixed := by
  unfold State.waterTests; repeat' split
  all_goals simp

@[simp] theorem State.closeWater_fixed (s : State) (b : Batch) : (s.closeWater b).fixed = s.fixed := by
  simp [State.closeWater]

@[simp] theorem State.enterOpen_fixed (s : State) (b : Batch) (g : Station) :
    (s.enterOpen b g).fixed = s.fixed := by
  simp [State.enterOpen]

@[simp] theorem State.tryReady_fixed (s : State) (b : Batch) (g : Station) :
    (s.tryReady b g).fixed = s.fixed := by
  unfold State.tryReady; dsimp only; repeat' split
  all_goals simp

@[simp] theorem State.enterStopping_fixed (s : State) (b : Batch) (g : Station) :
    (s.enterStopping b g).fixed = s.fixed := by
  simp [State.enterStopping]

@[simp] theorem State.moveReady_fixed (s : State) (b : Batch) (g : Station) :
    (s.moveReady b g).fixed = s.fixed := by
  simp [State.moveReady]

@[simp] theorem State.takeClaims_fixed (s : State) (b : Batch) : (s.takeClaims b).fixed = s.fixed := by
  unfold State.takeClaims; dsimp only; repeat' split
  all_goals simp

@[simp] theorem State.batchRoundEnd_fixed (s : State) (n : Nat) : (s.batchRoundEnd n).fixed = s.fixed := by
  unfold State.batchRoundEnd; dsimp only; repeat' split
  all_goals simp

@[simp] theorem State.batchGateReport_fixed (s : State) (n : Nat) :
    (s.batchGateReport n).fixed = s.fixed := by
  unfold State.batchGateReport; repeat' split
  all_goals simp

@[simp] theorem State.takeComplete_fixed (s : State) (n : Nat) (i : Item) (t : Target) :
    (s.takeComplete n i t).fixed = s.fixed := by
  unfold State.takeComplete; repeat' split
  all_goals simp

@[simp] theorem State.takeTaken_fixed (s : State) (n : Nat) (i : Item) (t : Target) :
    (s.takeTaken n i t).fixed = s.fixed := by
  unfold State.takeTaken; dsimp only; repeat' split
  all_goals simp

@[simp] theorem State.takeJoined_fixed (s : State) (i : Item) : (s.takeJoined i).fixed = s.fixed := by
  unfold State.takeJoined; split <;> simp

@[simp] theorem State.takeFaceStopped_fixed (s : State) (n : Nat) (st : Step) :
    (s.takeFaceStopped n st).fixed = s.fixed := by
  unfold State.takeFaceStopped; repeat' split
  all_goals simp

@[simp] theorem State.takeProceed_fixed (s : State) (f : Face) : (s.takeProceed f).fixed = s.fixed :=
  foldl_fixed _ (fun s b => by repeat' split
                               all_goals simp) _ _

@[simp] theorem State.suspendWhere_fixed (s : State) (p : Batch → Bool) (r : Reason) :
    (s.suspendWhere p r).fixed = s.fixed := foldl_fixed _ (by simp) _ _

/-- Each hand-over keeps `Fixed`. -/
@[simp] theorem State.deliver_fixed (s : State) (e : RunEvent) : (s.deliver e).fixed = s.fixed := by
  cases e <;> simp only [State.deliver, State.takeComplete_fixed, State.suspend_fixed,
    State.takeTaken_fixed, State.takeJoined_fixed, State.takeFaceStopped_fixed, State.takeProceed_fixed,
    State.suspendWhere_fixed, State.closeSegments_fixed]
  · exact foldl_fixed _ (by simp) _ _
  · exact (foldl_fixed _ (by simp) _ _).trans (by simp)

/-! ### The end of a step -/

theorem State.settleOne_fixed (s t : State) (h : s.settleOne = some t) : t.fixed = s.fixed := by
  unfold State.settleOne at h
  repeat' split at h
  all_goals first | (cases h; done) | (obtain rfl := Option.some.inj h; simp; done) | skip
  · obtain rfl := Option.some.inj h; simp only [State.evaluateAdmission_fixed]; rfl
  · obtain rfl := Option.some.inj h; simp only [State.retest_fixed]; rfl

@[simp] theorem State.settleLoop_fixed (n : Nat) : ∀ s, (State.settleLoop n s).fixed = s.fixed := by
  induction n with
  | zero => exact fun _ => rfl
  | succ n ih =>
    intro s
    unfold State.settleLoop
    split
    · rename_i t h; exact (ih t).trans (s.settleOne_fixed t h)
    · rfl

@[simp] theorem State.enterHalt_fixed (s : State) (c : HaltCause) : (s.enterHalt c).fixed = s.fixed := by
  simp only [State.enterHalt, State.noticeHalt_fixed]
  refine (foldl_fixed _ (by simp) _ _).trans ?_
  simp only [State.dropFaceRequests_fixed, State.cancelMovements_fixed, State.lineHalted_fixed]
  rfl

@[simp] theorem State.takeCause_fixed (s : State) (c : HaltCause) : (s.takeCause c).fixed = s.fixed := by
  unfold State.takeCause; repeat' split
  · rfl
  · simp only [State.noticeHalt_fixed]; rfl
  · simp

@[simp] theorem State.takeCauses_fixed (s : State) : s.takeCauses.fixed = s.fixed :=
  foldl_fixed _ (by simp) _ _

@[simp] theorem State.indications_fixed (s : State) : s.indications.fixed = s.fixed := by
  simp [State.indications]

/-- The end of a step keeps `Fixed`. -/
@[simp] theorem State.finish_fixed (s : State) : s.finish.fixed = s.fixed := by
  simp [State.finish]

@[simp] theorem State.commit_fixed (r : Retained) (s : State) : (s.commit r).fixed = s.fixed := by
  unfold State.commit; split <;> rfl

end Sys2Proof.Machine
end

