-- ==== Sys2Proof/Laws/Requests.lean ====
section
/-! SUPPORT. What a request, an event and a reply leave: the whole state after a request whose owner leaves a
state named (`State.answering`), and what every request leaves of `Fixed`. -/

namespace Sys2Proof.Machine

@[simp] theorem State.popRequest_retainedOf (s : State) : s.popRequest.retainedOf = s.retainedOf := rfl

@[simp] theorem State.setConsole_retainedOf (s : State) (c : Console) (h : c.mask = s.console.mask) :
    (s.setConsole c).retainedOf = s.retainedOf := by
  simp [State.setConsole, State.retainedOf, State.chamber, h]

theorem State.commit_eq (before : Retained) (s : State) :
    s.commit before = { s with store := { s.store with
      updates := if s.retainedOf = before then s.store.updates
        else s.store.updates ++ [s.retainedOf] } } := by
  unfold State.commit
  split <;> rfl

/-- An event that changes nothing retained leaves what its act leaves. -/
theorem State.event_plain (s : State) (act : State → State) (hp : s.powered = true)
    (h : (act s).retainedOf = s.retainedOf) : s.event act = act s := by
  simp [State.event, hp, State.commit, h]

theorem State.event_unpowered (s : State) (act : State → State) (hp : s.powered = false) :
    s.event act = s := by
  simp [State.event, hp]

@[simp] theorem State.event_fixed (s : State) (act : State → State) (hp : s.powered = true) :
    (s.event act).fixed = (act s).fixed := by
  simp [State.event, hp]

/-- A request that cannot be handed on changes nothing. -/
theorem State.request_not_taken (s : State) (i : Instr) (tag kind : Octet) (act : State → Result)
    (h : s.takesRequest i = false) : s.request i tag kind act = s := by
  simp [State.request, h]

theorem State.request_taken (s : State) (i : Instr) (tag kind : Octet) (act : State → Result)
    (h : s.takesRequest i = true) :
    s.request i tag kind act = s.answerRequest tag kind false act := by
  simp [State.request, h]

/-- The whole state after a request whose owner leaves `u`, with the request's frame gone from the order. -/
theorem State.answerRequest_eq (s u : State) (tag kind : Octet) (act : State → Result)
    (v : Option RefuseCode) (data : List Field)
    (h : act s.popRequest = { verdict := v, data := data, state := u.popRequest })
    (ho : u.console.order = s.console.order) (hs : u.store = s.store) :
    s.answerRequest tag kind false act = s.answering u tag (kind ||| 0x80#8) v data := by
  simp only [State.answerRequest, h, State.commit_eq, State.popRequest_retainedOf, replyOf, replyWaits,
    State.answering]
  by_cases hr : u.retainedOf = s.retainedOf <;>
    simp [hr, State.popRequest, State.setConsole, ho, hs]

/-- When the owner leaves nothing retained changed, the reply waits for no update. -/
theorem State.answering_plain (s u : State) (tag kind : Octet) (v : Option RefuseCode) (data : List Field)
    (h : u.retainedOf = s.retainedOf) (ho : u.console.order = s.console.order) (hs : u.store = s.store) :
    s.answering u tag kind v data = u.replied tag kind v data := by
  simp [State.answering, State.replied, h, ho, hs]

/-- The whole state after a request that is refused, or that only reads. -/
theorem State.answerRequest_read (s : State) (tag kind : Octet) (act : State → Result)
    (v : Option RefuseCode) (data : List Field)
    (h : act s.popRequest = { verdict := v, data := data, state := s.popRequest }) :
    s.answerRequest tag kind false act = s.replied tag (kind ||| 0x80#8) v data := by
  rw [s.answerRequest_eq s tag kind act v data h rfl rfl, s.answering_plain s _ _ _ _ rfl rfl rfl]

@[simp] theorem State.popRequest_fixed (s : State) :
    s.popRequest.fixed = { s.fixed with order := s.console.order.drop 1 } := rfl

/-- What every request leaves of `Fixed`: what its owner's act leaves. -/
theorem State.answerRequest_fixed (s : State) (tag kind : Octet) (b : Bool) (act : State → Result) :
    (s.answerRequest tag kind b act).fixed = (act s.popRequest).state.fixed := by
  have h : ∀ (t : State) (r : Option Reply),
      (t.setConsole { t.console with reply := r }).fixed = t.fixed := fun _ _ => rfl
  simp only [State.answerRequest, h, State.commit_fixed]

/-- The reply every request leaves. -/
theorem State.answerRequest_reply (s : State) (tag kind : Octet) (act : State → Result) :
    (s.answerRequest tag kind false act).replyIs tag (kind ||| 0x80#8) (act s.popRequest).verdict
      (act s.popRequest).data := by
  simp [State.answerRequest, State.replyIs, State.setConsole, replyOf]

end Sys2Proof.Machine
end

