-- ==== Sys2Proof/Laws/Settle.lean ====
section
/-! SUPPORT. The end of a step whose state has nothing to hand over: only the faces and the indications
follow it (`State.settlesTo`). -/

namespace Sys2Proof.Machine

/-! ### Nothing to hand over -/

/-- Nothing waits to be handed over, but a mark for an evaluation that admits nothing. -/
def State.quiet (s : State) : Prop :=
  s.hand.toRun = [] ∧ s.hand.toHalt = [] ∧ s.hand.retest = false ∧
    (s.hand.evaluate = true → s.admitsNothing) ∧
      ∀ b ∈ s.traffic.batches, b.suspended = true ∨ b.phase? ≠ some .claiming

/-- The state with its hand-overs taken. -/
def State.emptied (s : State) : State :=
  { s with hand := { toRun := [], toHalt := [], retest := false, evaluate := false } }

theorem State.calm_quiet (s : State) (h : s.calm) : s.quiet := by
  obtain ⟨h, hb⟩ := h
  exact ⟨by simp [h], by simp [h], by simp [h], by simp [h], hb⟩

theorem State.evaluateAdmission_none (s : State) (h : s.admitsNothing) : s.evaluateAdmission = s := by
  rcases h with h | ⟨h, ho⟩ | ⟨h, ho⟩ <;> simp [State.evaluateAdmission, *]

theorem State.no_claim (s : State)
    (h : ∀ b ∈ s.traffic.batches, b.suspended = true ∨ b.phase? ≠ some .claiming) :
    s.traffic.batches.find? s.canClaim = none := by
  rw [List.find?_eq_none]
  intro b hb hc
  simp only [State.canClaim, Bool.and_eq_true, Bool.not_eq_true', beq_iff_eq] at hc
  rcases h b hb with h | h
  · simp [h] at hc
  · exact h hc.1.2

theorem State.settleLoop_idle (n : Nat) (s : State) (h : s.settleOne = none) :
    State.settleLoop n s = s := by
  cases n <;> simp [State.settleLoop, h]

theorem State.settleOne_emptied (s : State) (h : s.quiet) : s.emptied.settleOne = none := by
  have hb : s.emptied.traffic.batches.find? s.emptied.canClaim = none := s.emptied.no_claim h.2.2.2.2
  simp only [State.settleOne, hb]
  simp [State.emptied]

theorem State.settleLoop_quiet (n : Nat) (s : State) (h : s.quiet) :
    State.settleLoop (n + 2) s = s.emptied := by
  obtain ⟨h1, h2, h3, h4, hb⟩ := h
  have hb' := s.no_claim hb
  have he : s.hand = { toRun := [], toHalt := [], retest := false, evaluate := s.hand.evaluate } := by
    cases hh : s.hand
    simp_all
  have ht := s.settleOne_emptied ⟨h1, h2, h3, h4, hb⟩
  cases ha : s.hand.evaluate
  · have : s.emptied = s := by
      rw [ha] at he
      unfold State.emptied
      rw [← he]
    rw [this] at ht ⊢
    exact State.settleLoop_idle _ _ ht
  · have h1' : s.settleOne = some s.emptied := by
      have := State.evaluateAdmission_none s.emptied (h4 ha)
      simp only [State.settleOne, h1, hb', ha, if_true]
      simp only [State.emptied] at this
      simp only [h2, h3, this, State.emptied]
    rw [State.settleLoop, h1']
    exact State.settleLoop_idle _ _ ht

/-- The end of a step with nothing to hand over. -/
theorem State.finish_quiet (s : State) (h : s.quiet) : s.finish = s.emptied.deriveFaces.indications := by
  have hc : s.emptied.takeCauses = s.emptied := rfl
  have hl := State.settleLoop_idle settleFuel s.emptied (s.settleOne_emptied h)
  have hs : State.settleLoop settleFuel s = s.emptied := s.settleLoop_quiet 398 h
  simp only [State.finish, hs, hc, hl]

/-! ### Faces and indications -/

theorem State.settlesTo_refl (s : State) : s.settlesTo s := ⟨rfl, fun _ => ⟨rfl, rfl, rfl⟩, fun _ => rfl⟩

theorem State.settlesTo_trans {s t u : State} (h : s.settlesTo t) (k : t.settlesTo u) : s.settlesTo u := by
  obtain ⟨h1, h2, h3⟩ := h
  obtain ⟨k1, k2, k3⟩ := k
  refine ⟨?_, fun j => ⟨(k2 j).1.trans (h2 j).1, (k2 j).2.1.trans (h2 j).2.1, (k2 j).2.2.trans (h2 j).2.2⟩,
    fun f => ?_⟩
  · rw [k1]
    simp only
    rw [h1]
  · rw [k3 f, h3 f]

theorem filter_placeEntry_face (sd : Side) (a : Aspect) (q : List QueueEntry) :
    (placeEntry (.face sd a) q).filter (fun e => !isFaceEntry e) = q.filter fun e => !isFaceEntry e := by
  have hface : ∀ c : Command, slotCode c = slotCode (.face sd a) → isStopCommand c = false ∧
      ∀ f p, isFaceEntry ⟨c, f, p⟩ = true := by
    intro c hc
    cases c with
    | item i o => cases i <;> cases sd <;> simp [slotCode] at hc
    | face => exact ⟨rfl, fun _ _ => rfl⟩
    | reset => cases sd <;> simp [slotCode] at hc
  induction q with
  | nil => simp [placeEntry, freshEntry, isFaceEntry]
  | cons e rest ih =>
    simp only [placeEntry, sameSlot, beq_iff_eq]
    split
    · rename_i hs
      obtain ⟨h1, h2⟩ := hface _ hs
      have : isFaceEntry e = true := h2 e.failed e.inPoll
      simp [h1, freshEntry, this]
      simp [isFaceEntry]
    · simp [List.filter_cons, ih]

theorem State.settlesTo_notify (s : State) (k : NoticeKind) (o : Nat) (p : List Field) :
    s.settlesTo (s.notify k o p) := by
  rw [State.notify_eq]
  exact ⟨rfl, fun _ => ⟨rfl, rfl, rfl⟩, fun _ => rfl⟩

theorem State.settlesTo_placeFace (s : State) (f : Face) (a : Aspect) : s.settlesTo (s.placeFace f a) := by
  refine ⟨rfl, fun k => ?_, fun _ => rfl⟩
  simp only [State.placeFace, State.station_setQueue]
  split
  · subst_vars; exact ⟨rfl, rfl, filter_placeEntry_face _ _ _⟩
  · exact ⟨rfl, rfl, rfl⟩

theorem State.settlesTo_deriveFace (s : State) (f : Face) : s.settlesTo (s.deriveFace f) := by
  unfold State.deriveFace
  dsimp only
  split
  · exact s.settlesTo_refl
  · refine State.settlesTo_trans (t := s.setFace f { s.face f with commanded := s.aspectFor f })
      ⟨rfl, fun _ => ⟨rfl, rfl, rfl⟩, fun g => ?_⟩ (State.settlesTo_placeFace _ _ _)
    rw [State.face_setFace]
    split
    · subst_vars; rfl
    · rfl

theorem State.settlesTo_foldl {α : Type} (f : State → α → State) (h : ∀ (s : State) (a : α), s.settlesTo (f s a))
    (xs : List α) : ∀ s : State, s.settlesTo (xs.foldl f s) := by
  induction xs with
  | nil => exact State.settlesTo_refl
  | cons x xs ih => exact fun s => State.settlesTo_trans (h s x) (ih _)

theorem State.settlesTo_deriveFaces (s : State) : s.settlesTo s.deriveFaces :=
  State.settlesTo_foldl _ State.settlesTo_deriveFace _ _

theorem State.settlesTo_evaluateQueue (s : State) (d : Direction) : s.settlesTo (s.evaluateQueue d) := by
  unfold State.evaluateQueue
  dsimp only
  split
  · exact s.settlesTo_refl
  · refine State.settlesTo_trans ?_ (State.settlesTo_notify _ _ _ _)
    cases d <;> exact ⟨rfl, fun _ => ⟨rfl, rfl, rfl⟩, fun _ => rfl⟩

theorem State.settlesTo_evaluateHold (s : State) : s.settlesTo s.evaluateHold := by
  unfold State.evaluateHold
  dsimp only
  split
  · exact s.settlesTo_refl
  · exact State.settlesTo_trans ⟨rfl, fun _ => ⟨rfl, rfl, rfl⟩, fun _ => rfl⟩ (State.settlesTo_notify _ _ _ _)

theorem State.settlesTo_indications (s : State) : s.settlesTo s.indications :=
  State.settlesTo_trans (State.settlesTo_trans (State.settlesTo_evaluateQueue _ _)
    (State.settlesTo_evaluateQueue _ _)) (State.settlesTo_evaluateHold _)

/-- The end of a step with nothing to hand over, but for the faces and the indications. -/
theorem State.settlesTo_finish (s : State) (h : s.quiet) : s.emptied.settlesTo s.finish := by
  rw [s.finish_quiet h]
  exact State.settlesTo_trans (State.settlesTo_deriveFaces _) (State.settlesTo_indications _)

theorem State.settlesTo_commit (r : Retained) (s : State) : s.settlesTo (s.commit r) := by
  rw [State.commit_eq]
  exact ⟨rfl, fun _ => ⟨rfl, rfl, rfl⟩, fun _ => rfl⟩

/-- A request whose owner's act leaves `u` and ends the step with nothing to hand over. -/
theorem State.settlesTo_answerRequest (s : State) (tag kind : Octet) (b : Bool) (act : State → Result) :
    (act s.popRequest).state.settlesTo (s.answerRequest tag kind b act) :=
  State.settlesTo_trans (State.settlesTo_commit _ _)
    ⟨rfl, fun _ => ⟨rfl, rfl, rfl⟩, fun _ => rfl⟩

end Sys2Proof.Machine
end

