-- ==== Sys2Proof/Tests/Slice0.lean ====
section
/-! SUPPORT. Tests: small states, the checks of WellFormed and of a frame, the worked examples of the spec,
one or two steps of each command, and for each statement with hypotheses a state and operands that meet
them. -/

namespace Sys2Proof.Tests

open Sys2Proof Sys2Proof.Machine

set_option Elab.async false

/-! ### States to test on -/

/-- The geometry of the examples: 110.0 m long, 12.0 m wide, 3.00 m over the sill, 1,400 square metres. -/
def geometry (low full high crest : Nat) : ChamberConfig :=
  { usable := 1100, width := 120, sill := 300, area := 1400, low := low, full := full, high := high
    crest := crest }

def chamberAt (g : ChamberConfig) (v : Nat) : ChamberRec :=
  { config := some g, trust := .both, upper := some v, lower := some v, agreed := some v
    condition := .normal, dispute := 0, high := false, crest := false, target := none, targetCount := 0
    surge := none, lastKnown := some v }

/-- A tariff edition: 10.00 up to 40.0 m and 30.00 up to 135.0 m, 1.20 for 1,000 cubic metres. -/
def edition (n : Nat) : Edition :=
  { number := n, bands := [⟨400, 1000⟩, ⟨1350, 3000⟩], rates := [10, 20, 30, 40, 50, 60, 70, 80]
    waterRate := 120, nightStart := 1200, nightEnd := 300, nightPercent := 25, priorityPercent := 50
    minDues := 500, maxDues := 900000 }

/-- A flight at work: RUNNING in KEEPER, every station ONLINE, everything shut, levels read. -/
def live : State :=
  let s := State.reset
  { s with
    halt := { s.halt with state := .running, causes := [] }
    console := { s.console with notices := [] }
    line := { s.line with stations := Quad.const { state := .online, failed := 0, queue := [] }, pulse := false }
    level := { s.level with
      chambers := ⟨chamberAt (geometry 14200 17800 18000 18300) 14200,
        chamberAt (geometry 10600 14200 14400 14600) 10600, chamberAt (geometry 7000 10600 10800 11000) 7000⟩
      headReading := some 17800, tailReading := some 7000, headLevel := some 17800, tailLevel := some 7000
      riverHold := false }
    mach := { s.mach with
      items := Ten.const { position := some .shut, command := .none, movement := none }
      inputs := Quad.const ⟨some false, some false, some false, some false⟩ }
    traffic := { s.traffic with mode := .keeper }
    toll := { s.toll with current := some (edition 1) } }

/-- The state a command leaves. -/
def after (c : Instr) (s : State) : State :=
  match exec c s with
  | .next t => t
  | _ => s

/-- The verdict and the data of the reply that stands. -/
def answer (s : State) : Option (Option RefuseCode × List Field) :=
  s.console.reply.map fun r => (r.verdict, r.data)

/-- The state in which the part can take the next request. -/
def idle (s : State) : State := { s with console := { s.console with reply := none, order := [] } }

def vessel (c : Octet) (direction length priority : Nat) : VesselArgs :=
  { reference := [c], direction := direction, length := length, beam := 60, draught := 120
    deadweight := 300, cargo := 2, priority := priority, reserved := 0 }

/-- A queued passage, its reference told apart by its number. -/
def boat (n : Nat) (p : Priority) (stamp length skips : Nat) : Passage :=
  { number := n, reference := [BitVec.ofNat 8 n], direction := .up, length := length, beam := 60
    draught := 120, deadweight := 300, cargo := 2, priority := p, arrivalDay := 1, arrivalTime := 0
    stamp := stamp, skips := skips, state := .queued, location := .queue, batch := none }

def aboard (b pos : Nat) (p : Passage) : Passage :=
  { p with state := .admitted, location := .approach, batch := some (b, pos) }

/-- The queue 7.9 begins with. -/
def queued : State :=
  { live with traffic := { live.traffic with
      up := [boat 41 .priority 210 550 0, boat 38 .ordinary 205 385 1, boat 40 .ordinary 209 120 0]
      nextPassage := 42, nextStamp := 211 } }

def stepIn (ph : Phase) (claims : List Chamber) : StepRec :=
  { phase := ph, claims := claims, rounds := 0, roomMade := [], waterLimit := none, moveWait := none
    overdueSent := false, readySent := false }

/-- Upbound batch 9 of passages 41 and 42 at a run position. -/
def batchAt (n : Nat) (p : StepNo) (r : StepRec) (reasons : List Reason) : Batch :=
  { number := n, direction := .up
    members := [aboard n 1 (boat 41 .priority 210 550 0), aboard n 2 (boat 42 .service 211 120 0)]
    admitDay := 1, admitTime := 0, night := false, edition := 1, reasons := reasons, position := p
    moved := false, preparation := [], meter := ⟨0, none, false, false⟩, entered := false, cleared := false
    step := some r }

def withBatches (bs : List Batch) (s : State) : State :=
  { s with traffic := { s.traffic with
      batches := bs, nextPassage := 43, nextStamp := 212, nextBatch := 10, lastDirection := some .up
      consecutive := 1 } }

/-- Batch 9 stands at U2 with G3 OPEN and PROCEED reported at its entry face. -/
def entering : State :=
  let r : StepRec := { stepIn .opened [.c3] with moveWait := some 9000, readySent := true }
  let s := withBatches [batchAt 9 .two r []] queued
  let s := s.setItem (.gate .k3) { position := some .opened, command := .opens, movement := none }
  let s := s.setFace ⟨.k3, .lower⟩
    { commanded := .proceed, reported := some .proceed, stopSince := none, lamp := some true
      request := some (9, .main .up .two), stopWait := none }
  { s with traffic := { s.traffic with up := [boat 38 .ordinary 205 385 1, boat 40 .ordinary 209 120 0] } }

/-- Batch 9 stands suspended by request at U1, its claims released. -/
def resting : State :=
  withBatches [batchAt 9 .one (stepIn .claiming []) [.byRequest]]
    { queued with traffic := { queued.traffic with
        up := [boat 40 .ordinary 209 120 0, boat 43 .ordinary 212 385 0] } }

/-- A movement of S2 to OPEN in a phase, its limits given. -/
def moving (ph : MovePhase) (start travel : Option Nat) (serial : Nat) : Movement :=
  { target := .opened, phase := ph, queued := false, unanswered := false, placed := ph != .awaitTaken
    travel := if ph = .travel then .since 0 else .notBegun, startLimit := start, travelLimit := travel
    resumptions := 0, owner := .batch 17 (.main .up .three), serial := serial }

/-- The flight at work with every face reported STOP and its lamp PROVED, in the open slot of a round. -/
def shown : State :=
  let f : FaceRec := { commanded := .stop, reported := some .stop, stopSince := some 0, lamp := some true
                       request := none, stopWait := none }
  { live with
    signal := { live.signal with faces := ⟨Quad.const f, Quad.const f⟩ }
    line := { live.line with slot := some .k3 } }

/-! ### The checks of WellFormed: a number too wide for each field, and ill-formed records -/

/-- A station's report of rest: everything SHUT, STOP on both faces, no input active. -/
def quiet (k : Station) : StationReport :=
  { gate := .shut, sluice := .shut, byWash := (stationByWash k).map fun _ => .shut
    inputs := ⟨false, false, false, false⟩, upper := ⟨.stop, true⟩, lower := ⟨.stop, true⟩
    inLocal := false }

def goodChamber : ChamberArgs := ⟨1, 1100, 120, 300, 1400, 7000, 10600, 10800, 11000⟩

theorem test_ill_formed_set_chamber :
    ([.setChamber 0#8 { goodChamber with chamber := 256 },
      .setChamber 0#8 { goodChamber with usable := 65536 },
      .setChamber 0#8 { goodChamber with width := 256 },
      .setChamber 0#8 { goodChamber with sill := 65536 },
      .setChamber 0#8 { goodChamber with area := 65536 },
      .setChamber 0#8 { goodChamber with low := 65536 },
      .setChamber 0#8 { goodChamber with full := 65536 },
      .setChamber 0#8 { goodChamber with high := 65536 },
      .setChamber 0#8 { goodChamber with crest := 65536 }] : List Instr).all (fun i => !i.wellFormed) = true ∧
    ([.setChamber 0#8 goodChamber] : List Instr).all (·.wellFormed) = true := by
  decide +kernel

theorem test_ill_formed_set_level_settings :
    ([.setLevelSettings 0#8 { defaultLevelSettings with freeboard := 65536 },
      .setLevelSettings 0#8 { defaultLevelSettings with equalTolerance := 256 },
      .setLevelSettings 0#8 { defaultLevelSettings with agreementTolerance := 65536 },
      .setLevelSettings 0#8 { defaultLevelSettings with bandTolerance := 65536 },
      .setLevelSettings 0#8 { defaultLevelSettings with settleCount := 256 },
      .setLevelSettings 0#8 { defaultLevelSettings with surgeBlank := 65536 }] : List Instr).all (fun i => !i.wellFormed) = true ∧
    ([.setLevelSettings 0#8 defaultLevelSettings] : List Instr).all (·.wellFormed) = true := by
  decide +kernel

theorem test_ill_formed_set_movement_limits :
    ([.setMovementLimits 0#8 { defaultMovementLimits with gateStart := 65536 },
      .setMovementLimits 0#8 { defaultMovementLimits with pathStart := 65536 },
      .setMovementLimits 0#8 { defaultMovementLimits with gateTravel := 65536 },
      .setMovementLimits 0#8 { defaultMovementLimits with pathTravel := 65536 },
      .setMovementLimits 0#8 { defaultMovementLimits with changeover := 65536 }] : List Instr).all (fun i => !i.wellFormed) = true ∧
    ([.setMovementLimits 0#8 defaultMovementLimits] : List Instr).all (·.wellFormed) = true := by
  decide +kernel

theorem test_ill_formed_set_input_modes :
    ([.setInputModes 0#8 ⟨256, 0, 0, 0⟩,
      .setInputModes 0#8 ⟨0, 256, 0, 0⟩,
      .setInputModes 0#8 ⟨0, 0, 256, 0⟩,
      .setInputModes 0#8 ⟨0, 0, 0, 256⟩] : List Instr).all (fun i => !i.wellFormed) = true ∧
    ([.setInputModes 0#8 ⟨255, 255, 255, 255⟩] : List Instr).all (·.wellFormed) = true := by
  decide +kernel

theorem test_ill_formed_set_fault_timing :
    ([.setFaultTiming 0#8 { defaultFaultTiming with overloadBlank := 256 },
      .setFaultTiming 0#8 { defaultFaultTiming with resumeDelay := 65536 },
      .setFaultTiming 0#8 { defaultFaultTiming with resumeLimit := 256 }] : List Instr).all (fun i => !i.wellFormed) = true ∧
    ([.setFaultTiming 0#8 defaultFaultTiming] : List Instr).all (·.wellFormed) = true := by
  decide +kernel

theorem test_ill_formed_octet_fields :
    ([.setTrust 0#8 256 0,
      .setTrust 0#8 0 256,
      .readChamber 0#8 256,
      .clearFault 0#8 256,
      .readFaults 0#8 256,
      .setLineRate 0#8 256,
      .resetStation 0#8 256,
      .readStation 0#8 256,
      .setQueueLimits 0#8 256 0,
      .setQueueLimits 0#8 0 256,
      .setMode 0#8 256,
      .readQueue 0#8 256 0,
      .readQueue 0#8 0 256,
      .abandonBatch 0#8 256,
      .readBatch 0#8 256,
      .confirmMoved 0#8 256 0,
      .confirmMoved 0#8 0 256,
      .suspendBatch 0#8 256,
      .resumeBatch 0#8 256,
      .readTariff 0#8 256,
      .setReceiptMargin 0#8 256,
      .peekReceipts 0#8 256] : List Instr).all (fun i => !i.wellFormed) = true ∧
    ([.setTrust 0#8 255 255, .readQueue 0#8 255 255, .confirmMoved 0#8 255 255] : List Instr).all (·.wellFormed) = true := by
  decide +kernel

theorem test_ill_formed_longer_fields :
    ([.setSignalInterval 0#8 65536,
      .withdrawVessel 0#8 65536,
      .setRunLimits 0#8 65536 0,
      .setRunLimits 0#8 0 65536,
      .releaseReceipts 0#8 65536 0,
      .releaseReceipts 0#8 0 16777216,
      .setClock 0#8 16777216,
      .orderBatch 0#8 [1, 65536],
      .orderBatch 0#8 (List.replicate 256 1),
      .setAdmissionSettings 0#8 ⟨256, 0, 0⟩,
      .setAdmissionSettings 0#8 ⟨0, 256, 0⟩,
      .setAdmissionSettings 0#8 ⟨0, 0, 256⟩,
      .setNotices 0#8 ⟨256, 0, 0, 0⟩,
      .setNotices 0#8 ⟨0, 256, 0, 0⟩,
      .setNotices 0#8 ⟨0, 0, 256, 0⟩,
      .setNotices 0#8 ⟨0, 0, 0, 256⟩] : List Instr).all (fun i => !i.wellFormed) = true ∧
    ([.setRunLimits 0#8 65535 65535, .releaseReceipts 0#8 65535 16777215, .orderBatch 0#8 [1, 65535]] : List Instr).all (·.wellFormed) = true := by
  decide +kernel

theorem test_ill_formed_vessels :
    ([.registerVessel 0#8 { vessel 0x41#8 0 385 0 with reference := List.replicate 13 0x41#8 },
      .registerVessel 0#8 { vessel 0x41#8 0 385 0 with reference := [0x41#8, 0x00#8] },
      .registerVessel 0#8 { vessel 0x41#8 0 385 0 with direction := 256 },
      .registerVessel 0#8 { vessel 0x41#8 0 385 0 with length := 65536 },
      .registerVessel 0#8 { vessel 0x41#8 0 385 0 with beam := 256 },
      .registerVessel 0#8 { vessel 0x41#8 0 385 0 with draught := 65536 },
      .registerVessel 0#8 { vessel 0x41#8 0 385 0 with deadweight := 65536 },
      .registerVessel 0#8 { vessel 0x41#8 0 385 0 with cargo := 256 },
      .registerVessel 0#8 { vessel 0x41#8 0 385 0 with priority := 256 },
      .registerVessel 0#8 { vessel 0x41#8 0 385 0 with reserved := 256 },
      .quoteFee 0#8 ⟨vessel 0x41#8 0 65536 0, 0, 0⟩,
      .quoteFee 0#8 ⟨vessel 0x41#8 0 385 0, 256, 0⟩,
      .quoteFee 0#8 ⟨vessel 0x41#8 0 385 0, 0, 256⟩] : List Instr).all (fun i => !i.wellFormed) = true ∧
    ([.registerVessel 0#8 (vessel 0x41#8 0 385 0), .quoteFee 0#8 ⟨vessel 0x41#8 0 385 0, 1, 1⟩] : List Instr).all (·.wellFormed) = true := by
  decide +kernel

theorem test_ill_formed_tariffs :
    ([.setTariff 0#8 { edition 1 with number := 65536 },
      .setTariff 0#8 { edition 1 with bands := List.replicate 256 ⟨1, 1⟩ },
      .setTariff 0#8 { edition 1 with bands := [⟨65536, 0⟩] },
      .setTariff 0#8 { edition 1 with bands := [⟨1, 16777216⟩] },
      .setTariff 0#8 { edition 1 with rates := [1] },
      .setTariff 0#8 { edition 1 with rates := List.replicate 8 65536 },
      .setTariff 0#8 { edition 1 with waterRate := 16777216 },
      .setTariff 0#8 { edition 1 with nightStart := 65536 },
      .setTariff 0#8 { edition 1 with nightEnd := 65536 },
      .setTariff 0#8 { edition 1 with nightPercent := 256 },
      .setTariff 0#8 { edition 1 with priorityPercent := 256 },
      .setTariff 0#8 { edition 1 with minDues := 16777216 },
      .setTariff 0#8 { edition 1 with maxDues := 16777216 }] : List Instr).all (fun i => !i.wellFormed) = true ∧
    ([.setTariff 0#8 (edition 1)] : List Instr).all (·.wellFormed) = true := by
  decide +kernel

theorem test_ill_formed_station_reports :
    ([.goodAnswer .k0 ⟨none, none, none, { quiet .k0 with byWash := some .shut }⟩,
      .goodAnswer .k1 ⟨none, none, none, { quiet .k1 with byWash := none }⟩,
      .alarmFrame .k2 { quiet .k2 with byWash := none },
      .alarmFrame .k3 { quiet .k3 with byWash := some .shut },
      .alarmFrame .k0 { quiet .k0 with lower := ⟨.closed, true⟩ },
      .alarmFrame .k3 { quiet .k3 with upper := ⟨.prepare, true⟩ },
      .goodAnswer .k1 ⟨none, none, none, { quiet .k1 with upper := ⟨.closed, true⟩ }⟩] : List Instr).all (fun i => !i.wellFormed) = true ∧
    ([.goodAnswer .k1 ⟨none, none, none, quiet .k1⟩, .alarmFrame .k0 { quiet .k0 with upper := ⟨.closed, true⟩ }] : List Instr).all (·.wellFormed) = true := by
  decide +kernel

theorem test_ill_formed_frames_and_numbers :
    ([.refuseUnknownKind ⟨0#8, 0x7F#8, List.replicate 249 0#8⟩,
      .refuseMalformed ⟨0#8, 0x04#8, List.replicate 249 0#8⟩,
      .resumeDelayExpiry 0,
      .resumeDelayExpiry 256,
      .waterStepLimitExpiry 0,
      .waterStepLimitExpiry 256,
      .moveWaitExpiry 0,
      .moveWaitExpiry 256] : List Instr).all (fun i => !i.wellFormed) = true ∧
    ([.refuseMalformed ⟨0#8, 0x04#8, List.replicate 248 0#8⟩, .resumeDelayExpiry 255, .waterStepLimitExpiry 1] : List Instr).all (·.wellFormed) = true := by
  decide +kernel

/-! ### Frames (R175, R181): one request of each family, its octets written out -/

/-- The check value of this CRC over the nine digits. PRESUMED: the value is known of the polynomial and the
initial value; the spec gives no example. -/
theorem test_crc_check_value :
    crc16 [0x31#8, 0x32#8, 0x33#8, 0x34#8, 0x35#8, 0x36#8, 0x37#8, 0x38#8, 0x39#8] = 0x29B1#16 := by
  decide +kernel

/-- R22: READ CHAMBER 2 with tag 5. -/
theorem test_frame_chambers :
    (feed [] [0xA5#8, 0x03#8, 0x05#8, 0x04#8, 0x02#8, 0x18#8, 0x6A#8]).1.map requestOf =
      [.readChamber 5#8 2] := by
  decide +kernel

/-- R26: start limits 3.0 s and 2.0 s, travel limits 120.0 s and 45.0 s, changeover 5.0 s. -/
theorem test_frame_machinery :
    (feed [] [0xA5#8, 0x0C#8, 0x01#8, 0x08#8, 0x00#8, 0x1E#8, 0x00#8, 0x14#8, 0x04#8, 0xB0#8, 0x01#8,
      0xC2#8, 0x00#8, 0x32#8, 0x51#8, 0x99#8]).1.map requestOf =
      [.setMovementLimits 1#8 ⟨30, 20, 1200, 450, 50⟩] := by
  decide +kernel

/-- R50: CLEAR FAULT 9. -/
theorem test_frame_faults :
    (feed [] [0xA5#8, 0x03#8, 0x02#8, 0x0E#8, 0x09#8, 0xC3#8, 0x5A#8]).1.map requestOf =
      [.clearFault 2#8 9] := by
  decide +kernel

/-- R64: SET SIGNAL INTERVAL 4.0 s. -/
theorem test_frame_signals :
    (feed [] [0xA5#8, 0x04#8, 0x03#8, 0x10#8, 0x00#8, 0x28#8, 0xE5#8, 0xDF#8]).1.map requestOf =
      [.setSignalInterval 3#8 40] := by
  decide +kernel

/-- R80: RESET STATION 3. -/
theorem test_frame_line :
    (feed [] [0xA5#8, 0x03#8, 0x04#8, 0x15#8, 0x03#8, 0x0F#8, 0x39#8]).1.map requestOf =
      [.resetStation 4#8 3] := by
  decide +kernel

/-- R91: CLEAR HALT, with no data. -/
theorem test_frame_halt :
    (feed [] [0xA5#8, 0x02#8, 0x05#8, 0x19#8, 0xDE#8, 0x11#8]).1.map requestOf =
      [.clearHalt 5#8] := by
  decide +kernel

/-- R102: an upbound barge 38.5 m long, 6.0 m wide, drawing 1.20 m, 300 t, cargo class 2. -/
theorem test_frame_vessels :
    (feed [] [0xA5#8, 0x19#8, 0x06#8, 0x20#8, 0x41#8, 0x42#8, 0x00#8, 0x00#8, 0x00#8, 0x00#8, 0x00#8,
      0x00#8, 0x00#8, 0x00#8, 0x00#8, 0x00#8, 0x00#8, 0x01#8, 0x81#8, 0x3C#8, 0x00#8, 0x78#8,
      0x01#8, 0x2C#8, 0x02#8, 0x00#8, 0x00#8, 0xF7#8, 0xF2#8]).1.map requestOf =
      [.registerVessel 6#8 ⟨[0x41#8, 0x42#8], 0, 385, 60, 120, 300, 2, 0, 0⟩] := by
  decide +kernel

/-- R122: ORDER BATCH of passages 42 and 300. -/
theorem test_frame_admission :
    (feed [] [0xA5#8, 0x07#8, 0x07#8, 0x29#8, 0x02#8, 0x00#8, 0x2A#8, 0x01#8, 0x2C#8, 0x41#8, 0xD3#8]).1.map requestOf =
      [.orderBatch 7#8 [42, 300]] := by
  decide +kernel

/-- R142: CONFIRM MOVED for batch 70 at G1. -/
theorem test_frame_running :
    (feed [] [0xA5#8, 0x04#8, 0x06#8, 0x31#8, 0x46#8, 0x01#8, 0xFA#8, 0x4D#8]).1.map requestOf =
      [.confirmMoved 6#8 70 1] := by
  decide +kernel

/-- R155: READ TARIFF of the pending slot. -/
theorem test_frame_tolls :
    (feed [] [0xA5#8, 0x03#8, 0x08#8, 0x3A#8, 0x02#8, 0x7C#8, 0xA1#8]).1.map requestOf =
      [.readTariff 8#8 2] := by
  decide +kernel

/-- R170: RELEASE RECEIPTS up to receipt 20 of day 214. -/
theorem test_frame_receipts :
    (feed [] [0xA5#8, 0x07#8, 0x09#8, 0x42#8, 0x00#8, 0xD6#8, 0x00#8, 0x00#8, 0x14#8, 0xE1#8, 0x95#8]).1.map requestOf =
      [.releaseReceipts 9#8 214 20] := by
  decide +kernel

/-- R178: SET NOTICES with LEVEL disabled. -/
theorem test_frame_notices :
    (feed [] [0xA5#8, 0x06#8, 0x0A#8, 0x48#8, 0x01#8, 0x00#8, 0x01#8, 0x01#8, 0x90#8, 0x08#8]).1.map requestOf =
      [.setNotices 10#8 ⟨1, 0, 1, 1⟩] := by
  decide +kernel

/-- 12.6, "a lost frame among three requests": the frame of tag 6 is corrupted in one payload octet. -/
theorem test_lost_frame :
    (feed [] ([0xA5#8, 0x03#8, 0x05#8, 0x04#8, 0x02#8, 0x18#8, 0x6A#8] ++
      [0xA5#8, 0x04#8, 0x06#8, 0x31#8, 0x46#8, 0x00#8, 0xFA#8, 0x4D#8] ++
      [0xA5#8, 0x02#8, 0x07#8, 0x45#8, 0x23#8, 0x0A#8])).1.map requestOf =
      [.readChamber 5#8 2, .readTotals 7#8] := by
  decide +kernel

/-- R67: a frame of station 1 (line address 2) with the octet 0x10, its check octet, and the same with a bit
changed. -/
theorem test_station_frame :
    lineFrame (lineAddress .k1) [0x10#8] = [0x02#8, 0x10#8, 0xEE#8] ∧
      lineSender [0x02#8, 0x10#8, 0xEE#8] = some .k1 ∧ lineSender [0x02#8, 0x11#8, 0xEE#8] = none ∧
      lineSender (lineFrame 5#8 [0x10#8]) = none ∧ lineSender (lineFrame partAddress [0x10#8]) = none := by
  decide +kernel

/-! ### Worked figures of the spec -/

/-- 1.7: the predictions for C1 at 17,790 mm and C2 at five levels, and the room-making target. -/
theorem test_predictions :
    [10600, 11224, 11225, 11226, 12000].map (predictedLevel 1410 17790 1460) =
        [14132, 14450, 14450, 14451, 14845] ∧
      roomTarget 14450 1410 17790 1460 = 11224 := by
  decide +kernel

/-- 10.7: the shares of 2,640 cents among lengths 550, 385 and 120. -/
theorem test_water_shares : waterShares 2640 [550, 385, 120] = [1376, 964, 300] := by decide +kernel

/-- 10.7: the edition number 12. -/
def edition12 : Edition :=
  { number := 12, bands := [⟨200, 1500⟩, ⟨400, 4200⟩, ⟨600, 6800⟩, ⟨860, 9500⟩, ⟨1350, 12500⟩]
    rates := [0, 20, 38, 45, 52, 60, 0, 80], waterRate := 52, nightStart := 1260, nightEnd := 300
    nightPercent := 15, priorityPercent := 25, minDues := 2000, maxDues := 50000 }

/-- 10.7: the dues of V1, V2 and V3 by night. -/
theorem test_dues :
    ((duesFor edition12 550 1250 2 .ordinary true).dues, (duesFor edition12 385 720 4 .ordinary true).dues,
      (duesFor edition12 120 0 6 .ordinary true).dues) = (13283, 9136, 2000) := by
  decide +kernel

/-- 8.9: the walk over the UP queue with a flight of 117.5 m and a spacing of 3.0 m. -/
theorem test_packing :
    let s := { queued with
      level := { queued.level with chambers := ⟨
        chamberAt { geometry 14200 17800 18000 18300 with usable := 1175 } 14200,
        chamberAt { geometry 10600 14200 14400 14600 with usable := 1200 } 10600,
        chamberAt { geometry 7000 10600 10800 11000 with usable := 1180 } 7000⟩ }
      traffic := { queued.traffic with
        up := [boat 50 .ordinary 1 550 0, boat 51 .ordinary 2 385 0, boat 52 .ordinary 3 900 2,
          boat 53 .ordinary 4 120 0, boat 54 .ordinary 5 400 0] } }
    (s.pack .up).map (·.number) = [50, 51, 53] := by
  decide +kernel

/-- 7.9: a SERVICE craft joins the end of the first class group, an ORDINARY barge the end of the queue. -/
theorem test_queue_order :
    let a := placePassage (boat 42 .service 211 120 0) queued.traffic.up
    let b := placePassage (boat 43 .ordinary 212 120 0) a
    (a.map (·.number), positionOf 42 a, b.map (·.number), positionOf 43 b) =
      ([41, 42, 38, 40], 1, [41, 42, 38, 40, 43], 4) := by
  decide +kernel

/-- R78: a STOP goes to the head and takes the slot of an OPEN; a CLOSE then takes the slot at the tail. -/
theorem test_stop_placing :
    let q := [freshEntry (.face .upper .stop), freshEntry (.item (.gate .k1) .opens), freshEntry .reset]
    let r := placeStop (.gate .k1) q
    (r.map (·.command), (placeEntry (.item (.gate .k1) .closes) r).map (·.command)) =
      ([.item (.gate .k1) .stops, .face .upper .stop, .reset],
        [.face .upper .stop, .reset, .item (.gate .k1) .closes]) := by
  decide +kernel

/-! ### One step of each command -/

/-! #### Power, the retained store and the console link -/

theorem test_blank_power_on :
    exec .powerOn { live with powered := false, pending := [], now := 0, store := { live.store with imageA := none } } =
      .next State.reset := by
  rfl

theorem test_power_on_takes_the_newer_image :
    let old : Image := { contents := Retained.defaults, generation := 65535 }
    let new : Image := { contents := { Retained.defaults with nextPassage := 7 }, generation := 0 }
    let t := after .powerOn { live with
      powered := false, store := { imageA := some old, imageB := some new, inUse := .a, updates := [] } }
    (t.traffic.nextPassage, t.store.inUse, t.halt.startUp.outcome) = (7, .b, .bothValid) := by
  decide +kernel

theorem test_power_fail_loses_the_image_being_written :
    let t := after .powerFail { live with store := { live.store with
      imageB := live.store.imageA, updates := [Retained.defaults] } }
    (t.powered, t.store.imageB, t.store.updates) = (false, none, []) := by
  decide +kernel

theorem test_retained_update_complete :
    let t := after .retainedUpdateComplete { live with
      store := { live.store with updates := [{ Retained.defaults with nextPassage := 7 }] }
      console := { live.console with reply := some ⟨1#8, 0xB0#8, none, [], 1, false⟩ } }
    (t.store.imageB.map (·.generation), t.store.inUse, t.console.reply.map (·.waits)) =
      (some 1, .b, some 0) := by
  decide +kernel

theorem test_restart_is_answered_first :
    let t := after (.restart 4#8) live
    (t.halt.state, t.console.reply.map (·.isRestart)) = (.running, some true) := by
  decide +kernel

theorem test_restart_follows_its_reply :
    let t := after .transmitterFree { resting with console := { resting.console with
      sending := some ⟨[], true, true⟩ } }
    (t.halt.causes, t.halt.startUp.kind, t.traffic.batches.map (·.reasons)) =
      ([.startUp], .restart, [[.byRequest, .restart]]) := by
  decide +kernel

theorem test_frame_joins_the_order :
    (after (.consoleFrameComplete (0x00#8 :: frameOctets 5#8 0x04#8 [0x02#8])) live).console.order =
      [⟨5#8, 0x04#8, [0x02#8]⟩] := by
  decide +kernel

theorem test_gap_abandons_a_frame :
    (after (.consoleFrameGap [0x03#8, 0x05#8])
      { live with console := { live.console with fragment := [0xA5#8] } }).console.fragment = [] := by
  decide +kernel

theorem test_length_out_of_range :
    let t := after (.frameLengthOutOfRange [0xA5#8, 0x01#8]) live
    (t.console.fragment, t.console.order) = ([], []) := by
  decide +kernel

theorem test_unknown_kind_is_refused :
    ((after (.refuseUnknownKind ⟨9#8, 0x05#8, []⟩) live).console.reply.map
      fun r => (r.tag, r.kind, r.verdict)) = some (9#8, 0x85#8, some .unknownKind) := by
  decide +kernel

theorem test_malformed_is_refused :
    requestOf ⟨9#8, 0x04#8, [1#8, 2#8]⟩ = .refuseMalformed ⟨9#8, 0x04#8, [1#8, 2#8]⟩ ∧
      answer (after (.refuseMalformed ⟨9#8, 0x04#8, [1#8, 2#8]⟩) live) = some (some .malformed, []) := by
  decide +kernel

/-- 12.6: RIVER HOLD, raised while the last frame sent was a reply, goes before the reply that stands. -/
theorem test_notice_between_replies :
    let t := after .transmitterFree { live with console := { live.console with
      sending := some ⟨[], true, false⟩, notices := [⟨.riverHold, 0, [flag true]⟩]
      reply := some ⟨7#8, 0xC5#8, none, [], 0, false⟩ } }
    (t.console.sending.map fun f => (f.isReply, f.octets.getD 3 0#8), t.console.reply.isSome) =
      (some (false, 0xE7#8), true) := by
  decide +kernel

theorem test_set_notices_removes_waiting_ones :
    let t := after (.setNotices 1#8 ⟨1, 0, 1, 1⟩) { live with console := { live.console with
      notices := [⟨.riverHold, 0, []⟩, ⟨.overdue, 9, []⟩] } }
    t.console.notices.map (·.kind) = [.overdue] := by
  decide +kernel

theorem test_read_flight : (answer (after (.readFlight 1#8) live)).map (·.1) = some none := by decide +kernel

theorem test_read_settings :
    (answer (after (.readSettings 1#8) live)).map (·.2.take 3) = some [num 2 150, num 1 30, num 2 50] := by
  decide +kernel

/-! #### Chambers and levels -/

theorem test_set_chamber :
    let t := after (.setChamber 1#8 ⟨3, 1100, 120, 300, 1500, 7000, 10600, 10800, 11000⟩) live
    (t.chamber .c3).config = some { geometry 7000 10600 10800 11000 with area := 1500 } := by
  decide +kernel

theorem test_set_chamber_levels_must_rise :
    answer (after (.setChamber 1#8 ⟨3, 1100, 120, 300, 1500, 7000, 7000, 10800, 11000⟩) live) =
      some (some .badSetting, []) := by
  decide +kernel

theorem test_set_level_settings :
    let t := after (.setLevelSettings 1#8 ⟨0, 1000, 50, 100, 0, 1201⟩) live
    (t.level.settings, t.level.acting) =
      (⟨50, 200, 50, 100, 1, 1200⟩, ⟨150, 30, 50, 100, 5, 200⟩) := by
  decide +kernel

theorem test_set_trust :
    let t := after (.setTrust 1#8 2 1)
      (live.setChamber .c2 { live.chamber .c2 with condition := .disputed, dispute := 3 })
    ((t.chamber .c2).trust, (t.chamber .c2).condition, (t.chamber .c2).dispute) =
      (.upperOnly, .degraded, 0) := by
  decide +kernel

theorem test_read_chamber_number :
    answer (after (.readChamber 1#8 4) live) = some (some .badValue, []) := by decide +kernel

theorem test_read_chamber :
    (answer (after (.readChamber 1#8 1) live)).map (·.2.take 4) =
      some [flag true, num 2 1100, num 1 120, num 2 300] := by
  decide +kernel

/-- R8: two readings 100 mm apart agree on their mean, rounded half up, and count toward a dispute. -/
theorem test_round_end_counts_a_disagreement :
    let t := after .roundEnd { live.setChamber .c2 { live.chamber .c2 with upper := some 10601, lower := some 10700 } with
      line := { live.line with slot := some .k3 } }
    ((t.chamber .c2).agreed, (t.chamber .c2).dispute, (t.chamber .c2).condition) =
      (some 10651, 1, .normal) := by
  decide +kernel

/-- R16: at G3 the level below C3 and the tail level are equal, at G0 they are not. -/
theorem test_round_end_counts_equality :
    let t := after .roundEnd { live with line := { live.line with slot := some .k3 } }
    (t.level.equal.k3, t.level.equal.k0) = (1, 0) := by
  decide +kernel

/-- R14: with station 0 MISSING the protective close is dropped, and the OPEN that waits in its queue is
withdrawn. -/
theorem test_high_withdraws_the_open :
    let m : Movement := { moving .awaitTaken none none 0 with queued := true, placed := true }
    let s := (live.setItem (.sluice .k0) { position := none, command := .opens, movement := some m }).setStation .k0
      ⟨.missing, 1, [freshEntry (.item (.sluice .k0) .opens)]⟩
    let t := (s.setChamber .c1 { s.chamber .c1 with agreed := some 18001 }).testHigh .c1
    ((t.chamber .c1).high, (t.station .k0).queue, (t.item (.sluice .k0)).command) = (true, [], .none) := by
  decide +kernel

theorem test_surge_blank_expiry :
    ((after (.surgeBlankExpiry .c1) (live.setChamber .c1 { live.chamber .c1 with surge := some 5 })).chamber
      .c1).surge = none := by
  decide +kernel

/-! #### Gates, sluices and by-wash valves -/

theorem test_set_movement_limits :
    (after (.setMovementLimits 1#8 ⟨9, 301, 199, 3001, 601⟩) live).mach.limits = ⟨10, 300, 200, 3000, 600⟩ := by
  decide +kernel

/-- 2.10: at the expiry of C2's changeover timer S1, asked first, has its command placed, and S2 waits. -/
theorem test_changeover_expiry :
    let s := (live.setMovement (.sluice .k1) (some (moving .awaitTaken none none 0))).setMovement (.sluice .k2)
      (some (moving .awaitTaken none none 1))
    let t := after (.changeoverTimerExpiry .c2)
      { s with mach := { s.mach with changeover := s.mach.changeover.set .c2 (some 0) } }
    ((t.item (.sluice .k1)).command, (t.item (.sluice .k2)).command) = (.opens, .none) := by
  decide +kernel

theorem test_start_limit_expiry :
    let t := after (.startLimitExpiry (.gate .k2))
      (live.setMovement (.gate .k2) (some (moving .awaitStart (some 50) none 0)))
    (t.mach.faults.map (·.kind), (t.item (.gate .k2)).movement) = ([.startTimeout], none) := by
  decide +kernel

theorem test_travel_limit_expiry :
    let t := after (.travelLimitExpiry (.gate .k2))
      (live.setMovement (.gate .k2) (some (moving .travel none (some 1200) 0)))
    t.mach.faults.map (fun r => (r.kind, r.capture.travel)) = [(.travelTimeout, some 1200)] := by
  decide +kernel

/-! #### Interlocks and the fault table -/

def iceFault (n : Nat) (latched : Bool) (releasing : Option Nat) : FaultRec :=
  { number := n, kind := .input .ice, source := .station .k1, latched := latched, releasing := releasing
    repeats := 1, escalated := false
    capture := { time := 0, position := none, travel := none, above := none, below := none, batch := none } }

theorem test_set_input_modes :
    (after (.setInputModes 1#8 ⟨2, 2, 1, 0⟩) live).mach.modes.k2 = ⟨.latch, .holdWhile, .off⟩ := by
  decide +kernel

theorem test_set_fault_timing :
    (after (.setFaultTiming 1#8 ⟨101, 19, 9⟩) live).mach.timing = ⟨100, 20, 8⟩ := by decide +kernel

theorem test_clear_fault :
    let t := after (.clearFault 1#8 9) (live.setFaults [iceFault 9 true none])
    (answer t, t.mach.faults) = (some (none, []), []) := by
  decide +kernel

theorem test_clear_fault_hold_while :
    answer (after (.clearFault 1#8 9) (live.setFaults [iceFault 9 false none])) =
      some (some .notLatched, []) := by
  decide +kernel

theorem test_read_faults :
    (answer (after (.readFaults 1#8 0) (live.setFaults [iceFault 9 true none]))).map (·.2.take 4) =
      some [num 1 1, num 1 1, num 1 1, num 1 9] := by
  decide +kernel

/-- 3.5: at the third release, with the resume limit 2, fault 9 escalates. -/
theorem test_resume_delay_expiry_escalates :
    let s := (live.setFaults [iceFault 9 false (some 100)]).setMovement (.gate .k1)
      (some { moving .held none none 0 with resumptions := 2 })
    let t := after (.resumeDelayExpiry 9)
      { s with mach := { s.mach with timing := { s.mach.timing with resumeLimit := 2 } } }
    (t.mach.faults.map fun r => (r.latched, r.escalated), (t.item (.gate .k1)).movement) =
      ([(true, true)], none) := by
  decide +kernel

/-- 3.5: at the first release the movement goes back to AWAIT-TAKEN with resumptions 1. -/
theorem test_resume_delay_expiry_releases :
    let s := (live.setFaults [iceFault 7 false (some 100)]).setMovement (.gate .k1)
      (some (moving .held none none 0))
    let t := after (.resumeDelayExpiry 7) s
    (t.mach.faults, (t.item (.gate .k1)).movement.map fun m => (m.phase, m.queued, m.resumptions)) =
      ([], some (.awaitTaken, false, 1)) := by
  decide +kernel

theorem test_overload_blank_expiry :
    let t := after (.overloadBlankExpiry .k1) (live.setOverload .k1 ⟨some 20, some true⟩)
    (t.held .k1 .overload, t.mach.faults.map (fun r => (r.kind, r.latched))) =
      (some true, [(.input .overload, true)]) := by
  decide +kernel

/-! #### Signal faces -/

theorem test_set_signal_interval :
    (after (.setSignalInterval 1#8 301) live).signal.interval = 300 := by decide +kernel

/-- G3 is OPEN and its far face has been stopped since 0.0 s; batch 9 asks for PROCEED at the lower face. -/
def asking : State :=
  let s := entering.setFace ⟨.k3, .lower⟩
    { entering.face ⟨.k3, .lower⟩ with commanded := .stop, reported := some .stop }
  s.setFace ⟨.k3, .upper⟩ { s.face ⟨.k3, .upper⟩ with reported := some .stop, stopSince := some 0 }

theorem test_all_stop_interval_elapsed :
    let t := after (.allStopIntervalElapsed ⟨.k3, .upper⟩) { asking with now := 40 }
    ((t.face ⟨.k3, .lower⟩).commanded, (t.station .k3).queue.map (·.command)) =
      (.proceed, [.face .lower .proceed]) := by
  decide +kernel

/-! #### The station line -/

theorem test_set_line_rate :
    let t := after (.setLineRate 1#8 0) live
    (t.line.rate, (t.station .k0).state) = (.fast, .unsynced) := by
  decide +kernel

theorem test_reset_station :
    (after (.resetStation 1#8 3) live).line.stations.k3.queue.map (·.command) = [.reset] := by decide +kernel

/-- 5.8: the first five octets of the summary. -/
theorem test_read_station :
    (answer (after (.readStation 1#8 2) live)).map (·.2.take 5) =
      some [num 1 2, num 1 1, num 1 0, num 1 1, num 1 0] := by
  decide +kernel

theorem test_poll_slot_start :
    let t := after (.pollSlotStart .k0) (live.setQueue .k0 [freshEntry .reset])
    t.line.poll = some { station := .k0, sent := true, carried := some .reset } := by
  decide +kernel

theorem test_good_answer :
    let t := after (.goodAnswer .k1 ⟨none, some 14190, some 10610, { quiet .k1 with gate := .opening }⟩)
      { live with line := { live.line with slot := some .k1, poll := some ⟨.k1, true, none⟩ } }
    ((t.chamber .c1).lower, (t.chamber .c2).upper, (t.item (.gate .k1)).position) =
      (some 14190, some 10610, some .opening) := by
  decide +kernel

/-- R33: TAKEN on the command of a movement starts its start limit of 3.0 s for a path. -/
theorem test_good_answer_taken :
    let e : QueueEntry := { command := .item (.sluice .k1) .opens, failed := false, inPoll := true }
    let s := (live.setMovement (.sluice .k1) (some { moving .awaitTaken none none 0 with
      queued := true, placed := true })).setQueue .k1 [e]
    let t := after (.goodAnswer .k1 ⟨some .taken, some 14200, some 10600, quiet .k1⟩)
      { s with line := { s.line with slot := some .k1, poll := some ⟨.k1, true, some e.command⟩ } }
    ((t.item (.sluice .k1)).movement.map fun m => (m.phase, m.startLimit), (t.station .k1).queue) =
      (some (.awaitStart, some 30), []) := by
  decide +kernel

/-- 5.10: the fifth failed poll. -/
theorem test_poll_failed :
    let t := after (.pollFailed .k1) { live.setStation .k1 ⟨.missing, 4, []⟩ with
      line := { (live.setStation .k1 ⟨.missing, 4, []⟩).line with
        slot := some .k1, poll := some ⟨.k1, true, none⟩ } }
    t.station .k1 = ⟨.lost, 5, []⟩ := by
  decide +kernel

theorem test_alarm_frame :
    let t := after (.alarmFrame .k2 { quiet .k2 with sluice := .opened })
      { live with line := { live.line with slot := some .k3 } }
    (t.item (.sluice .k2)).position = some .opened := by
  decide +kernel

/-- R74: at most one alarm frame is completed in each open slot. -/
theorem test_second_alarm_frame :
    let s := after (.alarmFrame .k2 { quiet .k2 with sluice := .opened })
      { live with line := { live.line with slot := some .k3 } }
    after (.alarmFrame .k1 { quiet .k1 with sluice := .opened }) s = s := by
  decide +kernel

theorem test_station_frame_discarded :
    exec (.stationFrameDiscarded [0x01#8]) live = .next live := rfl

/-- R67, R84: an answer that a dominant stretch overlaps fails its poll. -/
theorem test_overlapped_answer :
    let t := after (.goodAnswer .k1 ⟨none, some 14190, none, quiet .k1⟩)
      { live with line := { live.line with
          slot := some .k1, poll := some ⟨.k1, true, none⟩, stretch := some false } }
    ((t.station .k1).state, (t.station .k1).failed, (t.chamber .c1).lower) = (.missing, 1, some 14200) := by
  decide +kernel

theorem test_halt_pulse_end : (after .haltPulseEnd State.reset).line.pulse = false := by decide +kernel

theorem test_line_halt :
    (after .lineHalt { live with line := { live.line with stretch := some false } }).halt.causes =
      [.lineHalt] := by
  decide +kernel

/-- R84: the 250 ms are timed from the release of the part's own pulse. -/
theorem test_line_halt_waits_for_the_pulse :
    let s := { live with line := { live.line with stretch := some false, pulse := true } }
    exec .lineHalt s = .next s := by
  rfl

theorem test_dominant_stretch :
    ((after .dominantStretchStart live).line.stretch,
      (after .dominantStretchEnd { live with line := { live.line with stretch := some true } }).line.stretch) =
      (some false, none) := by
  decide +kernel

/-! #### Halt -/

theorem test_all_stop :
    let t := after (.allStop 1#8) (live.setMovement (.gate .k2) (some (moving .travel none none 0)))
    (t.halt.state, t.halt.causes, (t.item (.gate .k2)).movement, t.line.pulse) =
      (.halted, [.allStop], none, true) := by
  decide +kernel

theorem test_clear_halt :
    let s := { live with halt := { live.halt with state := .halted, causes := [.allStop] } }
    let t := after (.clearHalt 1#8) (s.setStation .k2 ⟨.lost, 5, []⟩)
    (t.halt.state, t.halt.causes, t.halt.awaited) =
      (.recovering, [], ⟨some false, some false, none, some false⟩) := by
  decide +kernel

theorem test_clear_halt_crest :
    (answer (after (.clearHalt 1#8) ({ live with halt := { live.halt with state := .halted, causes := [.crest] } }.setChamber
      .c3 { live.chamber .c3 with crest := true }))).map (·.1) = some (some .stillActive) := by
  decide +kernel

/-! #### Vessels and approach queues -/

theorem test_register_service_craft :
    let t := after (.registerVessel 1#8 (vessel 0x53#8 0 120 2)) queued
    (answer t, t.traffic.up.map (·.number)) = (some (none, [num 2 42, num 1 1]), [41, 42, 38, 40]) := by
  decide +kernel

/-- R102: with a clearance of 0.4 m, 11.6 m of beam fits 12.0 m and 11.7 m does not. -/
theorem test_register_beam :
    let a := vessel 0x53#8 0 120 0
    (answer (after (.registerVessel 1#8 { a with beam := 117 }) queued),
      (answer (after (.registerVessel 1#8 { a with beam := 116 }) queued)).map (·.1)) =
      (some (some .tooWide, []), some none) := by
  decide +kernel

theorem test_withdraw_vessel :
    let t := after (.withdrawVessel 1#8 38) queued
    (answer t, t.traffic.up.map (·.number)) = (some (none, [flag false]), [41, 40]) := by
  decide +kernel

/-- 7.9: WITHDRAW VESSEL 41 is refused IN BATCH. -/
theorem test_withdraw_member :
    answer (after (.withdrawVessel 1#8 41) resting) = some (some .inBatch, []) := by decide +kernel

theorem test_set_queue_limits :
    let t := after (.setQueueLimits 1#8 24 0) queued
    (t.traffic.margin, t.traffic.skipLimit, t.traffic.nearUp) = (23, 1, true) := by
  decide +kernel

theorem test_set_mode :
    let s := { queued with traffic := { queued.traffic with order := some ⟨[38], .up⟩ } }
    let t := after (.setMode 1#8 2) s
    (answer t, t.traffic.mode, t.traffic.order) = (some (none, [flag true, num 1 2]), .closed, none) := by
  decide +kernel

theorem test_read_queue :
    (answer (after (.readQueue 1#8 0 2) queued)).map (·.2.take 2) = some [num 1 3, num 1 3] ∧
      (answer (after (.readQueue 1#8 0 2) queued)).map (fun x => x.2.getD 3 (flag false)) = some (num 1 20) := by
  decide +kernel

/-! #### Admission and batches -/

theorem test_set_admission_settings :
    let t := after (.setAdmissionSettings 1#8 ⟨0, 101, 1⟩) live
    (t.traffic.quota, t.traffic.spacing, t.traffic.followOn) = (1, 100, false) := by
  decide +kernel

theorem test_order_batch :
    let t := after (.orderBatch 1#8 [40, 41]) queued
    (answer t, t.traffic.up.map (·.number), t.traffic.batches.map fun b => b.members.map (·.number)) =
      (some (none, [num 1 0, num 2 1]), [38], [[40, 41]]) := by
  decide +kernel

theorem test_cancel_order :
    answer (after (.cancelOrder 1#8)
      { queued with traffic := { queued.traffic with order := some ⟨[38, 41], .up⟩ } }) =
      some (none, [num 1 2, num 2 38, num 2 41]) := by
  decide +kernel

/-- 7.9: the queue after the abandonment of batch 41, 42. -/
theorem test_abandon_batch :
    (after (.abandonBatch 1#8 9) resting).traffic.up.map (fun p => (p.number, p.stamp)) =
      [(41, 210), (42, 211), (40, 209), (43, 212)] := by
  decide +kernel

theorem test_read_batch :
    answer (after (.readBatch 1#8 8) resting) = some (some .noSuchBatch, []) := by decide +kernel

/-! #### Running a lockage -/

theorem test_set_run_limits :
    let t := after (.setRunLimits 1#8 599 36001) live
    (answer t, t.traffic.waterLimit, t.traffic.moveWait) =
      (some (none, [num 2 600, num 2 36000]), 600, 36000) := by
  decide +kernel

theorem test_confirm_moved :
    let t := after (.confirmMoved 1#8 9 3) entering
    (answer t, t.traffic.batches.map fun b => (b.moved, b.entered, b.members.map (·.location))) =
      (some (none, [num 1 9, num 1 3, num 1 3]), [(true, true, [.chamber .c3, .chamber .c3])]) := by
  decide +kernel

theorem test_suspend_batch :
    let t := after (.suspendBatch 1#8 9) entering
    t.traffic.batches.map (fun b => (b.reasons, b.claims)) = [([.byRequest], [])] := by
  decide +kernel

theorem test_resume_batch :
    let t := after (.resumeBatch 1#8 9) resting
    (answer t, t.traffic.batches.map (·.reasons)) = (some (none, [num 1 9, num 1 1]), [[]]) := by
  decide +kernel

theorem test_water_step_limit_expiry :
    let r := { stepIn .flowing [.c3] with waterLimit := some 6000 }
    let t := after (.waterStepLimitExpiry 9) (withBatches [batchAt 9 .one r []] queued)
    (t.mach.faults.map fun f => (f.kind, f.source), t.traffic.batches.map (·.reasons)) =
      ([(.levelTimeout, .chamber .c3)], [[.levelTimeout]]) := by
  decide +kernel

theorem test_move_wait_expiry :
    let t := after (.moveWaitExpiry 9) entering
    t.console.notices.map (fun n => (n.kind, n.payload)) = [(.overdue, [num 1 9, num 1 2])] := by
  decide +kernel

/-! #### Tolls, receipts and the day account -/

theorem test_set_tariff :
    let t := after (.setTariff 1#8 (edition 2)) live
    (t.toll.pending.map (·.number), t.toll.current.map (·.number)) = (some 2, some 1) := by
  decide +kernel

theorem test_switch_tariff :
    let t := after (.switchTariff 1#8) { live with toll := { live.toll with pending := some (edition 2) } }
    (t.toll.current.map (·.number), t.toll.previous.map (·.number), t.toll.pending) =
      (some 2, some 1, none) := by
  decide +kernel

theorem test_read_tariff :
    (answer (after (.readTariff 1#8 0) live)).map (·.2.take 3) = some [flag true, num 2 1, num 1 2] := by
  decide +kernel

/-- R151, R153, R155: no batch refers to a pending edition, though it has the current one's number. -/
theorem test_read_pending_tariff :
    (answer (after (.readTariff 1#8 2) { resting with toll := { resting.toll with pending := some (edition 1) } })).map
      (fun x => (x.2.take 2, x.2.getLast?)) = some ([flag true, num 2 1], some (num 1 0)) := by
  decide +kernel

/-- R157, R164: an ORDINARY vessel by day has a surcharge of 0, a SERVICE vessel none. -/
theorem test_quote_surcharge :
    ((duesFor (edition 1) 550 300 2 .ordinary false).surcharge, (duesFor (edition 1) 550 300 2 .service false).surcharge) =
      (some 0, none) := by
  decide +kernel

theorem test_quote_fee :
    (answer (after (.quoteFee 1#8 ⟨vessel 0x41#8 0 550 0, 0, 0⟩) live)).map (·.1) = some none := by
  decide +kernel

/-- A receipt of day 214. -/
def receipt (n : Nat) : Receipt :=
  { day := 214, number := n, passage := n, reference := [0x41#8], direction := .up, batch := 9, edition := 1
    night := false, length := 385, deadweight := 300, cargo := 2, priority := .ordinary, base := 1000
    tonnage := 900, surcharge := none, clamp := none, dues := 1900, share := some 100, fee := 2000
    volume := 100, charge := 100, estimated := false, capped := false }

/-- 11.8 in small: six receipts of day 214, a margin of 59. -/
def office : State :=
  { live with
    receipts := { live.receipts with
      queue := [receipt 1, receipt 2, receipt 3, receipt 4, receipt 5, receipt 6], margin := 59
      nearFull := true, repeatTimer := some 100 }
    toll := { live.toll with account := { live.toll.account with day := 214, issued := 6 } } }

theorem test_set_receipt_margin :
    let t := after (.setReceiptMargin 1#8 64) live
    (answer t, t.receipts.margin, t.receipts.nearFull) = (some (none, [num 1 63]), 63, false) := by
  decide +kernel

theorem test_peek_receipts :
    (answer (after (.peekReceipts 1#8 4) office)).map (·.2.take 4) =
      some [num 1 6, num 1 4, num 2 214, num 3 1] := by
  decide +kernel

theorem test_release_receipts :
    let t := after (.releaseReceipts 1#8 214 2) office
    (answer t, t.receipts.queue.map (·.number), t.receipts.nearFull) =
      (some (none, [num 1 2, num 1 4, num 1 60]), [3, 4, 5, 6], false) := by
  decide +kernel

theorem test_receipts_repeat_expiry :
    let t := after .receiptsRepeatExpiry office
    (t.receipts.repeatTimer, t.console.notices.map (·.kind)) = (some 200, [.receiptsNearFull]) := by
  decide +kernel

/-- 11.8: CLOSE DAY carries day 214; day 215 opens. -/
theorem test_close_day :
    let t := after (.closeDay 1#8) office
    ((answer t).map (·.2.take 1), t.toll.account.day, t.toll.account.issued) =
      (some [num 2 214], 215, 0) := by
  decide +kernel

theorem test_set_clock :
    ((after (.setClock 1#8 86399) live).toll.clock, answer (after (.setClock 1#8 86400) live)) =
      (86399, some (some .badValue, [])) := by
  decide +kernel

theorem test_clock_tick_at_midnight :
    (after .clockTick { live with powered := false, toll := { live.toll with clock := 86399 } }).toll.clock =
      0 := by
  decide +kernel

theorem test_read_totals :
    (answer (after (.readTotals 1#8) office)).map (·.2.take 1) = some [num 2 214] := by decide +kernel

/-! ### The hypotheses of the statements can be met

For each statement with hypotheses, a state and operands that meet them together, clause by clause. -/

theorem live_calm : live.calm := ⟨rfl, by decide +kernel⟩
theorem queued_calm : queued.calm := ⟨rfl, by decide +kernel⟩
theorem entering_calm : entering.calm := ⟨rfl, by decide +kernel⟩
theorem resting_calm : resting.calm := ⟨rfl, by decide +kernel⟩
theorem live_admits_nothing : live.admitsNothing := .inr (.inl ⟨rfl, rfl⟩)
theorem queued_admits_nothing : queued.admitsNothing := .inr (.inl ⟨rfl, rfl⟩)
theorem entering_admits_nothing : entering.admitsNothing := .inr (.inl ⟨rfl, rfl⟩)
theorem resting_admits_nothing : resting.admitsNothing := .inr (.inl ⟨rfl, rfl⟩)

def busy : State := { live with console := { live.console with reply := some ⟨0#8, 0x84#8, none, [], 0, false⟩ } }
def halted : State := { resting with halt := { live.halt with state := .halted, causes := [.allStop] } }
def unpowered : State := { live with powered := false }

/-! #### Steps, invariants and rules over every command -/

theorem witness_StepTakesTheFrontCommand :
    (live.withPending [.roundEnd, .clockTick]).pending = .roundEnd :: [.clockTick] := rfl

theorem witness_EmptyQueuePassesATenth : live.pending = [] := rfl

/-- A command or a step that ends in a next state. -/
theorem next_of {o : Host.Outcome State Fault Refusal}
    (h : (match o with | .next _ => true | _ => false) = true) : ∃ t, o = .next t := by
  cases o with
  | next t => exact ⟨t, rfl⟩
  | fault f => cases h
  | refused r => cases h

def imageOf (generation : Nat) : Image := { contents := Retained.defaults, generation := generation }

/-- Every copy, where image A alone is valid, with the defaults. -/
theorem everyCopy_of (s : State) (p : Retained → Prop) (h : p s.retainedOf) (d : p Retained.defaults)
    (u : s.store.updates = []) (a : s.store.imageA = some (imageOf 0)) (b : s.store.imageB = none) :
    s.everyCopy p := by
  refine ⟨h, by simp [u], ?_, by simp [b]⟩
  intro i hi
  cases a.symm.trans hi
  exact d

def haltedTicking : State := halted.withPending [.clockTick]

theorem witness_NothingMovesUnlessRunning :
    haltedTicking.still ∧ haltedTicking.halt.state ≠ .running ∧ ∃ t, step haltedTicking = .next t := by
  refine ⟨fun _ => ⟨?_, ?_, ?_⟩, by decide +kernel, next_of (by decide +kernel)⟩
  · intro i; rcases i with k | k | k <;> cases k <;> decide +kernel
  · intro f; rcases f with ⟨k, d⟩; cases k <;> cases d <;> decide +kernel
  · intro k; cases k <;> decide +kernel

/-- Batch 9 has PROCEED at its entry face, its gate OPEN, and a round ends. -/
theorem witness_NothingMovesUnlessRunning_signals :
    (entering.withPending [.roundEnd]).signalsFit ∧ (entering.face ⟨.k3, .lower⟩).commanded = .proceed ∧
      ∃ t, step (entering.withPending [.roundEnd]) = .next t := by
  refine ⟨?_, rfl, next_of (by decide +kernel)⟩
  intro f; rcases f with ⟨k, d⟩; cases k <;> cases d <;> decide +kernel

/-- Batch 9 is about to be abandoned, with receipts held. -/
def abandoning : State := { resting with receipts := office.receipts }.withPending [.abandonBatch 1#8 9]

theorem witness_ReceiptsNeverExceed64 :
    abandoning.everyCopy Retained.receiptsFit ∧ ∃ t, step abandoning = .next t :=
  ⟨everyCopy_of _ _ (by unfold Retained.receiptsFit; decide +kernel)
    (by unfold Retained.receiptsFit; decide +kernel) (by decide +kernel) (by decide +kernel)
    (by decide +kernel), next_of (by decide +kernel)⟩

theorem witness_AccountsBalance :
    (abandoning.everyCopy fun r => r.accountFits ∧ r.waterFits) ∧ ∃ t, step abandoning = .next t :=
  ⟨everyCopy_of _ _
    (by unfold Retained.accountFits Receipt.fits Retained.waterFits; decide +kernel)
    (by unfold Retained.accountFits Receipt.fits Retained.waterFits; decide +kernel)
    (by decide +kernel) (by decide +kernel) (by decide +kernel), next_of (by decide +kernel)⟩

/-- Station 1 is LOST with a reset waiting, station 2 MISSING. -/
def silent : State :=
  ((live.setStation .k1 ⟨.lost, 5, [freshEntry .reset]⟩).setStation .k2 ⟨.missing, 1, []⟩).withPending
    [.pollFailed .k1]

theorem witness_StationRecordsFit :
    (∀ k, (silent.station k).fits ∧ oneEntryPerSlot (silent.station k).queue) ∧
      ∃ t, step silent = .next t := by
  refine ⟨?_, next_of (by decide +kernel)⟩
  intro k
  unfold StationRec.fits oneEntryPerSlot
  cases k <;> decide +kernel

def clearing : State := (live.setFaults [iceFault 255 true none]).withPending [.clearFault 1#8 255]

theorem witness_FaultTableFits : clearing.faultTableFits ∧ ∃ t, step clearing = .next t := by
  refine ⟨⟨by decide +kernel, by decide +kernel, by decide +kernel, by decide +kernel, by decide +kernel,
    by decide +kernel, ?_⟩, next_of (by decide +kernel)⟩
  intro k i
  cases k <;> cases i <;> decide +kernel

def ordered : State :=
  { resting with traffic := { resting.traffic with order := some ⟨[40], .up⟩ } }.withPending [.cancelOrder 1#8]

theorem witness_BatchTableFits :
    (ordered.everyCopy Retained.tableFits ∧ ordered.orderSized) ∧ ∃ t, step ordered = .next t := by
  refine ⟨⟨everyCopy_of _ _ (by unfold Retained.tableFits; decide +kernel)
    (by unfold Retained.tableFits; decide +kernel) (by decide +kernel) (by decide +kernel) (by decide +kernel),
    ?_⟩, next_of (by decide +kernel)⟩
  intro o h
  cases (show ordered.traffic.order = some ⟨[40], .up⟩ by decide +kernel).symm.trans h
  decide

/-- Two batches hold claims, under the edition held. -/
def following : State :=
  (withBatches [batchAt 17 .four (stepIn .opening [.c2]) [], batchAt 9 .one (stepIn .opening [.c3]) []]
    queued).withPending [.roundEnd]

theorem witness_BatchTableFits_claims :
    following.everyCopy Retained.tableFits ∧ following.claimsFit ∧ following.everyCopy Retained.editionsFit ∧
      following.traffic.batches.map Batch.claims = [[.c2], [.c3]] ∧ ∃ t, step following = .next t :=
  ⟨everyCopy_of _ _ (by unfold Retained.tableFits; decide +kernel) (by unfold Retained.tableFits; decide +kernel)
      (by decide +kernel) (by decide +kernel) (by decide +kernel),
    by unfold State.claimsFit; decide +kernel,
    everyCopy_of _ _ (fun b _ => .inl ⟨edition 1, rfl, by revert b; decide +kernel⟩)
      (by unfold Retained.editionsFit; decide +kernel) (by decide +kernel) (by decide +kernel)
      (by decide +kernel),
    by decide +kernel, next_of (by decide +kernel)⟩

def withdrawing : State := queued.withPending [.withdrawVessel 1#8 38]

theorem witness_QueuesStayInOrder :
    withdrawing.everyCopy Retained.queuesFit ∧ ∃ t, step withdrawing = .next t :=
  ⟨everyCopy_of _ _ (by unfold Retained.queuesFit; decide +kernel)
    (by unfold Retained.queuesFit; decide +kernel) (by decide +kernel) (by decide +kernel) (by decide +kernel),
    next_of (by decide +kernel)⟩

/-- A queue, a batch and a pending order stand in their places. -/
theorem witness_QueuesStayInOrder_places :
    (ordered.everyCopy fun r => r.tableFits ∧ r.passagesFit) ∧ ordered.orderStands ∧
      ordered.traffic.order.isSome = true ∧ ∃ t, step ordered = .next t := by
  refine ⟨everyCopy_of _ _ (by unfold Retained.tableFits Retained.passagesFit; decide +kernel)
    (by unfold Retained.tableFits Retained.passagesFit; decide +kernel) (by decide +kernel) (by decide +kernel)
    (by decide +kernel), ?_, by decide +kernel, next_of (by decide +kernel)⟩
  intro o h
  cases (show ordered.traffic.order = some ⟨[40], .up⟩ by decide +kernel).symm.trans h
  decide +kernel

def recovering : State :=
  { live with halt := { live.halt with
      state := .recovering, awaited := ⟨some true, some true, none, some false⟩ } }.withPending [.clockTick]

theorem witness_HaltAndCalendarFit :
    (recovering.haltFits ∧ recovering.calendarFits ∧ recovering.console.order.length ≤ 8) ∧
      ∃ t, step recovering = .next t :=
  ⟨⟨⟨by decide +kernel, by decide +kernel, fun _ => ⟨.k3, by decide +kernel⟩⟩,
    ⟨by decide +kernel, everyCopy_of _ _ (by decide +kernel) (by decide +kernel) (by decide +kernel)
      (by decide +kernel) (by decide +kernel)⟩, by decide +kernel⟩, next_of (by decide +kernel)⟩

def roundEnding : State := live.withPending [.roundEnd]

/-- A property of each value an optional field may hold, tested. -/
theorem some_of {α : Type} {o : Option α} {p : α → Prop} [DecidablePred p]
    (h : (o.all fun v => decide (p v)) = true) : ∀ v, o = some v → p v := by
  intro v hv
  simpa [hv] using h

theorem witness_LevelsAndSettingsStayInRange :
    (roundEnding.levelsFit ∧ roundEnding.everyCopy fun r => r.settingsFit ∧ r.chambersFit) ∧
      ∃ t, step roundEnding = .next t := by
  refine ⟨⟨⟨?_, some_of (by decide +kernel), some_of (by decide +kernel), some_of (by decide +kernel),
    some_of (by decide +kernel), ?_, by decide +kernel⟩,
    everyCopy_of _ _ ⟨by unfold Retained.settingsFit; decide +kernel, ?_⟩
    ⟨by unfold Retained.settingsFit; decide +kernel, ?_⟩ (by decide +kernel) (by decide +kernel)
    (by decide +kernel)⟩, next_of (by decide +kernel)⟩
  · intro c
    cases c <;> exact ⟨some_of (by decide +kernel), some_of (by decide +kernel), some_of (by decide +kernel),
      by decide +kernel, by decide +kernel⟩
  · intro k; cases k <;> decide +kernel
  · intro c
    cases c <;> exact ⟨some_of (by decide +kernel), some_of (by decide +kernel)⟩
  · intro c
    cases c <;> exact ⟨some_of (by decide +kernel), some_of (by decide +kernel)⟩

theorem witness_ClockAndReceiptsStand :
    (∃ t, exec .clockTick live = .next t ∧ t.toll.clock ≠ live.toll.clock) ∧
      (∃ t, exec .roundEnd office = .next t) ∧ Instr.roundEnd ≠ .powerOn ∧
      ∀ tag day n, Instr.roundEnd ≠ .releaseReceipts tag day n :=
  ⟨⟨_, rfl, by decide +kernel⟩, next_of (by decide +kernel), nofun, nofun⟩

theorem witness_EachCommandIsOneUpdate :
    let c := Instr.setRunLimits 1#8 600 600
    (∃ t, exec c live = .next t) ∧ c ≠ .powerOn ∧ c ≠ .powerFail ∧ c ≠ .retainedUpdateComplete ∧
      c ≠ .transmitterFree :=
  ⟨next_of (by decide +kernel), nofun, nofun, nofun, nofun⟩

theorem witness_NoPowerNoEffect :
    unpowered.powered = false ∧ Instr.roundEnd ≠ .powerOn ∧ Instr.roundEnd ≠ .clockTick ∧
      Instr.roundEnd ≠ .dominantStretchStart ∧ Instr.roundEnd ≠ .dominantStretchEnd :=
  ⟨rfl, nofun, nofun, nofun, nofun⟩

/-! #### The console link -/

theorem witness_EveryRequestIsAnswered :
    requestHeader (.setTrust 5#8 4 0) = some (5#8, 0x03#8) ∧ live.takesRequest (.setTrust 5#8 4 0) = true ∧
      busy.takesRequest (.setTrust 5#8 4 0) = false := by
  decide +kernel

theorem witness_WholeFramesJoinTheOrder :
    live.powered = true ∧ (List.replicate 248 (0xA5#8 : Octet)).length ≤ 248 ∧ live.console.fragment = [] ∧
      ∀ o ∈ ([0x00#8, 0xA4#8] : List Octet), o ≠ 0xA5#8 := by
  decide +kernel

theorem witness_BrokenFramesLeaveNothing :
    (live.powered = true ∧ ([0x02#8] : List Octet).length ≤ 248 ∧ live.console.fragment = [] ∧
      [0xA5#8, 0x03#8] ++ (frameOctets 5#8 0x04#8 [0x02#8]).drop 2 = frameOctets 5#8 0x04#8 [0x02#8] ∧
      (frameOctets 5#8 0x04#8 [0x02#8]).drop 2 ≠ []) ∧
    ((1#8).toNat < 2 ∨ 250 < (1#8).toNat) ∧ ((251#8).toNat < 2 ∨ 250 < (251#8).toNat) ∧
    (let body : List Octet := [0x03#8, 5#8, 0x04#8, 0x02#8]
     body = BitVec.ofNat 8 (([0x02#8] : List Octet).length + 2) :: 5#8 :: 0x04#8 :: [0x02#8] ∧
      [0#8, 0#8] ≠ checkOctets body ∧ ∀ o ∈ body ++ [0#8, 0#8], o ≠ 0xA5#8) := by
  decide +kernel

theorem witness_UnreadableFramesAreRefused :
    let u : ConsoleFrame := ⟨9#8, 0x05#8, []⟩
    let m : ConsoleFrame := ⟨9#8, 0x04#8, [1#8, 2#8]⟩
    u.kind ∉ requestKinds ∧ requestOf u = .refuseUnknownKind u ∧
      live.takesRequest (.refuseUnknownKind u) = true ∧ requestOf m = .refuseMalformed m ∧
      live.takesRequest (.refuseMalformed m) = true := by
  decide +kernel

theorem witness_TransmitterSendsByTurns :
    live.powered = true ∧ live.restartDue = false ∧ live.console.sending = none ∧
      live.console.lastWasReply = false ∧ live.console.reply = none ∧ live.console.notices = [] ∧
      busy.restartDue = false ∧ busy.console.reply.map (·.waits) = some 0 ∧
      (State.reset.restartDue = false ∧ State.reset.console.notices = [resetNotice] ∧
        State.reset.console.reply = none) := by
  decide +kernel

theorem witness_RestartStartsAfresh :
    live.takesRequest (.restart 1#8) = true ∧
      let s := { live with console := { live.console with sending := some ⟨[], true, true⟩ } }
      s.powered = true ∧ s.console.sending = some ⟨[], true, true⟩ ∧ (⟨[], true, true⟩ : Sending).isRestart = true := by
  decide +kernel

/-! #### Reads and settings -/

theorem witness_ReadsOfTheFlight :
    (chamberOf 1 = some .c1 ∧ live.takesRequest (.readChamber 1#8 1) = true) ∧
    (chamberOf 3 = some .c3 ∧ live.takesRequest (.readChamber 1#8 3) = true) ∧
    live.takesRequest (.readFaults 1#8 15) = true ∧ live.takesRequest (.readFaults 1#8 16) = true ∧
    (stationOf 3 = some .k3 ∧ live.takesRequest (.readStation 1#8 3) = true) ∧
    (directionOf 1 = some .down ∧ queued.takesRequest (.readQueue 1#8 1 23) = true) ∧
    (resting.batch? 9).isSome = true ∧ resting.takesRequest (.readBatch 1#8 9) = true ∧
    resting.batch? 8 = none ∧ resting.takesRequest (.readBatch 1#8 8) = true := by
  decide +kernel

theorem witness_ReadsOfTheOffice :
    live.takesRequest (.readTariff 1#8 0) = true ∧ live.takesRequest (.readTariff 1#8 1) = true ∧
    live.takesRequest (.readTariff 1#8 2) = true ∧
    (priorityOf 1 = some .priority ∧ flagOf 1 = some true ∧
      measuresValid (vessel 0x41#8 0 550 1) = true ∧ live.toll.current = some (edition 1) ∧
      live.takesRequest (.quoteFee 1#8 ⟨vessel 0x41#8 0 550 1, 1, 0⟩) = true) ∧
    office.takesRequest (.peekReceipts 1#8 1) = true ∧ office.takesRequest (.peekReceipts 1#8 4) = true ∧
    office.takesRequest (.readTotals 1#8) = true ∧ live.takesRequest (.readFlight 1#8) = true ∧
    live.takesRequest (.readSettings 1#8) = true := by
  decide +kernel

theorem witness_TimingSettingsAreClamped :
    live.takesRequest (.setLevelSettings 1#8 ⟨49, 201, 9, 301, 0, 1201⟩) = true ∧
    live.takesRequest (.setMovementLimits 1#8 ⟨9, 301, 199, 3001, 601⟩) = true ∧
    live.takesRequest (.setFaultTiming 1#8 ⟨101, 19, 9⟩) = true := by
  decide +kernel

theorem witness_RunLimitsAreClamped :
    live.takesRequest (.setRunLimits 1#8 599 36001) = true ∧ max 600 (min 36000 599) = 600 ∧
      max 600 (min 36000 36001) = 36000 := by
  decide +kernel

theorem witness_OfficeSettings :
    (flagOf 1 = some true ∧ flagOf 0 = some false ∧
      live.takesRequest (.setNotices 1#8 ⟨1, 0, 1, 0⟩) = true) ∧
    (editionValid (edition 2) = true ∧ live.takesRequest (.setTariff 1#8 (edition 2)) = true) ∧
    live.takesRequest (.setClock 1#8 86399) = true ∧ live.takesRequest (.setClock 1#8 86400) = true := by
  decide +kernel

theorem witness_TrustAndGeometryAreSet :
    (chamberOf 2 = some .c2 ∧ trustOf 0 = some .both ∧ (live.chamber .c2).trust = .both ∧
      live.takesRequest (.setTrust 1#8 2 0) = true) ∧
    (trustOf 2 = some .lowerOnly ∧ (live.chamber .c2).trust ≠ .lowerOnly ∧
      live.takesRequest (.setTrust 1#8 2 2) = true) ∧
    (live.setChamber .c2 { live.chamber .c2 with condition := .disputed }).takesRequest (.setTrust 1#8 2 2) = true ∧
    (chamberValid goodChamber = true ∧ live.traffic.batches = [] ∧
      live.takesRequest (.setChamber 1#8 goodChamber) = true) ∧
    live.calm ∧
    (live.setChamber .c1 { live.chamber .c1 with config := some (chamberConfigOf goodChamber) }).admitsNothing ∧
    resting.traffic.batches ≠ [] ∧ resting.takesRequest (.setChamber 1#8 goodChamber) = true :=
  ⟨by decide +kernel, by decide +kernel, by decide +kernel, by decide +kernel, live_calm, .inr (.inl ⟨rfl, rfl⟩),
    by decide +kernel, by decide +kernel⟩

theorem witness_InputModesAndClearFault :
    (stationOf 2 = some .k2 ∧ modeOf 0 = some .off ∧ modeOf 2 = some .latch ∧
      live.takesRequest (.setInputModes 1#8 ⟨2, 0, 2, 0⟩) = true) ∧
    (live.takesRequest (.clearFault 1#8 9) = true ∧ live.mach.faults.find? (fun r => r.number == 9) = none) ∧
    (let s := live.setFaults [iceFault 9 false none]
     s.takesRequest (.clearFault 1#8 9) = true ∧
        s.mach.faults.find? (fun r => r.number == 9) = some (iceFault 9 false none)) ∧
    (let s := (live.setFaults [iceFault 9 true none]).setHeld .k1 .ice (some true)
     s.takesRequest (.clearFault 1#8 9) = true ∧ s.faultActive (iceFault 9 true none) = true) ∧
    (let s := live.setFaults [iceFault 9 true none]
     s.takesRequest (.clearFault 1#8 9) = true ∧ s.faultActive (iceFault 9 true none) = false ∧ s.calm ∧
        ∀ k i, s.unrecorded k i = false) ∧
    (let r : FaultRec := { iceFault 9 true none with kind := .input .localStop }
     let s := { live with halt := halted.halt }.setFaults [r]
     s.takesRequest (.clearFault 1#8 9) = true ∧ s.faultActive r = false ∧ s.halt.state = .halted ∧ s.calm ∧
        ∀ k i, s.unrecorded k i = false) := by
  refine ⟨by decide +kernel, by decide +kernel, by decide +kernel, by decide +kernel,
    ⟨by decide +kernel, by decide +kernel, ⟨rfl, by decide +kernel⟩, ?_⟩,
    by decide +kernel, by decide +kernel, by decide +kernel, ⟨rfl, by decide +kernel⟩, ?_⟩ <;>
  · intro k i; cases k <;> cases i <;> rfl

theorem shown_repeats_items (k : Station) : shown.itemsRepeat k (quiet k) := by
  unfold State.itemsRepeat
  cases k <;> exact ⟨rfl, rfl, rfl, fun w h => by cases w <;> cases h <;> rfl⟩

theorem shown_repeats_lamps (k : Station) (x : Side) : shown.lampRepeats k (quiet k) x := by
  unfold State.lampRepeats
  cases k <;> cases x <;> rfl

/-- The report of station 1 whose ICE input, or whose LOCAL STOP, is active. -/
def icy : StationReport := { quiet .k1 with inputs := ⟨false, false, true, false⟩ }
def stopped : StationReport := { quiet .k1 with inputs := ⟨false, false, false, true⟩ }

/-- Clauses of one changed input: ICE becomes active with no record and with one, ICE becomes inactive, a LOCAL
STOP. -/
theorem witness_InputModesAndClearFault_reports :
    (shown.powered = true ∧ shown.calm ∧ shown.alarmTaken .k1 icy = true ∧ shown.itemsRepeat .k1 icy ∧
      (∀ x, shown.lampRepeats .k1 icy x) ∧ (∀ j, j ≠ .ice → shown.inputRepeats .k1 icy j) ∧
      ¬shown.inputRepeats .k1 icy .ice ∧ (shown.mach.overload.get .k1).expiry = none ∧
      (shown.mach.faults.map (·.number)).Nodup ∧
      reportedInput icy.inputs .ice = true ∧ inputMode (shown.mach.modes.get .k1) .ice ≠ .off ∧
      shown.faultOf (.input .ice) (.station .k1) = none ∧ shown.mach.faults.length < 16) ∧
    (let s := shown.setFaults [iceFault 7 false (some 100)]
     s.calm ∧ s.alarmTaken .k1 icy = true ∧ ¬s.inputRepeats .k1 icy .ice ∧
        s.faultOf (.input .ice) (.station .k1) = some (iceFault 7 false (some 100)) ∧
        (s.mach.faults.map (·.number)).Nodup) ∧
    (let s := (shown.setFaults [iceFault 7 false none]).setHeld .k1 .ice (some true)
     s.calm ∧ s.alarmTaken .k1 (quiet .k1) = true ∧ ¬s.inputRepeats .k1 (quiet .k1) .ice ∧
        (∀ j, j ≠ .ice → s.inputRepeats .k1 (quiet .k1) j) ∧
        reportedInput (quiet .k1).inputs .ice = false ∧ s.unrecorded .k1 .ice = false ∧
        s.faultOf (.input .ice) (.station .k1) = some (iceFault 7 false none) ∧
        (s.mach.faults.map (·.number)).Nodup) ∧
    (shown.alarmTaken .k1 stopped = true ∧ (∀ j, j ≠ .localStop → shown.inputRepeats .k1 stopped j) ∧
      ¬shown.inputRepeats .k1 stopped .localStop ∧ reportedInput stopped.inputs .localStop = true) := by
  unfold State.inputRepeats
  refine ⟨⟨rfl, ⟨rfl, by decide +kernel⟩, by decide +kernel, shown_repeats_items .k1, shown_repeats_lamps .k1, ?_,
      by decide +kernel, rfl, by decide, rfl, by decide, rfl, by decide⟩,
    ⟨⟨rfl, by decide +kernel⟩, by decide +kernel, by decide +kernel, by decide +kernel, by decide +kernel⟩,
    ⟨⟨rfl, by decide +kernel⟩, by decide +kernel, by decide +kernel, ?_, rfl, rfl, by decide +kernel,
      by decide +kernel⟩,
    by decide +kernel, ?_, by decide +kernel, rfl⟩ <;>
  · intro j h; cases j <;> first | rfl | exact absurd rfl h

/-! #### Timers and signals -/

theorem witness_MovementLimitsExpire :
    (let s := live.setMovement (.gate .k2) (some (moving .awaitStart (some 50) none 0))
     s.powered = true ∧ s.calm ∧ (s.item (.gate .k2)).movement = some (moving .awaitStart (some 50) none 0) ∧
        s.faultOf .startTimeout (.item (.gate .k2)) = none ∧ s.mach.faults.length < 16) ∧
    (let s := withBatches [batchAt 17 .four (stepIn .opening [.c2, .c3]) []]
        (live.setMovement (.gate .k2) (some { moving .travel none (some 1200) 0 with
          owner := .batch 17 (.main .up .four) }))
     s.powered = true ∧ s.calm ∧ s.startLimitOf (.gate .k2) = none ∧
        s.travelLimitOf (.gate .k2) = some 1200 ∧ (s.batch? 17).isSome = true ∧
        s.faultOf .travelTimeout (.item (.gate .k2)) = none ∧ s.mach.faults.length < 16) ∧
    live.startLimitOf (.gate .k2) = none ∧ live.travelLimitOf (.gate .k2) = none :=
  ⟨⟨rfl, ⟨rfl, by decide +kernel⟩, rfl, rfl, by decide⟩,
    ⟨rfl, ⟨rfl, by decide +kernel⟩, rfl, rfl, rfl, rfl, by decide⟩, rfl, rfl⟩

/-- The path of a running batch: the movement that stands after its failure is the close of R146. -/
theorem witness_MovementLimitsExpire_path :
    let m : Movement := { moving .travel none (some 1200) 0 with owner := .batch 9 (.main .up .one) }
    let s := (withBatches [batchAt 9 .one (stepIn .flowing [.c3]) []] queued).setItem (.sluice .k3)
      { position := some .opening, command := .opens, movement := some m }
    s.powered = true ∧ s.calm ∧ (s.item (.sluice .k3)).movement = some m ∧ m.travelLimit = some 1200 ∧
      s.faultOf .travelTimeout (.item (.sluice .k3)) = none ∧ (s.batch? 9).isSome = true ∧
      (((after (.travelLimitExpiry (.sluice .k3)) s).item (.sluice .k3)).movement.map fun m => (m.target, m.phase)) =
        some (.shut, .awaitTaken) :=
  ⟨rfl, ⟨rfl, by decide +kernel⟩, rfl, rfl, rfl, rfl, by decide +kernel⟩

theorem witness_OverloadAndResumeTimersExpire :
    (let s := live.setOverload .k1 ⟨some 20, some true⟩
     s.powered = true ∧ s.calm ∧ s.mach.overload.get .k1 = ⟨some 20, some true⟩ ∧
        s.held .k1 .overload ≠ some true ∧ (s.mach.modes.get .k1).overload ≠ .off ∧
        s.faultOf (.input .overload) (.station .k1) = none ∧ s.mach.faults.length < 16) ∧
    (live.mach.overload.get .k1).expiry = none ∧
    (let s := live.setFaults [iceFault 7 false (some 100)]
     s.powered = true ∧ s.calm ∧ (∀ j i, s.unrecorded j i = false) ∧
        s.mach.faults.find? (fun x => x.number == 7) = some (iceFault 7 false (some 100)) ∧
        isGateFault .k1 (iceFault 7 false (some 100)) = true ∧
        (∀ x ∈ s.mach.faults, x.number ≠ 7 → isGateFault .k1 x = false) ∧
        (s.item (.gate .k1)).movement = none) ∧
    (let m := { moving .held none none 0 with resumptions := 2 }
     let s := (live.setFaults [iceFault 7 false (some 100)]).setMovement (.gate .k1) (some m)
     s.calm ∧ (s.item (.gate .k1)).movement = some m ∧ m.phase = .held ∧
        m.resumptions < s.mach.timing.resumeLimit) ∧
    (let m := { moving .held none none 0 with resumptions := 3 }
     let s := (live.setFaults [iceFault 7 false (some 100)]).setMovement (.gate .k1) (some m)
     s.calm ∧ (s.item (.gate .k1)).movement = some m ∧ m.phase = .held ∧ m.placed = true ∧
        s.mach.timing.resumeLimit ≤ m.resumptions) := by
  refine ⟨⟨rfl, ⟨rfl, by decide +kernel⟩, rfl, by decide, by decide, rfl, by decide⟩, rfl,
    ⟨rfl, ⟨rfl, by decide +kernel⟩, ?_, by decide +kernel, rfl, by decide +kernel, rfl⟩,
    ⟨⟨rfl, by decide +kernel⟩, rfl, rfl, by decide⟩, ⟨rfl, by decide +kernel⟩, rfl, rfl, rfl, by decide⟩
  intro k i; cases k <;> cases i <;> rfl

theorem witness_BlankingAndChangeoverExpire :
    (let s := live.setChamber .c1 { live.chamber .c1 with surge := some 5 }
     s.powered = true ∧ (s.chamber .c1).surge = some 5) ∧ (live.chamber .c1).surge = none ∧
    (let s := live.setMovement (.sluice .k1) (some (moving .awaitTaken none none 0))
     let s := { s with mach := { s.mach with changeover := s.mach.changeover.set .c2 (some 0) }, now := 50 }
     s.powered = true ∧ s.calm ∧ s.mach.changeover.get .c2 = some 0 ∧
        s.now ≤ 0 + s.mach.limits.changeover ∧ s.waitingItems = [.sluice .k1] ∧
        (s.item (.sluice .k1)).movement = some (moving .awaitTaken none none 0) ∧
        (s.reach (0 + s.mach.limits.changeover)).mayPlace (.sluice .k1) .opened = true) ∧
    live.mach.changeover.get .c2 = none ∧
    (let s := { live with mach := { live.mach with changeover := live.mach.changeover.set .c2 (some 0) }, now := 51 }
     s.mach.changeover.get .c2 = some 0 ∧ 0 + s.mach.limits.changeover < s.now) :=
  ⟨by decide +kernel, rfl, ⟨rfl, ⟨rfl, by decide +kernel⟩, rfl, by decide, by decide +kernel, rfl, by decide +kernel⟩,
    rfl, by decide +kernel⟩

theorem witness_ProceedFollowsTheAllStopInterval :
    (live.takesRequest (.setSignalInterval 1#8 9) = true ∧ live.calm) ∧
    (asking.powered = true ∧ asking.calm ∧ asking.halt.state = .running ∧
      (asking.face (farFace ⟨.k3, .lower⟩)).stopSince = some 0 ∧
      (asking.face (farFace ⟨.k3, .lower⟩)).request = none ∧
      (asking.face ⟨.k3, .lower⟩).request.isSome = true ∧ (asking.face ⟨.k3, .lower⟩).commanded ≠ .proceed ∧
      (asking.reach (0 + asking.signal.interval)).mayProceed ⟨.k3, .lower⟩ = true ∧
      ∀ d, approachOf ⟨.k3, .lower⟩ = some d → asking.approachClosed d = false) ∧
    live.proceedWaits ⟨.k3, .lower⟩ = false :=
  ⟨⟨by decide +kernel, live_calm⟩,
    ⟨rfl, ⟨rfl, by decide +kernel⟩, rfl, rfl, rfl, rfl, by decide, by decide +kernel,
      by intro d h; cases h; decide +kernel⟩, rfl⟩

/-- Batch 9 enters at G3 by the lower face, which shows PROCEED; the other lamps are PROVED. -/
def lit : State :=
  let faces := shown.signal.faces.set ⟨.k3, .lower⟩ (entering.face ⟨.k3, .lower⟩)
  { entering with
    signal := { entering.signal with faces := faces }, line := { entering.line with slot := some .k3 } }

/-- The lamp of the entry face is reported FAILED. -/
def dark : StationReport := { quiet .k3 with gate := .opened, lower := ⟨.proceed, false⟩ }

theorem witness_ProceedFollowsTheAllStopInterval_lamps :
    lit.powered = true ∧ lit.calm ∧ lit.alarmTaken .k3 dark = true ∧ lit.itemsRepeat .k3 dark ∧
      (∀ i, lit.inputRepeats .k3 dark i) ∧ (lit.mach.overload.get .k3).expiry = none ∧
      (∀ y, y ≠ .lower → lit.lampRepeats .k3 dark y) ∧ (lit.face ⟨.k3, .lower⟩).lamp = some true ∧
      (reportSide dark .lower).proved = false ∧ lit.faultOf .lampFail (.face ⟨.k3, .lower⟩) = none ∧
      lit.mach.faults.length < 16 ∧ (lit.mach.faults.map (·.number)).Nodup ∧ ¬lit.reportEnds .k3 .lower ∧
      (lit.face ⟨.k3, .lower⟩).commanded = .proceed ∧
      (lit.face ⟨.k3, .lower⟩).request = some (9, .main .up .two) ∧ (lit.batch? 9).isSome = true := by
  unfold State.itemsRepeat State.inputRepeats State.lampRepeats State.reportEnds
  refine ⟨rfl, ⟨rfl, by decide +kernel⟩, by decide +kernel,
    ⟨rfl, rfl, rfl, fun w h => by cases w <;> cases h⟩, ?_, rfl, ?_, rfl, rfl, rfl, by decide, by decide, ?_, rfl,
    rfl, rfl⟩
  · intro i; cases i <;> rfl
  · intro y h; cases y
    · rfl
    · exact absurd rfl h
  · rintro (⟨i, m, hi, hm, -⟩ | ⟨y, hy, hw⟩)
    · cases i with
      | gate k =>
        have e : (lit.item (.gate .k3)).movement = none := rfl
        cases k <;> first | exact absurd hi (by decide) | exact absurd (e.symm.trans hm) (by simp)
      | sluice k =>
        have e : (lit.item (.sluice .k3)).movement = none := rfl
        cases k <;> first | exact absurd hi (by decide) | exact absurd (e.symm.trans hm) (by simp)
      | byWash w => cases w <;> exact absurd hi (by decide)
    · cases y
      · exact hw rfl
      · exact hy rfl

/-! #### The line -/

theorem witness_LineRateAndStationReset :
    (rateOf 0 = some .fast ∧ halted.takesRequest (.setLineRate 1#8 0) = true ∧ halted.halt.state ≠ .running) ∧
    (rateOf 1 = some .slow ∧ halted.takesRequest (.setLineRate 1#8 1) = true ∧ halted.line.rate = .slow) ∧
    (live.takesRequest (.setLineRate 1#8 0) = true ∧ live.halt.state = .running ∧ live.line.rate ≠ .fast ∧
      live.calm) ∧
    (stationOf 3 = some .k3 ∧ halted.takesRequest (.resetStation 1#8 3) = true) ∧
    (entering.takesRequest (.resetStation 1#8 3) = true ∧ entering.halt.state = .running ∧
      entering.stationInUse .k3 = true) ∧
    (live.takesRequest (.resetStation 1#8 3) = true ∧ live.stationInUse .k3 = false) :=
  ⟨by decide +kernel, by decide +kernel, ⟨by decide +kernel, rfl, by decide, live_calm⟩, by decide +kernel,
    by decide +kernel, by decide +kernel⟩

theorem witness_LineEventsMoveTheRound :
    (live.powered = true ∧ live.line.pulse = false ∧ live.line.poll = none ∧
      slotAfter live.line.slot = some .k0 ∧ live.line.stretch = none) ∧
    (let s := { live with line := { live.line with slot := some .k2, stretch := some false } }
     s.line.pulse = false ∧ s.line.poll = none ∧ slotAfter s.line.slot = some .k3 ∧
        s.line.stretch.isSome = true) ∧
    slotAfter live.line.slot ≠ some .k1 ∧ (State.reset.powered = true ∧ State.reset.line.pulse = true) := by
  decide +kernel

/-- A poll of station 1 in progress with no command, and with a reset carried. -/
def polling (c : Option Machine.Command) : State :=
  { live with line := { live.line with slot := some .k1, poll := some ⟨.k1, true, c⟩ } }

/-- A frame of station 1 stands in its own poll slot, in the open slot, and outside both; one fails its
check. -/
theorem witness_LineEventsMoveTheRound_frames :
    let f := lineFrame (lineAddress .k1) [0x10#8]
    lineSender f = some .k1 ∧ (polling none).answerDue .k1 = true ∧
      (shown.powered = true ∧ shown.alarmHeard = true) ∧ live.discards f = true ∧
      (polling none).discards [0x02#8, 0x11#8, 0xEE#8] = true ∧
      (0x10#8 : Octet) ≠ 0x11#8 ∧ linePasses ([0x02#8] ++ 0x10#8 :: [0xEE#8]) = true := by
  decide +kernel

theorem witness_GoodAnswersAreHandedOn :
    ((polling none).powered = true ∧ (polling none).line.poll = some ⟨.k1, true, none⟩ ∧
      (polling none).goodAnswer .k1 ⟨.k1, true, none⟩ ⟨none, some 18301, none, quiet .k1⟩ = true ∧
      chamberAbove .k1 = some .c1 ∧
      ((polling none).chamber .c1).config = some (geometry 14200 17800 18000 18300) ∧
      (geometry 14200 17800 18000 18300).crest < min 18301 20000) ∧
    ((polling (some .reset)).line.poll = some ⟨.k1, true, some .reset⟩ ∧
      (polling (some .reset)).goodAnswer .k1 ⟨.k1, true, some .reset⟩
        ⟨some .taken, some 1, none, quiet .k1⟩ = true) ∧
    (shown.powered = true ∧ shown.alarmTaken .k1 (quiet .k1) = true) ∧
    (shown.alarmHeard = true ∧ shown.alarmTaken .k1 (quiet .k0) = false) ∧ live.alarmHeard = false := by
  decide +kernel

/-- The movements that a verdict and a report move on. -/
theorem witness_GoodAnswersAreHandedOn_movements :
    (let m := { moving .awaitTaken none none 0 with queued := true }
     let s := live.setMovement (.sluice .k2) (some m)
     (s.item (.sluice .k2)).movement = some m ∧ m.phase = .awaitTaken ∧ m.queued = true ∧
        orderTarget .opens = some m.target) ∧
    (let m := moving .awaitStart (some 50) none 0
     let s := live.setMovement (.sluice .k2) (some m)
     (s.item (.sluice .k2)).movement = some m ∧ m.phase = .awaitStart ∧
        m.owner = .batch 17 (.main .up .three)) ∧
    (moving .held none none 0).phase = .held := by
  decide +kernel

theorem witness_FailedPollsAreCounted :
    ((polling none).powered = true ∧ (polling none).line.poll = some ⟨.k1, true, none⟩) ∧
    (((polling none).setStation .k1 ⟨.missing, 4, []⟩).line.poll = some ⟨.k1, true, none⟩) ∧
    live.pollOf .k1 = none ∧
    ((polling none).pollOf .k1 = some ⟨.k1, true, none⟩ ∧
      (polling none).goodAnswer .k1 ⟨.k1, true, none⟩ ⟨some .taken, none, none, quiet .k1⟩ = false) := by
  decide +kernel

theorem witness_RoundEndDerivesTheLevels :
    (let s := { live with line := { live.line with slot := some .k3 } }
     s.powered = true ∧ s.line.slot = some .k3 ∧ s.line.poll = none ∧ s.line.pulse = false) ∧
    live.roundEndDue = false := by
  decide +kernel

/-- An OPEN of S0 waits in the queue of station 0, MISSING, and C1 rises above HIGH; a target counts. -/
theorem witness_RoundEndDerivesTheLevels_high :
    let e := freshEntry (.item (.sluice .k0) .opens)
    let m : Movement := { moving .awaitTaken none none 0 with queued := true, placed := true }
    let s := (live.setItem (.sluice .k0) { position := none, command := .opens, movement := some m }).setStation .k0
      ⟨.missing, 1, [e]⟩
    let s := s.setChamber .c1 { s.chamber .c1 with agreed := some 18001, target := some .full }
    (s.chamber .c1).high = false ∧ ((s.testHigh .c1).chamber .c1).high = true ∧
      oneEntryPerSlot (s.station (itemStation (feedPath .c1))).queue ∧
      (∃ e ∈ (s.station .k0).queue, e.command = .item (.sluice .k0) .opens) ∧
      (s.item (feedPath .c1)).movement = some m ∧ m.phase = .awaitTaken ∧ m.target = .opened ∧
      (s.chamber .c1).target = some .full := by
  unfold oneEntryPerSlot
  decide +kernel

/-! #### Halt, power and the retained store -/

theorem witness_CausesHaltTheFlight :
    (halted.takesRequest (.allStop 1#8) = true) ∧
    (let s := { live with line := { live.line with stretch := some false } }
     s.powered = true ∧ s.line.stretch = some false ∧ s.line.pulse = false) ∧ live.line.stretch ≠ some false ∧
    State.reset.line.pulse = true ∧
    (live.takesRequest (.allStop 1#8) = true ∧ live.halt.state ≠ .halted ∧ live.calm) ∧
    (entering.takesRequest (.allStop 1#8) = true ∧ entering.halt.state ≠ .halted ∧ entering.calm ∧
      (entering.batch? 9).isSome = true) :=
  ⟨by decide +kernel, by decide +kernel, by decide, rfl, ⟨by decide +kernel, by decide, live_calm⟩,
    by decide +kernel, by decide, entering_calm, by decide +kernel⟩

theorem witness_ClearHaltRecovers :
    ([0#8] : List Octet) ≠ [] ∧
    (halted.takesRequest (.clearHalt 1#8) = true ∧ halted.halt.state = .halted ∧
      (∀ c, (halted.chamber c).crest = false) ∧ halted.localStopPresent = false) ∧
    (let s := halted.setChamber .c1 { halted.chamber .c1 with crest := true }
     s.takesRequest (.clearHalt 1#8) = true ∧ s.halt.state = .halted ∧ (s.chamber .c1).crest = true) ∧
    (live.takesRequest (.clearHalt 1#8) = true ∧ live.halt.state ≠ .halted) :=
  ⟨by decide, ⟨by decide +kernel, rfl, by intro c; cases c <;> rfl, by decide +kernel⟩, by decide +kernel,
    by decide +kernel⟩

theorem witness_PowerOnTakesTheNewestImage :
    (let s := { unpowered with store := { unpowered.store with imageA := none, imageB := none } }
     s.store.imageA = none ∧ s.store.imageB = none) ∧
    (let s := { unpowered with store := { unpowered.store with
        imageA := some (imageOf 65535), imageB := some (imageOf 0) } }
     s.powered = false ∧ (imageOf 0).generation =
        (if 65535 ≤ (imageOf 65535).generation then 0 else (imageOf 65535).generation + 1)) ∧
    ((imageOf 65534).generation ≠
        (if 65535 ≤ (imageOf 65535).generation then 0 else (imageOf 65535).generation + 1)) ∧
    (unpowered.store.imageA = some (imageOf 0) ∧ unpowered.store.imageB = none) ∧
    (let s := { unpowered with store := { unpowered.store with imageA := none, imageB := some (imageOf 0) } }
     s.store.imageA = none ∧ s.store.imageB = some (imageOf 0)) := by
  decide +kernel

theorem witness_UpdatesGoToTheOtherImage :
    (live.powered = true ∧ live.store.updates = []) ∧
    (let s := { live with store := { live.store with updates := [Retained.defaults] } }
     s.powered = true ∧ s.store.updates ≠ [] ∧ s.store.updates = Retained.defaults :: [] ∧
        s.store.image s.store.inUse = some (imageOf 0)) ∧
    (let s := { live with store :=
        { imageA := none, imageB := some (imageOf 65535), inUse := .b, updates := [Retained.defaults] } }
     s.store.image s.store.inUse = some (imageOf 65535)) := by
  decide +kernel

/-! #### Traffic -/

theorem witness_RegisterTakesAPlaceInTheQueue :
    (directionOf 0 = some .up ∧ priorityOf 0 = some .ordinary ∧
      referenceValid (vessel 0x41#8 0 550 0).reference = true ∧ measuresValid (vessel 0x41#8 0 550 0) = true ∧
      queued.toll.current.isSome = true ∧ queued.takesRequest (.registerVessel 1#8 (vessel 0x41#8 0 550 0)) = true ∧
      queued.unfit 550 60 120 = none ∧ (∀ q ∈ queued.allPassages, q.reference ≠ [0x41#8]) ∧
      queued.charge .up < 24 ∧ queued.traffic.nextStamp ≤ 65535 ∧
      ∀ q ∈ queued.allPassages, q.number ≠ queued.traffic.nextPassage) ∧
    queued.calm ∧ queued.admitsNothing ∧
    (queued.flightDims = some ⟨1100, 120, 300⟩ ∧ measuresValid (vessel 0x41#8 0 1101 0) = true ∧
      queued.takesRequest (.registerVessel 1#8 (vessel 0x41#8 0 1101 0)) = true ∧ 1100 < 1101) ∧
    (measuresValid { vessel 0x41#8 0 1100 0 with beam := 117 } = true ∧ 120 < 117 + 4) ∧
    (measuresValid { vessel 0x41#8 0 1100 0 with beam := 116, draught := 271 } = true ∧ 116 + 4 ≤ 120 ∧
      300 < 271 + 30) ∧
    (referenceValid [0x29#8] = true ∧ queued.unfit 385 60 120 = none ∧
      ∃ q ∈ queued.allPassages, q.reference = [0x29#8]) ∧
    (let s := { queued with traffic := { queued.traffic with
        up := (List.range 24).map fun n => boat (n + 100) .ordinary (n + 1) 385 0 } }
     s.takesRequest (.registerVessel 1#8 (vessel 0x41#8 0 385 0)) = true ∧ s.unfit 385 60 120 = none ∧
        (∀ q ∈ s.allPassages, q.reference ≠ [0x41#8]) ∧ 24 ≤ s.charge .up) :=
  ⟨by decide +kernel, queued_calm, queued_admits_nothing, by decide +kernel, by decide +kernel, by decide +kernel,
    by decide +kernel, by decide +kernel⟩

theorem witness_WithdrawTakesTheRecordAway :
    (queued.takesRequest (.withdrawVessel 1#8 99) = true ∧ ∀ p ∈ queued.allPassages, p.number ≠ 99) ∧
    (resting.takesRequest (.withdrawVessel 1#8 41) = true ∧ resting.queued? 41 = none ∧
      ∃ p ∈ resting.allPassages, p.number = 41) ∧
    (queued.takesRequest (.withdrawVessel 1#8 38) = true ∧
      queued.queued? 38 = some (boat 38 .ordinary 205 385 1)) ∧ queued.calm ∧ queued.admitsNothing ∧
    (let s := { queued with traffic := { queued.traffic with order := some ⟨[38], .up⟩ } }
     s.takesRequest (.withdrawVessel 1#8 38) = true ∧ s.calm ∧ s.traffic.mode = .keeper ∧
        s.orderHolds 38 = true) :=
  ⟨by decide +kernel, by decide +kernel, by decide +kernel, queued_calm, queued_admits_nothing,
    by decide +kernel, ⟨rfl, by decide +kernel⟩, rfl, by decide +kernel⟩

theorem witness_TrafficSettingsAreTaken :
    (queued.takesRequest (.setQueueLimits 1#8 24 0) = true ∧ queued.calm ∧ queued.admitsNothing) ∧
    (flightModeOf 1 = some .keeper ∧ queued.takesRequest (.setMode 1#8 1) = true ∧
      queued.traffic.mode = .keeper) ∧
    (flightModeOf 2 = some .closed ∧ queued.takesRequest (.setMode 1#8 2) = true ∧
      queued.traffic.mode ≠ .closed ∧
      (queued.setTraffic { queued.traffic with
        mode := .closed
        order := if queued.traffic.mode = .keeper then none else queued.traffic.order }).admitsNothing) ∧
    (followOnOf 1 = some false ∧ queued.takesRequest (.setAdmissionSettings 1#8 ⟨5, 101, 1⟩) = true) :=
  ⟨⟨by decide +kernel, queued_calm, queued_admits_nothing⟩, by decide +kernel,
    ⟨by decide +kernel, by decide +kernel, by decide, .inl rfl⟩, by decide +kernel⟩

theorem witness_KeeperOrdersAreTested :
    (queued.orderRefusal [99] = some .noSuchVessel ∧ queued.takesRequest (.orderBatch 1#8 [99]) = true) ∧
    (let s := { queued with level := { queued.level with riverHold := true } }
     s.orderRefusal [38, 41] = none ∧ s.takesRequest (.orderBatch 1#8 [38, 41]) = true ∧
        s.orderOpen { passages := [38, 41], direction := s.orderDirection [38, 41] } = false ∧ s.calm) ∧
    (queued.orderRefusal [38, 41] = none ∧ queued.takesRequest (.orderBatch 1#8 [38, 41]) = true ∧
      queued.orderOpen { passages := [38, 41], direction := queued.orderDirection [38, 41] } = true) ∧
    queued.calm :=
  ⟨by decide +kernel, ⟨by decide +kernel, by decide +kernel, by decide +kernel, ⟨rfl, by decide +kernel⟩⟩,
    by decide +kernel, queued_calm⟩

/-- One order for each row of the table of R122, in its order, and one that no row refuses. -/
theorem witness_KeeperOrdersAreTested_rows :
    (¬([38, 38] : List Nat).Nodup ∧ ¬1 ≤ ([] : List Nat).length ∧ ¬[1, 2, 3, 4, 5].length ≤ 4) ∧
    (1 ≤ [38].length ∧ [38].length ≤ 4 ∧ [38].Nodup) ∧
    ({ queued with traffic := { queued.traffic with mode := .closed } } : State).traffic.mode ≠ .keeper ∧
    (queued.traffic.mode = .keeper ∧ ¬State.reset.flightDims.isSome = true) ∧
    (queued.toll.current.isSome = true ∧ queued.flightDims = some ⟨1100, 120, 300⟩ ∧
      queued.traffic.order = none ∧ ordered.traffic.order ≠ none) ∧
    (∀ p ∈ queued.allPassages, p.number ≠ 99) ∧
    ((∃ p ∈ resting.allPassages, p.number = 41) ∧ resting.queued? 41 = none) ∧
    (let s := queued.setQueueOf .down [{ boat 50 .ordinary 220 120 0 with direction := .down }]
     [38, 50].map s.queued? =
        [boat 38 .ordinary 205 385 1, { boat 50 .ordinary 220 120 0 with direction := .down }].map some) ∧
    ([41, 38, 40].map queued.queued? = queued.traffic.up.map some ∧
      queued.unfit 550 60 120 = none ∧ batchLength queued.traffic.spacing queued.traffic.up = 1145) ∧
    ([41, 38].map queued.queued? = [boat 41 .priority 210 550 0, boat 38 .ordinary 205 385 1].map some ∧
      batchLength queued.traffic.spacing [boat 41 .priority 210 550 0, boat 38 .ordinary 205 385 1] = 995 ∧
      ¬queued.freeSlots < 2) := by
  decide +kernel

theorem witness_CancelOrderDiscards :
    ([0#8] : List Octet) ≠ [] ∧ (queued.traffic.order = none ∧ queued.takesRequest (.cancelOrder 1#8) = true) ∧
    (let s := { queued with traffic := { queued.traffic with order := some ⟨[38], .up⟩ } }
     s.traffic.order = some ⟨[38], .up⟩ ∧ s.takesRequest (.cancelOrder 1#8) = true) := by
  decide +kernel

theorem witness_AbandonReturnsTheMembers :
    (resting.takesRequest (.abandonBatch 1#8 8) = true ∧ resting.batch? 8 = none) ∧
    (let b := { batchAt 9 .three (stepIn .claiming []) [.byRequest] with entered := true }
     let s := withBatches [b] queued
     s.takesRequest (.abandonBatch 1#8 9) = true ∧ s.batch? 9 = some b) ∧
    (let b := batchAt 9 .one (stepIn .opening [.c3]) []
     let s := withBatches [b] queued
     s.takesRequest (.abandonBatch 1#8 9) = true ∧ s.batch? 9 = some b ∧ b.entered = false ∧
        b.suspended = false) ∧
    (let b := batchAt 9 .one (stepIn .claiming []) [.byRequest]
     resting.takesRequest (.abandonBatch 1#8 9) = true ∧ resting.batch? 9 = some b ∧ b.entered = false ∧
        b.suspended = true) ∧ resting.calm ∧ resting.admitsNothing :=
  ⟨by decide +kernel, by decide +kernel, by decide +kernel, by decide +kernel, resting_calm, resting_admits_nothing⟩

/-! #### Running a lockage -/

/-- The batch that stands in `entering`. -/
def atEntry : Batch :=
  batchAt 9 .two { stepIn .opened [.c3] with moveWait := some 9000, readySent := true } []

theorem witness_ConfirmMovesTheMembers :
    (stationOf 3 = some .k3 ∧ entering.takesRequest (.confirmMoved 1#8 8 3) = true ∧
      entering.batch? 8 = none) ∧
    (stationOf 2 = some .k2 ∧ entering.takesRequest (.confirmMoved 1#8 9 2) = true ∧
      entering.batch? 9 = some atEntry ∧ entering.readyToConfirm atEntry .k2 = false) ∧
    (entering.takesRequest (.confirmMoved 1#8 9 3) = true ∧ entering.readyToConfirm atEntry .k3 = true) ∧
    entering.calm ∧ entering.admitsNothing :=
  ⟨by decide +kernel, by decide +kernel, by decide +kernel, entering_calm, entering_admits_nothing⟩

theorem witness_SuspendAndResume :
    (entering.batch? 9 = some atEntry ∧ atEntry.suspended = false ∧
      entering.takesRequest (.suspendBatch 1#8 9) = true) ∧ entering.calm ∧
    (let b := batchAt 9 .one (stepIn .claiming []) [.byRequest]
     resting.batch? 9 = some b ∧ b.suspended = true ∧ resting.takesRequest (.suspendBatch 1#8 9) = true ∧
        resting.takesRequest (.resumeBatch 1#8 9) = true ∧ resting.halt.state = .running ∧
        resting.stillActive b.direction (.main b.direction b.position) = false) ∧
    entering.takesRequest (.resumeBatch 1#8 9) = true ∧
    (halted.takesRequest (.resumeBatch 1#8 9) = true ∧ (halted.batch? 9).isSome = true ∧
      halted.halt.state ≠ .running) ∧
    (let s := { resting with mach := { resting.mach with inLocal := resting.mach.inLocal.set .k3 true } }
     s.takesRequest (.resumeBatch 1#8 9) = true ∧ s.stillActive .up (.main .up .one) = true) ∧
    (let s := withBatches [batchAt 8 .three (stepIn .flowing [.c2, .c3]) [],
        batchAt 9 .one (stepIn .claiming []) [.byRequest]] queued
     s.calm ∧ s.takesRequest (.resumeBatch 1#8 9) = true ∧
        s.stillActive .up (.main .up .one) = false ∧
        ∃ x ∈ s.traffic.batches, x.number ≠ 9 ∧ ∃ c ∈ gateChambers (mainGate .up .one), c ∈ x.claims) :=
  ⟨by decide +kernel, entering_calm, by decide +kernel, by decide +kernel, by decide +kernel, by decide +kernel,
    ⟨rfl, by decide +kernel⟩, by decide +kernel, by decide +kernel, by decide +kernel⟩

theorem witness_StepLimitsExpire :
    (let r : StepRec := { stepIn .flowing [.c3] with waterLimit := some 6000 }
     let s := withBatches [batchAt 9 .one r []] queued
     s.powered = true ∧ s.calm ∧ s.active? 9 = some (batchAt 9 .one r [], r) ∧ r.waterLimit = some 6000 ∧
        s.faultOf .levelTimeout (.chamber (timeoutChamber (stepItem (batchAt 9 .one r []).current))) = none ∧
        s.mach.faults.length < 16) ∧
    (entering.powered = true ∧ (entering.active? 9).map (fun x => (x.2.moveWait, x.2.overdueSent)) =
      some (some 9000, false) ∧ entering.console.mask.traffic = true) ∧
    entering.active? 8 = none ∧ (entering.active? 9).bind (·.2.waterLimit) = none :=
  ⟨⟨rfl, ⟨rfl, by decide +kernel⟩, by decide +kernel, rfl, by decide +kernel, by decide⟩, by decide +kernel,
    by decide +kernel, by decide +kernel⟩

/-- A flight whose gates count as settled equal. -/
def settled : State := { queued with level := { queued.level with equal := Quad.const 5 } }

/-- The steps of a running batch that go on: a gate step takes its claims and opens its gate; a water step
without a prediction, one at its end by equality and one at its target; the completed movements. -/
theorem witness_StepLimitsExpire_progress :
    (let b := batchAt 9 .two (stepIn .claiming []) []
     let s := withBatches [b] queued
     s.active? 9 = some (b, stepIn .claiming []) ∧ stepWork b.current = .passage .k3 ∧ b.moved = false ∧
        s.settledEqual .k3 = false) ∧
    (let b := batchAt 9 .seven (stepIn .claiming []) []
     let s := withBatches [b] { queued with level := { queued.level with headLevel := none } }
     s.active? 9 = some (b, stepIn .claiming []) ∧
        stepWork b.current = .water (.sluice .k0) (.equal .k0) ∧
        (∀ c ∈ stepClaims b.current, (s.chamber c).condition ≠ .disputed) ∧ s.alreadyThere (.equal .k0) = false ∧
        conditionOf b.current = none ∧ s.predict (.sluice .k0) = .noPrediction) ∧
    (let b := batchAt 9 .two (stepIn .readying [.c3]) []
     let s := withBatches [b] settled
     s.active? 9 = some (b, stepIn .readying [.c3]) ∧ s.settledEqual .k3 = true ∧
        (∀ j ∈ neighbourGates .k3, (s.item (.gate j)).position = some .shut) ∧
        s.notAvailable (.gate .k3) .opened = none ∧ (s.item (.gate .k3)).position ≠ some .opened) ∧
    (let b := batchAt 9 .one (stepIn .flowing [.c3]) []
     let s := (withBatches [b] settled).setItem (.sluice .k3)
       { position := some .opened, command := .opens, movement := none }
     s.active? 9 = some (b, stepIn .flowing [.c3]) ∧
        stepWork b.current = .water (.sluice .k3) (.equal .k3) ∧ s.endReached (.equal .k3) = true ∧
        s.notAvailable (.sluice .k3) .shut = none ∧ (s.item (.sluice .k3)).position ≠ some .shut) ∧
    (let b := { batchAt 9 .five (stepIn .flowing [.c1]) [] with preparation := [.fillC1] }
     let s := ((withBatches [b] queued).setItem (.sluice .k0)
       { position := some .opened, command := .opens, movement := none }).setChamber .c1
         { queued.chamber .c1 with target := some .full, targetCount := 5 }
     s.active? 9 = some (b, stepIn .flowing [.c1]) ∧
        stepWork b.current = .water (.sluice .k0) (.target .c1 .full) ∧
        s.endReached (.target .c1 .full) = true ∧ s.notAvailable (.sluice .k0) .shut = none) ∧
    (let b := batchAt 9 .two (stepIn .opening [.c3]) []
     stepWork b.current = .passage .k3 ∧ (withBatches [b] queued).active? 9 = some (b, stepIn .opening [.c3])) ∧
    (let b := batchAt 9 .seven (stepIn .closing [.c1]) []
     stepWork b.current = .water (.sluice .k0) (.equal .k0) ∧ b.preparation = [] ∧
        (withBatches [b] queued).active? 9 = some (b, stepIn .closing [.c1])) ∧
    (let b := batchAt 9 .two (stepIn .closing [.c3]) []
     stepWork b.current = .passage .k3 ∧ b.position ≠ .eight ∧
        (withBatches [b] queued).active? 9 = some (b, stepIn .closing [.c3])) ∧
    (let b := batchAt 9 .eight (stepIn .closing [.c1]) []
     stepWork b.current = .passage .k0 ∧ b.preparation = [] ∧
        (withBatches [b] queued).active? 9 = some (b, stepIn .closing [.c1])) := by
  decide +kernel

/-! #### Tolls, receipts and the computations -/

def loaded (n : Nat) (previous : Option Edition) : State :=
  { resting with toll := { resting.toll with pending := some (edition n), previous := previous } }

theorem witness_SwitchMovesTheEditions :
    (live.takesRequest (.switchTariff 1#8) = true ∧ live.toll.pending = none) ∧
    ((loaded 1 none).takesRequest (.switchTariff 1#8) = true ∧ (loaded 1 none).toll.pending = some (edition 1) ∧
      (loaded 1 none).toll.current = some (edition 1)) ∧
    ((loaded 2 (some (edition 1))).takesRequest (.switchTariff 1#8) = true ∧
      (loaded 2 (some (edition 1))).toll.current = some (edition 1) ∧ (edition 1).number ≠ (edition 2).number ∧
      ∃ b ∈ (loaded 2 (some (edition 1))).traffic.batches, b.edition = (edition 1).number) ∧
    ((loaded 2 none).takesRequest (.switchTariff 1#8) = true ∧ (loaded 2 none).toll.pending = some (edition 2) ∧
      (loaded 2 none).toll.previous = none ∧ (loaded 2 none).toll.current.isSome = true) := by
  decide +kernel

theorem witness_ReleaseRemovesTheOldestReceipts :
    (office.takesRequest (.releaseReceipts 1#8 214 2) = true ∧
      office.receipts.queue = [receipt 1] ++ receipt 2 :: [receipt 3, receipt 4, receipt 5, receipt 6] ∧
      ∀ x ∈ [receipt 1], ¬(x.day = 214 ∧ x.number = 2)) ∧
    (office.takesRequest (.releaseReceipts 1#8 214 6) = true ∧
      office.receipts.queue = [receipt 1, receipt 2, receipt 3, receipt 4, receipt 5] ++ receipt 6 :: []) ∧
    (office.takesRequest (.releaseReceipts 1#8 9999 999999) = true ∧
      ∀ x ∈ office.receipts.queue, ¬(x.day = 9999 ∧ x.number = 999999)) ∧
    (office.takesRequest (.setReceiptMargin 1#8 58) = true ∧
      decide (64 - min 63 58 ≤ office.receipts.queue.length) = office.receipts.nearFull ∧
      decide (64 - min 63 57 ≤ office.receipts.queue.length) ≠ office.receipts.nearFull) ∧
    (office.powered = true ∧ office.receipts.repeatTimer = some 100) ∧ live.receipts.repeatTimer = none := by
  decide +kernel

theorem witness_CloseDayOpensTheNext :
    (office.takesRequest (.closeDay 1#8) = true ∧
      215 = (if 9999 ≤ office.toll.account.day then 1 else office.toll.account.day + 1) ∧
      ∀ r ∈ office.receipts.queue, r.day ≠ 215) ∧ office.calm ∧ office.admitsNothing ∧
    (let s := { office with toll := { office.toll with account := { office.toll.account with day := 9999 } }
                            receipts := { office.receipts with queue := [{ receipt 1 with day := 1 }] } }
     s.takesRequest (.closeDay 1#8) = true ∧ ∃ r ∈ s.receipts.queue, r.day = 1) :=
  ⟨by decide +kernel, ⟨rfl, by decide +kernel⟩, .inr (.inl ⟨rfl, rfl⟩), by decide +kernel⟩

theorem witness_WaterSharesAddUp :
    0 < natSum [550, 385, 120] ∧ 0 < [550, 385, 120].length ∧ 1 < [550, 385, 120].length ∧
      2640 * [550, 385, 120].getD 0 0 % natSum [550, 385, 120] <
        2640 * [550, 385, 120].getD 1 0 % natSum [550, 385, 120] ∧
      (waterShares 1 [5, 5]).getD 0 0 = 1 * [5, 5].getD 0 0 / natSum [5, 5] + 1 := by
  decide +kernel

/-- A release from a calm state in which nothing can be admitted. -/
theorem witness_ReleaseRemovesTheOldestReceipts_calm : office.calm ∧ office.admitsNothing :=
  ⟨⟨rfl, by decide +kernel⟩, .inr (.inl ⟨rfl, rfl⟩)⟩

/-- The charge of a rise at which it is rounded up, and of one at which it is capped. -/
theorem witness_WaterSharesAddUp_volume :
    resting.editionOf 1 = some (edition 1) ∧ (resting.chamber .c1).config.isSome = true ∧
      (2 * (1410 * 1850) + 1000) / 2000 = 2609 ∧ (2 * (2609 * 5050) + 100) / 200 = 131755 ∧
      9999999 < (2 * (80000 * 100000) + 100) / 200 := by
  decide +kernel

/-- A batch of a PRIORITY and a SERVICE vessel, and the same batch downbound, complete. -/
theorem witness_WaterSharesAddUp_completion :
    let b := batchAt 9 .eight (stepIn .closing [.c1]) []
    let d : Batch := { b with direction := .down, members := b.members.take 1 }
    (resting.editionOf b.edition = some (edition 1) ∧ (edition 1).minDues ≤ (edition 1).maxDues ∧
      (∀ p ∈ b.members, 1 ≤ p.length) ∧ (∃ p ∈ b.members, p.priority ≠ .service) ∧
      (∃ p ∈ b.members, p.priority = .service) ∧ b.direction = .up) ∧
    (resting.editionOf d.edition = some (edition 1) ∧ (∀ p ∈ d.members, 1 ≤ p.length) ∧ d.direction = .down) := by
  decide +kernel

theorem witness_RoomTargetGivesRoom :
    0 < 1460 ∧ 1410 * 17790 ≤ 14450 * (1410 + 1460) ∧ 11224 ≤ roomTarget 14450 1410 17790 1460 := by
  decide +kernel

theorem witness_StopsGoBeforeEveryEntry :
    let q := [freshEntry (.face .upper .stop), freshEntry (.item (.gate .k1) .stops), freshEntry .reset]
    oneEntryPerSlot q ∧
      (∀ e ∈ q, slotCode e.command ≠ slotCode (.item (.sluice .k1) .opens)) ∧
      (q = [] ++ freshEntry (.face .upper .stop) ::
          [freshEntry (.item (.gate .k1) .stops), freshEntry .reset] ∧
        ∀ i, (freshEntry (.face .upper .stop)).command ≠ .item i .stops) ∧
      (q = [freshEntry (.face .upper .stop)] ++ freshEntry (.item (.gate .k1) .stops) :: [freshEntry .reset] ∧
        slotCode (freshEntry (.item (.gate .k1) .stops)).command =
          slotCode (.item (.gate .k1) .opens)) :=
  ⟨by unfold oneEntryPerSlot; decide +kernel, by decide +kernel, ⟨rfl, nofun⟩, by decide +kernel⟩

/-- The boundary differences of a chamber with the default agreement tolerance 50 and settle count 5. -/
theorem witness_DisputesAreCounted :
    let r := live.chamber .c2
    let d : ChamberRec := { r with condition := .disputed }
    (r.trust = .both ∧ r.condition ≠ .disputed ∧ r.surge = none) ∧ max 10650 10600 - min 10650 10600 ≤ 50 ∧
      50 < max 10651 10600 - min 10651 10600 ∧ r.dispute + 1 < 5 ∧ 5 ≤ { r with dispute := 4 }.dispute + 1 ∧
      (d.trust = .both ∧ d.condition = .disputed ∧ d.surge = none) ∧ d.dispute + 1 < 5 ∧
      5 ≤ { d with dispute := 4 }.dispute + 1 ∧
      ({ r with surge := some 200 } : ChamberRec).surge.isSome = true ∧
      ({ d with surge := some 200 } : ChamberRec).surge.isSome = true ∧
      (let o : ChamberRec := { r with trust := .lowerOnly }
       o.condition ≠ .disputed ∧ (o.trust = .upperOnly ∧ some 5 = some 6 ∨ o.trust = .lowerOnly ∧ some 5 = some 5)) := by
  decide +kernel

theorem witness_PackingKeepsWithinTheFlight :
    (queued.flightDims = some ⟨1100, 120, 300⟩ ∧ queued.pack .up ≠ []) ∧
      (let s := { queued with traffic := { queued.traffic with
          up := [boat 1 .ordinary 1 900 0, boat 2 .ordinary 2 900 2, boat 3 .ordinary 3 120 0] } }
       s.queueOf .up = [boat 1 .ordinary 1 900 0] ++ boat 2 .ordinary 2 900 2 :: [boat 3 .ordinary 3 120 0] ∧
          (s.queueOf .up).Nodup ∧ ∃ q ∈ [boat 3 .ordinary 3 120 0], q ∈ s.pack .up) ∧
      (let s := { queued with traffic := { queued.traffic with mode := .automatic } }
       s.admissionOpen = true ∧ s.automaticBatch = some (.up, s.pack .up) ∧
          s.toll.current = some (edition 1)) := by
  decide +kernel

/-- The last direction is kept; a PRIORITY vessel or the reached quota turns it; the heads choose with no last
direction; a leading batch is followed, or not; the next number is held. -/
theorem witness_PackingKeepsWithinTheFlight_direction :
    let down := { boat 50 .ordinary 220 120 0 with direction := .down }
    let s := (queued.setQueueOf .down [down]).setTraffic { (queued.setQueueOf .down [down]).traffic with
      mode := .automatic, lastDirection := some .up, consecutive := 1, quota := 2 }
    (s.traffic.batches = [] ∧ s.freeSlots ≠ 0 ∧ s.traffic.lastDirection = some .up ∧ s.keepsDirection .up) ∧
    (let u := s.setTraffic { s.traffic with consecutive := 2 }
     u.traffic.lastDirection = some .up ∧ ¬u.keepsDirection .up ∧ u.queueOf .down ≠ []) ∧
    (let u := s.setTraffic { s.traffic with up := [], down := [] }
     u.traffic.lastDirection = some .up ∧ ¬u.keepsDirection .up ∧ u.queueOf .down = [] ∧ u.queueOf .up = []) ∧
    (let u := s.setTraffic { s.traffic with lastDirection := none }
     u.traffic.lastDirection = none ∧ u.firstChoice .up) ∧
    (let b := { batchAt 9 .five (stepIn .claiming []) [] with cleared := true }
     let u := s.setTraffic { s.traffic with batches := [b], down := [], nextBatch := 9 }
     u.traffic.batches = [b] ∧ b.direction = .up ∧ u.traffic.followOn = true ∧ b.cleared = true ∧
        u.keepsDirection .up ∧ u.pack .up ≠ [] ∧ u.nextBatchNumber 10) ∧
    (let b := batchAt 9 .five (stepIn .claiming []) []
     let u := s.setTraffic { s.traffic with batches := [b] }
     u.traffic.batches = [b] ∧ b.direction = .up ∧ b.cleared = false) := by
  refine ⟨?_, ?_, ?_, ⟨rfl, boat 41 .priority 210 550 0, _, rfl, ?_⟩, ?_, ?_⟩
  · unfold State.keepsDirection; decide +kernel
  · unfold State.keepsDirection; decide +kernel
  · unfold State.keepsDirection; decide +kernel
  · intro q more h; cases h; exact .inl (by decide)
  · unfold State.keepsDirection State.nextBatchNumber; decide +kernel
  · decide +kernel

theorem witness_OpenWaitsForItsInterlock :
    (let s := live
     (∀ e ∈ (s.station .k1).queue, e.command ≠ .item (.sluice .k1) .opens) ∧
     ∃ e ∈ ((s.requestMove (.sluice .k1) .opened (.batch 9 (.main .up .five))).2.station .k1).queue,
        e.command = .item (.sluice .k1) .opens) ∧
    (let s := { live with level := { live.level with equal := live.level.equal.set .k3 5 } }
     ∃ e ∈ ((s.requestMove (.gate .k3) .opened (.batch 9 (.main .up .two))).2.station .k3).queue,
        e.command = .item (.gate .k3) .opens) ∧
    (let s := live.setMovement (.sluice .k2) (some (moving .awaitTaken none none 0))
     (∀ e ∈ (s.station .k2).queue, e.command ≠ .item (.sluice .k2) .opens) ∧
     (∃ e ∈ ((s.tryPlace (.sluice .k2)).station .k2).queue, e.command = .item (.sluice .k2) .opens) ∧
     ∃ e ∈ (s.retest.station .k2).queue, e.command = .item (.sluice .k2) .opens) := by
  decide +kernel

end Sys2Proof.Tests
end

section
/-! CLEAR HALT (R91, R92): when it is barred, which stations it awaits, the whole state its command leaves
in each of its three outcomes, and the statement assembled from these. -/

namespace Sys2Proof.Machine

/-! ### The frame and the bar -/

/-- CLEAR HALT carries no data: its frame is read by whether its payload is empty. -/
theorem requestOf_clearHalt (tag : Octet) (payload : List Octet) :
    requestOf ⟨tag, 0x19#8, payload⟩ =
      if payload = [] then .clearHalt tag else .refuseMalformed ⟨tag, 0x19#8, payload⟩ := rfl

theorem State.anyCrest_iff (s : State) : s.anyCrest = true ↔ ∃ c, (s.chamber c).crest = true := by
  have hall : ∀ c, c ∈ allChambers := fun c => by cases c <;> decide
  simp [State.anyCrest, hall]

theorem State.clearHaltBarred_iff (s : State) :
    s.clearHaltBarred = true ↔
      s.halt.state = .halted ∧ (s.localStopPresent = true ∨ ∃ c, (s.chamber c).crest = true) := by
  simp [State.clearHaltBarred, State.anyCrest_iff, or_comm]

theorem State.clearHaltBarred_eq_false_of_clear (s : State) (hc : ∀ c, (s.chamber c).crest = false)
    (hl : s.localStopPresent = false) : s.clearHaltBarred = false := by
  simp [← Bool.not_eq_true, s.clearHaltBarred_iff, hc, hl]

theorem State.clearHaltBarred_eq_false_of_not_halted (s : State) (h : s.halt.state ≠ .halted) :
    s.clearHaltBarred = false := by
  simp [← Bool.not_eq_true, s.clearHaltBarred_iff, h]

/-! ### The awaited set -/

/-- R92: a LOST station is left out of the awaited set as long as some station is not LOST. -/
theorem State.awaitedSet_get (s : State) (k : Station) :
    s.awaitedSet.get k =
      if (s.station k).state = .lost ∧ allStations.any (fun j => (s.station j).state != .lost) then none
      else some false := by
  have hall : ∀ q : Quad Bool, (q.k0 && q.k1 && q.k2 && q.k3) = allStations.all q.get := fun q => by
    simp [allStations, Quad.get, Bool.and_assoc]
  simp [State.awaitedSet, State.station, hall]

/-! ### The command -/

/-- The state CLEAR HALT enters from HALTED. -/
theorem State.clearHalt_of_halted (s : State) (h : s.halt.state = .halted) :
    s.clearHalt =
      { s with halt := { s.halt with state := .recovering, causes := [], awaited := s.awaitedSet } } := by
  simp [State.clearHalt, h]

theorem State.clearHalt_of_not_halted (s : State) (h : s.halt.state ≠ .halted) : s.clearHalt = s := by
  simp [State.clearHalt, h]

theorem exec_clearHalt_taken (tag : Octet) (s : State) (ht : s.takesRequest (.clearHalt tag) = true) :
    exec (.clearHalt tag) s = .next (s.answerRequest tag 0x19#8 false clearHaltRequest) :=
  congrArg _ (s.request_taken _ tag 0x19#8 clearHaltRequest ht)

/-- R91: CLEAR HALT refused: nothing changes but the console link. -/
theorem exec_clearHalt_of_barred (tag : Octet) (s : State) (ht : s.takesRequest (.clearHalt tag) = true)
    (hb : s.clearHaltBarred = true) :
    exec (.clearHalt tag) s = .next (s.replied tag 0x99#8 (some .stillActive) s.haltFields) := by
  have hb' : s.popRequest.clearHaltBarred = true := hb
  have hact : clearHaltRequest s.popRequest =
      { verdict := some .stillActive, data := s.haltFields, state := s.popRequest } := by
    rw [clearHaltRequest, if_pos hb']
    rfl
  rw [exec_clearHalt_taken tag s ht, s.answerRequest_read tag _ _ _ _ hact]
  rfl

/-- R91: CLEAR HALT accepted: the act's state and its own fields; nothing retained changes. -/
theorem exec_clearHalt_of_not_barred (tag : Octet) (s : State) (ht : s.takesRequest (.clearHalt tag) = true)
    (hb : s.clearHaltBarred = false) :
    exec (.clearHalt tag) s = .next (s.clearHalt.replied tag 0x99#8 none s.clearHalt.haltFields) := by
  have hpop : s.popRequest.clearHalt = s.clearHalt.popRequest := by
    by_cases h : s.halt.state = .halted
    · rw [s.clearHalt_of_halted h, s.popRequest.clearHalt_of_halted h]
      rfl
    · rw [s.clearHalt_of_not_halted h, s.popRequest.clearHalt_of_not_halted h]
  have hkept : s.clearHalt.retainedOf = s.retainedOf ∧ s.clearHalt.console = s.console ∧
      s.clearHalt.store = s.store := by
    unfold State.clearHalt
    split <;> exact ⟨rfl, rfl, rfl⟩
  obtain ⟨hr, hc, hs⟩ := hkept
  have ho : s.clearHalt.console.order = s.console.order := congrArg Console.order hc
  have hb' : s.popRequest.clearHaltBarred = false := hb
  have hact : clearHaltRequest s.popRequest =
      { verdict := none, data := s.clearHalt.haltFields, state := s.clearHalt.popRequest } := by
    rw [clearHaltRequest, hb', hpop]
    rfl
  rw [exec_clearHalt_taken tag s ht, s.answerRequest_eq s.clearHalt tag _ _ _ _ hact ho hs,
    s.answering_plain s.clearHalt _ _ _ _ hr ho hs]
  rfl

/-- Settles O40. The awaited set is the one the model forms before the reply; the three outcomes are the
bar's, the release from HALTED, and the request that finds nothing to clear. -/
theorem clearHaltRecovers : Obligations.ClearHaltRecovers := by
  refine ⟨fun tag => requestOf_clearHalt tag [], fun tag payload hp => ?_, fun tag s ht => ⟨?_, ?_, ?_⟩⟩
  · rw [requestOf_clearHalt, if_neg hp]
  · intro hh hc hl
    refine ⟨s.awaitedSet, ?_, s.awaitedSet_get⟩
    rw [exec_clearHalt_of_not_barred tag s ht (s.clearHaltBarred_eq_false_of_clear hc hl),
      s.clearHalt_of_halted hh]
    rfl
  · intro hh hact
    exact exec_clearHalt_of_barred tag s ht (s.clearHaltBarred_iff.mpr ⟨hh, hact⟩)
  · intro hh
    rw [exec_clearHalt_of_not_barred tag s ht (s.clearHaltBarred_eq_false_of_not_halted hh),
      s.clearHalt_of_not_halted hh]

end Sys2Proof.Machine
end

section
/-! CANCEL ORDER (R124): the reading of its frame, the whole state its command leaves with and without a
pending keeper order, and the statement assembled from these. -/

namespace Sys2Proof.Machine

/-- CANCEL ORDER carries no data: its frame is read by whether its payload is empty. -/
theorem requestOf_cancelOrder (tag : Octet) (payload : List Octet) :
    requestOf ⟨tag, 0x2A#8, payload⟩ =
      if payload = [] then .cancelOrder tag else .refuseMalformed ⟨tag, 0x2A#8, payload⟩ := rfl

/-! ### The request's act -/

theorem cancelOrderRequest_of_none (s : State) (h : s.traffic.order = none) :
    cancelOrderRequest s = refuse .noOrder s := by
  simp [cancelOrderRequest, h]

theorem cancelOrderRequest_of_some (s : State) (o : KeeperOrder) (h : s.traffic.order = some o) :
    cancelOrderRequest s = accept (collection (fun n => [num 2 n]) o.passages) s.discardOrder := by
  simp [cancelOrderRequest, h]

/-- The pending order stands outside the retained state, so that a cancellation writes no update (R94). -/
theorem State.discardOrder_retainedOf (s : State) : s.discardOrder.retainedOf = s.retainedOf := rfl

/-- A collection of passage numbers: the count, then each number in two octets. -/
theorem collection_numbers (ns : List Nat) :
    collection (fun n => [num 2 n]) ns = num 1 ns.length :: ns.map (num 2) := by
  rw [collection, ← List.map_eq_flatMap]

/-! ### The command -/

theorem exec_cancelOrder_taken (tag : Octet) (s : State) (ht : s.takesRequest (.cancelOrder tag) = true) :
    exec (.cancelOrder tag) s = .next (s.answerRequest tag 0x2A#8 false cancelOrderRequest) :=
  congrArg _ (s.request_taken _ tag 0x2A#8 cancelOrderRequest ht)

/-- R124: CANCEL ORDER refused: nothing changes but the console link. -/
theorem exec_cancelOrder_of_none (tag : Octet) (s : State) (ht : s.takesRequest (.cancelOrder tag) = true)
    (h : s.traffic.order = none) :
    exec (.cancelOrder tag) s = .next (s.replied tag 0xAA#8 (some .noOrder) []) := by
  have hact : cancelOrderRequest s.popRequest = refuse .noOrder s.popRequest :=
    cancelOrderRequest_of_none s.popRequest h
  rw [exec_cancelOrder_taken tag s ht, s.answerRequest_read tag _ _ _ _ hact]
  rfl

/-- R124: CANCEL ORDER accepted: the order alone is gone, and the reply names its passages. -/
theorem exec_cancelOrder_of_some (tag : Octet) (s : State) (o : KeeperOrder)
    (ht : s.takesRequest (.cancelOrder tag) = true) (h : s.traffic.order = some o) :
    exec (.cancelOrder tag) s =
      .next (s.discardOrder.replied tag 0xAA#8 none (num 1 o.passages.length :: o.passages.map (num 2))) := by
  have hact : cancelOrderRequest s.popRequest =
      accept (num 1 o.passages.length :: o.passages.map (num 2)) s.discardOrder.popRequest := by
    rw [cancelOrderRequest_of_some s.popRequest o h, collection_numbers]
    rfl
  rw [exec_cancelOrder_taken tag s ht, s.answerRequest_eq s.discardOrder tag _ _ _ _ hact rfl rfl,
    s.answering_plain s.discardOrder _ _ _ _ s.discardOrder_retainedOf rfl rfl]
  rfl

/-- Settles O47. The frame decides the command by its payload, and the pending order decides its outcome. -/
theorem cancelOrderDiscards : Obligations.CancelOrderDiscards := by
  refine ⟨fun tag => requestOf_cancelOrder tag [], fun tag payload hp => ?_,
    fun tag s h ht => exec_cancelOrder_of_none tag s ht h,
    fun tag o s h ht => exec_cancelOrder_of_some tag s o ht h⟩
  rw [requestOf_cancelOrder, if_neg hp]

end Sys2Proof.Machine
end

section
/-! SET RUN LIMITS (R139): the clamp as the nearer end of a range, the whole state the command leaves, and the
statement assembled from these. -/

namespace Sys2Proof.Machine

/-- A value outside its range goes to the nearer end of it. -/
theorem clampTo_eq_max_min {lo hi : Nat} (h : lo ≤ hi) (v : Nat) : clampTo lo hi v = max lo (min hi v) := by
  unfold clampTo
  split
  case isTrue below => omega
  case isFalse notBelow => split <;> omega

theorem clampRunLimit_eq_max_min (v : Nat) : clampRunLimit v = max 600 (min 36000 v) :=
  clampTo_eq_max_min (by decide) v

/-- The state with the two run limits set. -/
def State.setRunLimits (s : State) (waterLimit moveWait : Nat) : State :=
  s.setTraffic { s.traffic with waterLimit := waterLimit, moveWait := moveWait }

theorem runLimitsRequest_eq (a b : Nat) (s : State) :
    runLimitsRequest a b s =
      accept [num 2 (max 600 (min 36000 a)), num 2 (max 600 (min 36000 b))]
        (s.setRunLimits (max 600 (min 36000 a)) (max 600 (min 36000 b))) := by
  rw [runLimitsRequest, clampRunLimit_eq_max_min, clampRunLimit_eq_max_min, State.setRunLimits]

/-- The limits stand apart from the order of requests: the frame may leave it before or after they are set. -/
theorem State.setRunLimits_popRequest (s : State) (w m : Nat) :
    s.popRequest.setRunLimits w m = (s.setRunLimits w m).popRequest := rfl

/-- R139: SET RUN LIMITS taken: the two limits and their reply, whatever the halt state and the mode. -/
theorem exec_setRunLimits_taken (tag : Octet) (a b : Nat) (s : State)
    (ht : s.takesRequest (.setRunLimits tag a b) = true) :
    exec (.setRunLimits tag a b) s =
      .next (s.answering (s.setRunLimits (max 600 (min 36000 a)) (max 600 (min 36000 b))) tag 0xB0#8 none
        [num 2 (max 600 (min 36000 a)), num 2 (max 600 (min 36000 b))]) := by
  have hexec : exec (.setRunLimits tag a b) s =
      .next (s.answerRequest tag 0x30#8 false (runLimitsRequest a b)) :=
    congrArg _ (s.request_taken _ tag 0x30#8 (runLimitsRequest a b) ht)
  have hact := runLimitsRequest_eq a b s.popRequest
  rw [State.setRunLimits_popRequest] at hact
  rw [hexec, s.answerRequest_eq _ tag 0x30#8 _ _ _ hact rfl rfl]
  rfl

/-- Settles O26. The defaults are read off; what a taken request leaves is `exec_setRunLimits_taken`, whose
state differs in the two limits only, so no timer's expiry moves. -/
theorem runLimitsAreClamped : Obligations.RunLimitsAreClamped := by
  refine ⟨rfl, rfl, rfl, rfl, fun tag a b w m s ht hw hm => ?_⟩
  rw [exec_setRunLimits_taken tag a b s ht, hw, hm]
  rfl

end Sys2Proof.Machine
end

section
/-! EVERY COMMAND, ONCE: a request is answered by its owner's act, an event acts while the part is powered, and
what is left is the power, the clock, the transmitter and the line itself. Proofs over all commands split here
and not over the rows of the table. -/

namespace Sys2Proof.Machine

/-! ### The owner's act of a request, and the act of an event -/

/-- What the owner of a request does with it; a command that is no request has no owner. -/
def requestAct : Instr → State → Result
  | .setChamber _ a => chamberRequest a
  | .setLevelSettings _ a => levelSettingsRequest a
  | .setTrust _ c x => trustRequest c x
  | .readChamber _ c => readChamberRequest c
  | .setMovementLimits _ a => movementLimitsRequest a
  | .setInputModes _ a => inputModesRequest a
  | .setFaultTiming _ a => faultTimingRequest a
  | .clearFault _ n => clearFaultRequest n
  | .readFaults _ n => readFaultsRequest n
  | .setSignalInterval _ n => signalIntervalRequest n
  | .setLineRate _ n => lineRateRequest n
  | .resetStation _ n => resetStationRequest n
  | .readStation _ n => readStationRequest n
  | .allStop _ => allStopRequest
  | .clearHalt _ => clearHaltRequest
  | .restart _ => accept []
  | .registerVessel _ a => registerRequest a
  | .withdrawVessel _ n => withdrawRequest n
  | .setQueueLimits _ m l => queueLimitsRequest m l
  | .setMode _ m => modeRequest m
  | .readQueue _ d n => readQueueRequest d n
  | .setAdmissionSettings _ a => admissionSettingsRequest a
  | .orderBatch _ ns => orderRequest ns
  | .cancelOrder _ => cancelOrderRequest
  | .abandonBatch _ n => abandonRequest n
  | .readBatch _ n => readBatchRequest n
  | .setRunLimits _ a b => runLimitsRequest a b
  | .confirmMoved _ b g => confirmRequest b g
  | .suspendBatch _ n => suspendRequest n
  | .resumeBatch _ n => resumeRequest n
  | .setTariff _ e => tariffRequest e
  | .switchTariff _ => switchRequest
  | .readTariff _ n => readTariffRequest n
  | .quoteFee _ a => quoteRequest a
  | .setReceiptMargin _ n => receiptMarginRequest n
  | .peekReceipts _ n => peekRequest n
  | .releaseReceipts _ d n => releaseRequest d n
  | .closeDay _ => closeDayRequest
  | .setClock _ n => clockRequest n
  | .readTotals _ => fun s => accept s.totalFields s
  | .setNotices _ a => noticesRequest a
  | .readFlight _ => fun s => accept s.flightFields s
  | .readSettings _ => fun s => accept s.settingFields s
  | _ => refuse .unknownKind

/-- Only RESTART's reply starts the part afresh when it has been sent (R98). -/
def asksRestart : Instr → Bool
  | .restart _ => true
  | _ => false

/-- What an event does while the part is powered. -/
def eventAct : Instr → Option (State → State)
  | .consoleFrameComplete os => some fun s => s.receive os
  | .consoleFrameGap os => some fun s => (s.receive os).dropFragment
  | .frameLengthOutOfRange os => some fun s => s.receive os
  | .pollSlotStart k => some fun s => if s.slotDue k then s.beginPoll k else s
  | .goodAnswer k a => some fun s => s.answered k a
  | .pollFailed k => some fun s => if (s.pollOf k).isSome then (s.failPoll k).finish else s
  | .alarmFrame k r => some fun s => s.alarmArrives k r
  | .stationFrameDiscarded os => some fun s => s.frameArrives os
  | .roundEnd => some fun s => if s.roundEndDue then s.endRound else s
  | .haltPulseEnd => some fun s =>
      if s.line.pulse then s.setLine { s.line with pulse := false, slot := none } else s
  | .lineHalt => some fun s =>
      if s.stretchTimed then ((s.setLine { s.line with stretch := some true }).handCause .lineHalt).finish else s
  | .surgeBlankExpiry c => some fun s => s.endSurge c
  | .changeoverTimerExpiry c => some fun s => s.endChangeover c
  | .startLimitExpiry i => some fun s => if (s.startLimitOf i).isSome then (s.endStartLimit i).finish else s
  | .travelLimitExpiry i => some fun s => if (s.travelLimitOf i).isSome then (s.endTravelLimit i).finish else s
  | .overloadBlankExpiry k => some fun s =>
      if (s.mach.overload.get k).expiry.isSome then (s.endOverloadBlank k).finish else s
  | .resumeDelayExpiry n => some fun s => if (s.resumeDelayOf n).isSome then (s.endResumeDelay n).finish else s
  | .waterStepLimitExpiry n => some fun s => if s.waterLimitRuns n then (s.endWaterLimit n).finish else s
  | .moveWaitExpiry n => some fun s => s.endMoveWait n
  | .allStopIntervalElapsed f => some fun s => s.intervalElapsed f
  | .receiptsRepeatExpiry => some State.endReceiptsRepeat
  | _ => none

/-- The state a request leaves. -/
def State.afterRequest (s : State) (c : Instr) (tag kind : Octet) : State :=
  if s.takesRequest c then s.answerRequest tag kind (asksRestart c) (requestAct c) else s

theorem exec_request {c : Instr} {tag kind : Octet} (h : requestHeader c = some (tag, kind)) (s : State) :
    exec c s = .next (s.afterRequest c tag kind) := by
  cases c <;> simp only [requestHeader, reduceCtorEq, Option.some.injEq, Prod.mk.injEq] at h <;>
    (obtain ⟨rfl, rfl⟩ := h; rfl)

theorem exec_event {c : Instr} {act : State → State} (h : eventAct c = some act) (s : State) :
    exec c s = .next (s.event act) := by
  cases c <;> simp only [eventAct, reduceCtorEq, Option.some.injEq] at h <;> (subst h; rfl)

/-! ### The states a command can leave -/

/-- The states the execution of a command can leave, by the kind of command. -/
inductive Executed (s : State) : Instr → State → Prop
  /-- a request that is taken -/
  | answered {c : Instr} {tag kind : Octet} (hc : requestHeader c = some (tag, kind))
      (ht : s.takesRequest c = true) :
      Executed s c (s.answerRequest tag kind (asksRestart c) (requestAct c))
  /-- an event of a powered part -/
  | acted {c : Instr} {act : State → State} (hc : eventAct c = some act) (hp : s.powered = true) :
      Executed s c ((act s).commit s.retainedOf)
  /-- a frame that cannot be read as a request -/
  | refused {c : Instr} (f : ConsoleFrame) (code : RefuseCode) (hc : c = .refuseUnknownKind f ∨ c = .refuseMalformed f)
      (ht : s.takesRequest c = true) :
      Executed s c (s.replied f.tag (f.kind ||| 0x80#8) (some code) [])
  | poweredUp : Executed s .powerOn s.powerUp
  | powerLost (hp : s.powered = true) : Executed s .powerFail s.losePower
  | updateComplete (hp : s.powered = true) : Executed s .retainedUpdateComplete s.completeUpdate
  | transmitterFreed (hp : s.powered = true) : Executed s .transmitterFree s.freeTransmitter
  | ticked :
      Executed s .clockTick { s with toll := { s.toll with clock := advanceClock s.toll.clock } }
  | stretched (v : Option Bool) {c : Instr} (hc : c = .dominantStretchStart ∨ c = .dominantStretchEnd) :
      Executed s c (s.setLine { s.line with stretch := v })
  /-- a command that finds nothing to act on -/
  | idle (c : Instr) : Executed s c s

theorem execRefusal_cases {c : Instr} (f : ConsoleFrame) (code : RefuseCode) {s t : State}
    (hc : c = .refuseUnknownKind f ∨ c = .refuseMalformed f)
    (h : (if requestOf f = c then .next (s.request c f.tag f.kind (refuse code)) else .next s :
      Host.Outcome State Fault Refusal) = .next t) : Executed s c t := by
  split at h
  · obtain rfl := Host.Outcome.next.inj h
    cases ht : s.takesRequest c
    · rw [s.request_not_taken c f.tag f.kind (refuse code) ht]
      exact .idle c
    · rw [s.request_taken c f.tag f.kind (refuse code) ht,
        s.answerRequest_read f.tag f.kind (refuse code) (some code) [] rfl]
      exact .refused f code hc ht
  · obtain rfl := Host.Outcome.next.inj h
    exact .idle c

theorem Executed.of_request {c : Instr} {tag kind : Octet} {s t : State} (hc : requestHeader c = some (tag, kind))
    (h : exec c s = .next t) : Executed s c t := by
  rw [exec_request hc s] at h
  obtain rfl := Host.Outcome.next.inj h
  unfold State.afterRequest
  split
  · exact .answered hc (by assumption)
  · exact .idle c

theorem Executed.of_event {c : Instr} {act : State → State} {s t : State} (hc : eventAct c = some act)
    (h : exec c s = .next t) : Executed s c t := by
  rw [exec_event hc s] at h
  obtain rfl := Host.Outcome.next.inj h
  unfold State.event
  split
  · exact .acted hc (by assumption)
  · exact .idle c

/-- Every command leaves one of the states of `Executed`. -/
theorem executed_of_exec {c : Instr} {s t : State} (h : exec c s = .next t) : Executed s c t := by
  cases hr : requestHeader c with
  | some hd => exact .of_request (tag := hd.1) (kind := hd.2) hr h
  | none =>
    cases he : eventAct c with
    | some act => exact .of_event he h
    | none =>
      cases c with
      | powerOn => obtain rfl := Host.Outcome.next.inj h; exact .poweredUp
      | refuseUnknownKind f => exact execRefusal_cases f .unknownKind (.inl rfl) h
      | refuseMalformed f => exact execRefusal_cases f .malformed (.inr rfl) h
      | retainedUpdateComplete =>
        obtain rfl := Host.Outcome.next.inj h
        split
        · exact .updateComplete (by assumption)
        · exact .idle _
      | transmitterFree =>
        obtain rfl := Host.Outcome.next.inj h
        split
        · exact .transmitterFreed (by assumption)
        · exact .idle _
      | powerFail =>
        obtain rfl := Host.Outcome.next.inj h
        split
        · exact .powerLost (by assumption)
        · exact .idle _
      | clockTick => obtain rfl := Host.Outcome.next.inj h; exact .ticked
      | dominantStretchStart =>
        obtain rfl := Host.Outcome.next.inj h
        split
        · exact .stretched _ (.inl rfl)
        · exact .idle _
      | dominantStretchEnd => obtain rfl := Host.Outcome.next.inj h; exact .stretched _ (.inr rfl)
      | _ => simp [requestHeader, eventAct] at hr he

/-! ### What a request can do to the state -/

/-- The states an accepted request leaves, before its update and its reply, with what its rule has tested. -/
inductive Granted (s : State) : State → Prop
  | chamber (c : Chamber) (a : ChamberArgs) (hv : chamberValid a = true) (hb : s.traffic.batches = []) :
      Granted s (s.setChamber c ((s.chamber c).configure (chamberConfigOf a))).markAdmit.finish
  | levelSettings (a : LevelSettings) :
      Granted s { s with level := { s.level with settings := clampLevelSettings a } }
  | trust (c : Chamber) (v : Trust) : Granted s (s.changeTrust c v)
  | limits (a : MovementLimits) : Granted s { s with mach := { s.mach with limits := clampMovementLimits a } }
  | inputModes (k : Station) (m : InputModes) :
      Granted s (State.ceaseOff { s with mach := { s.mach with modes := s.mach.modes.set k m } } k m)
  | timing (a : FaultTiming) : Granted s { s with mach := { s.mach with timing := clampFaultTiming a } }
  | clearFault (r : FaultRec) (hr : r ∈ s.mach.faults) : Granted s ((s.dropFault r true).afterRemoval r).finish
  | interval (v : Nat) :
      Granted s (State.finish { s with signal := { s.signal with interval := clampSignalInterval v } })
  | lineRate (r : LineRate) : Granted s (s.changeRate r).finish
  | resetStation (k : Station) : Granted s (s.placeStationReset k)
  | allStop : Granted s (s.handCause .allStop).finish
  | clearHalt : Granted s s.clearHalt
  | vessel (a : VesselArgs) (d : Direction) (p : Priority) (hm : measuresValid a = true)
      (hq : s.charge d < Config.queueCapacity) : Granted s (acceptVessel a d p s).state
  | withdraw (n : Nat) (p : Passage) (hp : s.queued? n = some p) :
      Granted s ((if s.orderHolds n then (s.removeQueued p).discardOrder
        else s.removeQueued p).evaluateQueue p.direction).markAdmit.finish
  | queueLimits (m l : Nat) :
      Granted s ((((s.setTraffic { s.traffic with
        margin := clampQueueMargin m, skipLimit := clampSkipLimit l }).lowerAllSkips (clampSkipLimit l)).evaluateQueue
          .up).evaluateQueue .down).markAdmit.finish
  | mode (m : FlightMode) (hm : s.traffic.mode ≠ m) : Granted s (s.changeMode m)
  | admissionSettings (a : AdmissionArgs) (f : Bool) :
      Granted s (s.setTraffic { s.traffic with
        quota := clampQuota a.quota, spacing := clampSpacing a.spacing, followOn := f }).markAdmit.finish
  | order (ns : List Nat) (hr : s.orderRefusal ns = none) :
      Granted s (s.setTraffic { s.traffic with
        order := some { passages := ns, direction := s.orderDirection ns } }).evaluateAdmission.finish
  | cancelOrder : Granted s s.discardOrder
  | abandon (n : Nat) (b : Batch) (hb : s.batch? n = some b) (he : b.entered = false) :
      Granted s (s.abandon n b).finish
  | runLimits (a b : Nat) :
      Granted s (s.setTraffic { s.traffic with waterLimit := clampRunLimit a, moveWait := clampRunLimit b })
  | confirm (n : Nat) (b : Batch) (g : Station) (hb : s.batch? n = some b) (hr : s.readyToConfirm b g = true) :
      Granted s (s.confirm b g).finish
  | suspend (n : Nat) (b : Batch) (hb : s.batch? n = some b) : Granted s (s.suspend n .byRequest).finish
  | resume (n : Nat) (b : Batch) (hb : s.batch? n = some b) (hs : b.suspended = true) :
      Granted s (s.modBatch n (resumed s.meterLevel)).finish
  | tariff (e : Edition) : Granted s { s with toll := { s.toll with pending := some e } }
  | switch (hr : s.switchRefusal = none) : Granted s s.switchTariff
  | receiptMargin (n : Nat) :
      Granted s (State.evaluateReceipts { s with receipts := { s.receipts with margin := clampReceiptMargin n } })
  | closeDay : Granted s
      (if s.freeSlots < (s.setAccount (openDay s.toll.account s.toll.clock)).evaluateHold.freeSlots
        then (s.setAccount (openDay s.toll.account s.toll.clock)).evaluateHold.markAdmit.finish
        else (s.setAccount (openDay s.toll.account s.toll.clock)).evaluateHold)
  | notices (m : NoticeMask) : Granted s (s.setMask m)

/-- The same by command: only RELEASE RECEIPTS takes receipts out of the queue, and only SET CLOCK sets the clock. -/
inductive GrantedBy (s : State) : Instr → State → Prop
  | plain {c : Instr} {t : State} (h : Granted s t) : GrantedBy s c t
  | release (tag : Octet) (day n : Nat) (rest : List Receipt) (hr : releaseUpTo day n s.receipts.queue = some rest) :
      GrantedBy s (.releaseReceipts tag day n) (s.release rest).finish
  | clock (tag : Octet) (n : Nat) (hn : n ≤ 86399) :
      GrantedBy s (.setClock tag n) { s with toll := { s.toll with clock := n } }

/-- A result of a request made in `s`: it leaves the state as it is, or it is accepted and granted. -/
def Result.GrantedFrom (s : State) (r : Result) : Prop :=
  r.state = s ∨ (r.verdict = none ∧ Granted s r.state)

theorem refuse_grantedFrom (c : RefuseCode) (s : State) : (refuse c s).GrantedFrom s := .inl rfl

theorem accept_grantedFrom_same (data : List Field) (s : State) : (accept data s).GrantedFrom s := .inl rfl

theorem accept_grantedFrom (data : List Field) {s t : State} (h : Granted s t) : (accept data t).GrantedFrom s :=
  .inr ⟨rfl, h⟩

theorem chamberRequest_granted (a : ChamberArgs) (s : State) : (chamberRequest a s).GrantedFrom s := by
  unfold chamberRequest
  split
  · exact refuse_grantedFrom _ _
  · split
    · exact refuse_grantedFrom _ _
    · split
      · exact refuse_grantedFrom _ _
      · exact accept_grantedFrom _ (.chamber _ a (by simp_all) (by simp_all))

theorem trustRequest_granted (c x : Nat) (s : State) : (trustRequest c x s).GrantedFrom s := by
  unfold trustRequest
  split
  · split
    · exact accept_grantedFrom_same _ _
    · exact accept_grantedFrom _ (.trust _ _)
  · exact refuse_grantedFrom _ _

theorem readChamberRequest_granted (c : Nat) (s : State) : (readChamberRequest c s).GrantedFrom s := by
  unfold readChamberRequest
  split
  · exact accept_grantedFrom_same _ _
  · exact refuse_grantedFrom _ _

theorem inputModesRequest_granted (a : InputModesArgs) (s : State) : (inputModesRequest a s).GrantedFrom s := by
  unfold inputModesRequest
  split
  · exact refuse_grantedFrom _ _
  · split
    · exact accept_grantedFrom _ (.inputModes _ _)
    · exact refuse_grantedFrom _ _

theorem clearFaultRequest_granted (n : Nat) (s : State) : (clearFaultRequest n s).GrantedFrom s := by
  unfold clearFaultRequest
  split
  · exact refuse_grantedFrom _ _
  · rename_i r hr
    split
    · exact refuse_grantedFrom _ _
    · split
      · exact refuse_grantedFrom _ _
      · exact accept_grantedFrom _ (.clearFault r (List.mem_of_find?_eq_some hr))

theorem readFaultsRequest_granted (n : Nat) (s : State) : (readFaultsRequest n s).GrantedFrom s := by
  unfold readFaultsRequest
  split
  · exact refuse_grantedFrom _ _
  · exact accept_grantedFrom_same _ _

theorem lineRateRequest_granted (n : Nat) (s : State) : (lineRateRequest n s).GrantedFrom s := by
  unfold lineRateRequest
  split
  · exact refuse_grantedFrom _ _
  · split
    · exact refuse_grantedFrom _ _
    · split
      · exact accept_grantedFrom_same _ _
      · exact accept_grantedFrom _ (.lineRate _)

theorem resetStationRequest_granted (n : Nat) (s : State) : (resetStationRequest n s).GrantedFrom s := by
  unfold resetStationRequest
  split
  · exact refuse_grantedFrom _ _
  · split
    · exact refuse_grantedFrom _ _
    · split
      · exact refuse_grantedFrom _ _
      · exact accept_grantedFrom _ (.resetStation _)

theorem readStationRequest_granted (n : Nat) (s : State) : (readStationRequest n s).GrantedFrom s := by
  unfold readStationRequest
  split
  · exact refuse_grantedFrom _ _
  · exact accept_grantedFrom_same _ _

theorem clearHaltRequest_granted (s : State) : (clearHaltRequest s).GrantedFrom s := by
  unfold clearHaltRequest
  split
  · exact .inl rfl
  · exact accept_grantedFrom _ .clearHalt

theorem registerRequest_granted (a : VesselArgs) (s : State) : (registerRequest a s).GrantedFrom s := by
  unfold registerRequest
  split
  · rename_i d p _ _
    split
    · exact refuse_grantedFrom _ _
    · rename_i hm
      split
      · exact refuse_grantedFrom _ _
      · split
        · exact refuse_grantedFrom _ _
        · split
          · exact refuse_grantedFrom _ _
          · split
            · exact refuse_grantedFrom _ _
            · exact .inr ⟨rfl, .vessel a d p (by simp_all) (by omega)⟩
  · exact refuse_grantedFrom _ _

theorem withdrawRequest_granted (n : Nat) (s : State) : (withdrawRequest n s).GrantedFrom s := by
  unfold withdrawRequest
  split
  · split <;> exact refuse_grantedFrom _ _
  · exact accept_grantedFrom _ (.withdraw n _ (by assumption))

theorem modeRequest_granted (n : Nat) (s : State) : (modeRequest n s).GrantedFrom s := by
  unfold modeRequest
  split
  · exact refuse_grantedFrom _ _
  · split
    · exact accept_grantedFrom_same _ _
    · exact accept_grantedFrom _ (.mode _ (by assumption))

theorem readQueueRequest_granted (d n : Nat) (s : State) : (readQueueRequest d n s).GrantedFrom s := by
  unfold readQueueRequest
  split
  · exact refuse_grantedFrom _ _
  · split
    · exact refuse_grantedFrom _ _
    · exact accept_grantedFrom_same _ _

theorem admissionSettingsRequest_granted (a : AdmissionArgs) (s : State) :
    (admissionSettingsRequest a s).GrantedFrom s := by
  unfold admissionSettingsRequest
  split
  · exact refuse_grantedFrom _ _
  · exact accept_grantedFrom _ (.admissionSettings a _)

theorem orderRequest_granted (ns : List Nat) (s : State) : (orderRequest ns s).GrantedFrom s := by
  unfold orderRequest
  split
  · exact refuse_grantedFrom _ _
  · exact accept_grantedFrom _ (.order ns (by assumption))

theorem cancelOrderRequest_granted (s : State) : (cancelOrderRequest s).GrantedFrom s := by
  unfold cancelOrderRequest
  split
  · exact refuse_grantedFrom _ _
  · exact accept_grantedFrom _ .cancelOrder

theorem abandonRequest_granted (n : Nat) (s : State) : (abandonRequest n s).GrantedFrom s := by
  unfold abandonRequest
  split
  · exact refuse_grantedFrom _ _
  · split
    · exact refuse_grantedFrom _ _
    · split
      · exact refuse_grantedFrom _ _
      · exact accept_grantedFrom _ (.abandon n _ (by assumption) (by simp_all))

theorem readBatchRequest_granted (n : Nat) (s : State) : (readBatchRequest n s).GrantedFrom s := by
  unfold readBatchRequest
  split
  · exact refuse_grantedFrom _ _
  · exact accept_grantedFrom_same _ _

theorem confirmRequest_granted (n g : Nat) (s : State) : (confirmRequest n g s).GrantedFrom s := by
  unfold confirmRequest
  split
  · exact refuse_grantedFrom _ _
  · split
    · exact refuse_grantedFrom _ _
    · split
      · exact accept_grantedFrom _ (.confirm n _ _ (by assumption) (by assumption))
      · exact refuse_grantedFrom _ _

theorem suspendRequest_granted (n : Nat) (s : State) : (suspendRequest n s).GrantedFrom s := by
  unfold suspendRequest
  split
  · exact refuse_grantedFrom _ _
  · split
    · exact refuse_grantedFrom _ _
    · exact accept_grantedFrom _ (.suspend n _ (by assumption))

theorem resumeRequest_granted (n : Nat) (s : State) : (resumeRequest n s).GrantedFrom s := by
  unfold resumeRequest
  split
  · exact refuse_grantedFrom _ _
  · split
    · exact refuse_grantedFrom _ _
    · split
      · exact refuse_grantedFrom _ _
      · split
        · exact refuse_grantedFrom _ _
        · exact accept_grantedFrom _ (.resume n _ (by assumption) (by simp_all))

theorem tariffRequest_granted (e : Edition) (s : State) : (tariffRequest e s).GrantedFrom s := by
  unfold tariffRequest
  split
  · exact accept_grantedFrom _ (.tariff e)
  · exact refuse_grantedFrom _ _

theorem switchRequest_granted (s : State) : (switchRequest s).GrantedFrom s := by
  unfold switchRequest
  split
  · exact refuse_grantedFrom _ _
  · exact accept_grantedFrom _ (.switch (by assumption))

theorem readTariffRequest_granted (n : Nat) (s : State) : (readTariffRequest n s).GrantedFrom s := by
  unfold readTariffRequest
  split
  · exact accept_grantedFrom_same _ _
  · exact accept_grantedFrom_same _ _
  · exact accept_grantedFrom_same _ _
  · exact refuse_grantedFrom _ _

theorem quoteFrom_granted (slot : Option Edition) (c : RefuseCode) (v : VesselArgs) (p : Priority) (night : Bool)
    (s : State) : (quoteFrom slot c v p night s).GrantedFrom s := by
  unfold quoteFrom
  split
  · exact accept_grantedFrom_same _ _
  · exact refuse_grantedFrom _ _

theorem quoteRequest_granted (a : QuoteArgs) (s : State) : (quoteRequest a s).GrantedFrom s := by
  unfold quoteRequest
  split
  · split
    · exact refuse_grantedFrom _ _
    · split
      · exact quoteFrom_granted _ _ _ _ _ _
      · exact quoteFrom_granted _ _ _ _ _ _
      · exact refuse_grantedFrom _ _
  · exact refuse_grantedFrom _ _

theorem peekRequest_granted (n : Nat) (s : State) : (peekRequest n s).GrantedFrom s := by
  unfold peekRequest
  split
  · exact accept_grantedFrom_same _ _
  · exact refuse_grantedFrom _ _

theorem accept_grantedBy (data : List Field) {c : Instr} {s t : State} (h : GrantedBy s c t) :
    (accept data t).state = s ∨ ((accept data t).verdict = none ∧ GrantedBy s c (accept data t).state) :=
  .inr ⟨rfl, h⟩

theorem releaseRequest_granted (tag : Octet) (d n : Nat) (s : State) :
    (releaseRequest d n s).state = s ∨
      ((releaseRequest d n s).verdict = none ∧ GrantedBy s (.releaseReceipts tag d n) (releaseRequest d n s).state) := by
  unfold releaseRequest
  split
  · exact .inl rfl
  · split
    · exact .inl rfl
    · exact accept_grantedBy _ (.release tag d n _ (by assumption))

theorem closeDayRequest_granted (s : State) : (closeDayRequest s).GrantedFrom s := by
  unfold closeDayRequest
  dsimp only
  split
  · exact refuse_grantedFrom _ _
  · exact accept_grantedFrom _ .closeDay

theorem clockRequest_granted (tag : Octet) (n : Nat) (s : State) :
    (clockRequest n s).state = s ∨
      ((clockRequest n s).verdict = none ∧ GrantedBy s (.setClock tag n) (clockRequest n s).state) := by
  unfold clockRequest
  split
  · exact .inl rfl
  · exact accept_grantedBy _ (.clock tag n (by omega))

theorem Result.GrantedFrom.by {s : State} {r : Result} (h : r.GrantedFrom s) (c : Instr) :
    r.state = s ∨ (r.verdict = none ∧ GrantedBy s c r.state) := h.imp id fun h => ⟨h.1, .plain h.2⟩

theorem noticesRequest_granted (a : NoticesArgs) (s : State) : (noticesRequest a s).GrantedFrom s := by
  unfold noticesRequest
  split
  · exact accept_grantedFrom _ (.notices _)
  · exact refuse_grantedFrom _ _

/-- A request leaves the state as it is, or is accepted and granted. -/
theorem requestAct_grantedFrom (c : Instr) (s : State) (hr : ∀ tag d n, c ≠ .releaseReceipts tag d n)
    (hc : ∀ tag n, c ≠ .setClock tag n) : (requestAct c s).GrantedFrom s := by
  cases c with
  | setChamber _ a => exact chamberRequest_granted a s
  | setLevelSettings _ a => exact accept_grantedFrom _ (.levelSettings a)
  | setTrust _ c x => exact trustRequest_granted c x s
  | readChamber _ c => exact readChamberRequest_granted c s
  | setMovementLimits _ a => exact accept_grantedFrom _ (.limits a)
  | setInputModes _ a => exact inputModesRequest_granted a s
  | setFaultTiming _ a => exact accept_grantedFrom _ (.timing a)
  | clearFault _ n => exact clearFaultRequest_granted n s
  | readFaults _ n => exact readFaultsRequest_granted n s
  | setSignalInterval _ n => exact accept_grantedFrom _ (.interval n)
  | setLineRate _ n => exact lineRateRequest_granted n s
  | resetStation _ n => exact resetStationRequest_granted n s
  | readStation _ n => exact readStationRequest_granted n s
  | allStop => exact accept_grantedFrom _ .allStop
  | clearHalt => exact clearHaltRequest_granted s
  | registerVessel _ a => exact registerRequest_granted a s
  | withdrawVessel _ n => exact withdrawRequest_granted n s
  | setQueueLimits _ m l => exact accept_grantedFrom _ (.queueLimits m l)
  | setMode _ m => exact modeRequest_granted m s
  | readQueue _ d n => exact readQueueRequest_granted d n s
  | setAdmissionSettings _ a => exact admissionSettingsRequest_granted a s
  | orderBatch _ ns => exact orderRequest_granted ns s
  | cancelOrder => exact cancelOrderRequest_granted s
  | abandonBatch _ n => exact abandonRequest_granted n s
  | readBatch _ n => exact readBatchRequest_granted n s
  | setRunLimits _ a b => exact accept_grantedFrom _ (.runLimits a b)
  | confirmMoved _ n g => exact confirmRequest_granted n g s
  | suspendBatch _ n => exact suspendRequest_granted n s
  | resumeBatch _ n => exact resumeRequest_granted n s
  | setTariff _ e => exact tariffRequest_granted e s
  | switchTariff => exact switchRequest_granted s
  | readTariff _ n => exact readTariffRequest_granted n s
  | quoteFee _ a => exact quoteRequest_granted a s
  | setReceiptMargin _ n => exact accept_grantedFrom _ (.receiptMargin n)
  | peekReceipts _ n => exact peekRequest_granted n s
  | releaseReceipts tag d n => exact absurd rfl (hr tag d n)
  | closeDay => exact closeDayRequest_granted s
  | setClock tag n => exact absurd rfl (hc tag n)
  | setNotices _ a => exact noticesRequest_granted a s
  | _ => exact .inl rfl

theorem requestAct_granted (c : Instr) (s : State) :
    (requestAct c s).state = s ∨ ((requestAct c s).verdict = none ∧ GrantedBy s c (requestAct c s).state) := by
  by_cases hr : ∃ tag d n, c = .releaseReceipts tag d n
  · obtain ⟨tag, d, n, rfl⟩ := hr
    exact releaseRequest_granted tag d n s
  · by_cases hc : ∃ tag n, c = .setClock tag n
    · obtain ⟨tag, n, rfl⟩ := hc
      exact clockRequest_granted tag n s
    · exact (requestAct_grantedFrom c s (fun tag d n h => hr ⟨tag, d, n, h⟩) fun tag n h => hc ⟨tag, n, h⟩).by c

/-- Every command has a next state: none ends in a fault or a refusal. -/
theorem exec_next (c : Instr) (s : State) : ∃ t, exec c s = .next t := by
  cases hr : requestHeader c with
  | some hd => exact ⟨_, exec_request (tag := hd.1) (kind := hd.2) hr s⟩
  | none =>
    cases he : eventAct c with
    | some act => exact ⟨_, exec_event he s⟩
    | none =>
      cases c with
      | refuseUnknownKind f => exact ⟨_, (apply_ite Host.Outcome.next _ _ _).symm⟩
      | refuseMalformed f => exact ⟨_, (apply_ite Host.Outcome.next _ _ _).symm⟩
      | powerOn | retainedUpdateComplete | transmitterFree | powerFail | clockTick | dominantStretchStart
      | dominantStretchEnd => exact ⟨_, rfl⟩
      | _ => simp [requestHeader, eventAct] at hr he

end Sys2Proof.Machine
end

section
/-! THE STEP, RESET AND THE CONSOLE'S REPLIES: what the queue's front gives, the reset values, the answer of every
request, the refusals of frames that cannot be read, the requests that only read and those that only set. -/

namespace Sys2Proof.Machine

/-! ### The whole state after a request that is taken -/

theorem exec_request_taken {c : Instr} {tag kind : Octet} (hc : requestHeader c = some (tag, kind)) {s : State}
    (ht : s.takesRequest c = true) :
    exec c s = .next (s.answerRequest tag kind (asksRestart c) (requestAct c)) := by
  rw [exec_request hc, State.afterRequest, if_pos ht]

/-- A request whose owner's act leaves `u`, the request's frame taken out of the order before or after it. -/
theorem exec_request_answering {c : Instr} {tag kind : Octet} (hc : requestHeader c = some (tag, kind))
    {s : State} (ht : s.takesRequest c = true) (u : State) (v : Option RefuseCode) (data : List Field)
    (hr : asksRestart c = false)
    (hact : requestAct c s.popRequest = { verdict := v, data := data, state := u.popRequest })
    (ho : u.console.order = s.console.order) (hs : u.store = s.store) :
    exec c s = .next (s.answering u tag (kind ||| 0x80#8) v data) := by
  rw [exec_request_taken hc ht, hr, s.answerRequest_eq u tag kind _ v data hact ho hs]

/-- A request that is refused, or that only reads. -/
theorem exec_request_replied {c : Instr} {tag kind : Octet} (hc : requestHeader c = some (tag, kind))
    {s : State} (ht : s.takesRequest c = true) (v : Option RefuseCode) (data : List Field)
    (hr : asksRestart c = false)
    (hact : requestAct c s.popRequest = { verdict := v, data := data, state := s.popRequest }) :
    exec c s = .next (s.replied tag (kind ||| 0x80#8) v data) := by
  rw [exec_request_taken hc ht, hr, s.answerRequest_read tag kind _ v data hact]

/-! ### Steps and reset -/

theorem step_of_command {c : Instr} {rest : List Instr} {s : State} (h : s.pending = c :: rest) :
    step s = exec c (s.withPending rest) := by
  simp only [step, h]

theorem step_of_empty {s : State} (h : s.pending = []) : step s = .next s.tenth := by
  simp only [step, h]

/-- Settles O1: the match of `step` on the queue. -/
theorem stepTakesTheFrontCommand : Obligations.StepTakesTheFrontCommand :=
  fun _ _ _ h => step_of_command h

/-- Settles O2: a tenth of a second is the empty queue's step. -/
theorem emptyQueuePassesATenth : Obligations.EmptyQueuePassesATenth := by
  intro s h
  rw [step_of_empty h, State.tenth]
  simp [h, whenDue]

/-- Settles O3: the fields are read off `State.reset`; those of ten items, eight faces and the like are looked up by
name. -/
theorem resetIsTheStartUpState : Obligations.ResetIsTheStartUpState := by
  refine ⟨rfl, rfl, rfl, rfl, rfl, fun c => ?_, fun k => ?_, rfl, rfl, rfl, rfl, rfl, rfl, rfl, rfl, rfl,
    fun i => ?_, fun k => ?_, fun k => ⟨?_, ?_, fun i => ?_⟩, fun c => ?_, rfl, rfl, fun f => ?_, rfl, rfl, rfl,
    rfl, rfl, rfl, rfl, rfl, rfl, rfl, rfl, rfl, rfl, rfl, rfl, rfl⟩
  · cases c <;> rfl
  · cases k <;> rfl
  · rcases i with k | k | w
    · cases k <;> rfl
    · cases k <;> rfl
    · cases w <;> rfl
  · cases k <;> rfl
  · cases k <;> rfl
  · cases k <;> rfl
  · cases k <;> cases i <;> exact ⟨rfl, rfl⟩
  · cases c <;> rfl
  · obtain ⟨k, x⟩ := f
    cases k <;> cases x <;> rfl

/-! ### Power -/

theorem State.takesRequest_unpowered {s : State} (h : s.powered = false) (c : Instr) :
    s.takesRequest c = false := by
  simp [State.takesRequest, h]

/-- Settles O16: a request is not taken and an event does not act without power. -/
theorem noPowerNoEffect : Obligations.NoPowerNoEffect := by
  intro c s hp hOn hTick hStart hEnd
  obtain ⟨t, ht⟩ := exec_next c s
  rw [ht]
  cases executed_of_exec ht with
  | answered _ htaken => simp [s.takesRequest_unpowered hp] at htaken
  | refused f code _ htaken => simp [s.takesRequest_unpowered hp] at htaken
  | acted _ hpow | powerLost hpow | updateComplete hpow | transmitterFreed hpow => simp [hp] at hpow
  | poweredUp => exact absurd rfl hOn
  | ticked => exact absurd rfl hTick
  | stretched v hc => exact absurd hc (by simp [hStart, hEnd])
  | idle => rfl

/-! ### Every request has its answer -/

theorem State.order_of_fixed {s t : State} (h : t.fixed = s.fixed) : t.console.order = s.console.order :=
  congrArg Fixed.order h

@[simp] theorem State.finish_order (s : State) : s.finish.console.order = s.console.order :=
  State.order_of_fixed s.finish_fixed

@[simp] theorem State.evaluateReceipts_order (s : State) : s.evaluateReceipts.console.order = s.console.order :=
  State.order_of_fixed s.evaluateReceipts_fixed

@[simp] theorem State.evaluateHold_order (s : State) : s.evaluateHold.console.order = s.console.order :=
  State.order_of_fixed s.evaluateHold_fixed

@[simp] theorem State.evaluateQueue_order (s : State) (d : Direction) :
    (s.evaluateQueue d).console.order = s.console.order :=
  State.order_of_fixed (s.evaluateQueue_fixed d)

@[simp] theorem State.setQueueOf_order (s : State) (d : Direction) (q : List Passage) :
    (s.setQueueOf d q).console.order = s.console.order :=
  State.order_of_fixed (s.setQueueOf_fixed d q)

@[simp] theorem State.notify_order (s : State) (k : NoticeKind) (o : Nat) (p : List Field) :
    (s.notify k o p).console.order = s.console.order :=
  State.order_of_fixed (s.notify_fixed k o p)

@[simp] theorem State.markAdmit_order (s : State) : s.markAdmit.console.order = s.console.order := rfl

theorem State.foldl_withdrawStopWait_fixed (n : Nat) (fs : List Face) (s : State) :
    (fs.foldl (fun s f => s.withdrawStopWait f n) s).fixed = s.fixed :=
  foldl_fixed _ (fun s f => s.withdrawStopWait_fixed f n) fs s

theorem State.abandon_order (s : State) (n : Nat) (b : Batch) :
    (s.abandon n b).console.order = s.console.order := by
  simp only [State.abandon, State.markAdmit_order, State.notify_order, State.evaluateHold_order,
    State.evaluateQueue_order, State.order_of_fixed (State.foldl_withdrawStopWait_fixed _ _ _),
    State.returnMembers, State.setQueueOf_order]
  rfl

theorem State.confirm_order (s : State) (b : Batch) (g : Station) :
    (s.confirm b g).console.order = s.console.order := by
  refine State.order_of_fixed ?_
  unfold State.confirm
  dsimp only
  split <;> simp

theorem State.changeTrust_order (s : State) (c : Chamber) (t : Trust) :
    (s.changeTrust c t).console.order = s.console.order := by
  unfold State.changeTrust
  dsimp only
  split
  · exact State.notify_order _ _ _ _
  · rfl

theorem State.ceaseOff_order (s : State) (k : Station) (m : InputModes) :
    (s.ceaseOff k m).console.order = s.console.order :=
  State.order_of_fixed (foldl_fixed _ (fun s i => by split <;> rfl) _ s)

theorem State.stampReady_order (s : State) : s.stampReady.console.order = s.console.order := by
  unfold State.stampReady
  split <;> rfl

/-- What is granted keeps the order of the requests that wait. -/
theorem Granted.keeps_order {s t : State} (h : Granted s t) : t.console.order = s.console.order := by
  cases h with
  | trust c v => exact s.changeTrust_order c v
  | inputModes k m => exact State.ceaseOff_order _ k m
  | clearFault r => rw [State.finish_order]; exact State.order_of_fixed (by simp)
  | lineRate r => rw [State.finish_order]; exact State.order_of_fixed (s.changeRate_fixed r)
  | clearHalt =>
    unfold State.clearHalt
    split <;> rfl
  | vessel a d p =>
    simp only [acceptVessel, accept, State.finish_order, State.markAdmit_order, State.evaluateQueue_order,
      State.addPassage]
    exact (State.setQueueOf_order _ _ _).trans s.stampReady_order
  | withdraw n p =>
    simp only [State.finish_order, State.markAdmit_order, State.evaluateQueue_order]
    split <;> exact State.setQueueOf_order _ _ _
  | queueLimits m l =>
    simp only [State.finish_order, State.markAdmit_order, State.evaluateQueue_order]
    rfl
  | mode m =>
    simp only [State.changeMode, State.finish_order, State.markAdmit_order]
    split <;> rfl
  | order ns => rw [State.finish_order]; exact State.order_of_fixed (State.evaluateAdmission_fixed _)
  | abandon n b => rw [State.finish_order, s.abandon_order]
  | confirm n b g => rw [State.finish_order, s.confirm_order]
  | suspend n b => rw [State.finish_order]; exact State.order_of_fixed (s.suspend_fixed n _)
  | switch =>
    unfold State.switchTariff
    dsimp only
    split
    · rw [State.finish_order]; rfl
    · rfl
  | receiptMargin n => exact State.evaluateReceipts_order _
  | closeDay =>
    split
    · rw [State.finish_order, State.markAdmit_order, State.evaluateHold_order]; rfl
    · exact State.evaluateHold_order _
  | chamber | interval | allStop | admissionSettings | resume => exact State.finish_order _
  | _ => rfl

theorem GrantedBy.keeps_order {c : Instr} {s t : State} (h : GrantedBy s c t) : t.console.order = s.console.order := by
  cases h with
  | plain h => exact h.keeps_order
  | release tag d n rest =>
    simp only [State.finish_order, State.release, State.markAdmit_order, State.evaluateHold_order,
      State.evaluateReceipts_order]
  | clock tag n hn => rfl

/-- A request keeps the order of those that wait, its own frame gone already. -/
theorem requestAct_order (c : Instr) (s : State) : (requestAct c s).state.console.order = s.console.order := by
  rcases requestAct_granted c s with h | ⟨-, h⟩
  · rw [h]
  · exact h.keeps_order

theorem requestAct_of_refusal {c : Instr} {s : State} (h : (requestAct c s).verdict.isSome = true) :
    (requestAct c s).state = s := by
  rcases requestAct_granted c s with hs | ⟨hv, -⟩
  · exact hs
  · simp [hv] at h

theorem requestAct_restart {c : Instr} (h : asksRestart c = true) (s : State) :
    (requestAct c s).verdict = none := by
  cases c with
  | restart => rfl
  | _ => simp [asksRestart] at h

@[simp] theorem State.commit_order (s : State) (r : Retained) : (s.commit r).console.order = s.console.order :=
  State.order_of_fixed (State.commit_fixed r s)

theorem State.answerRequest_order (s : State) (tag kind : Octet) (c : Instr) :
    (s.answerRequest tag kind (asksRestart c) (requestAct c)).console.order = s.console.order.drop 1 := by
  simp only [State.answerRequest, State.setConsole, State.commit_order, requestAct_order]
  rfl

/-- A refused request changes nothing but the console link. -/
theorem State.answerRequest_refused (s : State) (tag kind : Octet) (c : Instr)
    (h : (requestAct c s.popRequest).verdict.isSome = true) :
    s.answerRequest tag kind (asksRestart c) (requestAct c) =
      s.replied tag (kind ||| 0x80#8) (requestAct c s.popRequest).verdict (requestAct c s.popRequest).data := by
  have hr : asksRestart c = false := by
    by_contra hr
    rw [Bool.not_eq_false] at hr
    simp [requestAct_restart hr] at h
  have hs := requestAct_of_refusal h
  rw [hr]
  exact s.answerRequest_read tag kind _ _ _ (congrArg (Result.mk _ _) hs)

/-- Settles O17: `answerRequest` is the only outcome of a request that is taken. -/
theorem everyRequestIsAnswered : Obligations.EveryRequestIsAnswered := by
  intro c tag kind s hc
  rw [exec_request hc]
  constructor
  · intro ht
    rw [State.afterRequest, if_pos ht]
    exact ⟨_, _, rfl, s.answerRequest_order tag kind c, rfl, rfl, rfl,
      fun hv => s.answerRequest_refused tag kind c hv⟩
  · intro ht
    rw [State.afterRequest, ht]
    rfl

/-! ### Frames that cannot be read -/

theorem exec_refuseUnknownKind (f : ConsoleFrame) (s : State) (h : requestOf f = .refuseUnknownKind f)
    (ht : s.takesRequest (.refuseUnknownKind f) = true) :
    exec (.refuseUnknownKind f) s =
      .next (s.replied f.tag (f.kind ||| 0x80#8) (some .unknownKind) []) := by
  have hx : exec (.refuseUnknownKind f) s = execRefuseUnknownKind f s := rfl
  rw [hx, execRefuseUnknownKind, if_pos h, s.request_taken _ _ _ _ ht,
    s.answerRequest_read f.tag f.kind (refuse .unknownKind) (some .unknownKind) [] rfl]

theorem exec_refuseMalformed (f : ConsoleFrame) (s : State) (h : requestOf f = .refuseMalformed f)
    (ht : s.takesRequest (.refuseMalformed f) = true) :
    exec (.refuseMalformed f) s = .next (s.replied f.tag (f.kind ||| 0x80#8) (some .malformed) []) := by
  have hx : exec (.refuseMalformed f) s = execRefuseMalformed f s := rfl
  rw [hx, execRefuseMalformed, if_pos h, s.request_taken _ _ _ _ ht,
    s.answerRequest_read f.tag f.kind (refuse .malformed) (some .malformed) [] rfl]

/-- The table of 12.6 is read by the number of the kind; every other number is the last row. -/
theorem requestOf_of_unknown (f : ConsoleFrame) (h : f.kind ∉ requestKinds) :
    requestOf f = .refuseUnknownKind f := by
  have hk : ∀ k ∈ requestKinds, f.kind.toNat ≠ k.toNat := fun k hk he =>
    h (BitVec.eq_of_toNat_eq he ▸ hk)
  simp only [requestKinds, List.forall_mem_cons] at hk
  unfold requestOf
  dsimp only
  split
  all_goals first
    | rfl
    | (rename_i heq; simp [heq] at hk)

/-- Settles O20: the reading of an unlisted kind and the two answers. -/
theorem unreadableFramesAreRefused : Obligations.UnreadableFramesAreRefused :=
  ⟨requestOf_of_unknown, exec_refuseUnknownKind, exec_refuseMalformed⟩

end Sys2Proof.Machine
end

section
/-! THE READS, THE SETTINGS AND THE TRANSMITTER: requests that answer from the state, requests that only take their
values, and the frame the transmitter sends next. -/

namespace Sys2Proof.Machine

/-! ### Reads -/

theorem readChamberRequest_of {n : Nat} {c : Chamber} (h : chamberOf n = some c) (s : State) :
    readChamberRequest n s = accept (s.chamberFields c) s := by
  simp [readChamberRequest, h]

theorem readStationRequest_of {n : Nat} {k : Station} (h : stationOf n = some k) (s : State) :
    readStationRequest n s = accept (s.stationSummary k) s := by
  simp [readStationRequest, h]

theorem readQueueRequest_of {n pos : Nat} {d : Direction} (h : directionOf n = some d) (hp : pos ≤ 23)
    (s : State) : readQueueRequest n pos s = accept (s.queueReply d pos) s := by
  have : ¬23 < pos := by omega
  simp [readQueueRequest, h, this]

theorem readFaultsRequest_of {n : Nat} (h : n ≤ 15) (s : State) :
    readFaultsRequest n s = accept
      ([num 1 s.mach.faults.length, num 1 s.mach.nextFault] ++
        collection (fun r => faultFields r ++ s.faultBeside r) ((s.mach.faults.drop n).take 8) ++
        collection (fun (x : Station × Input) => [num 1 (stationCode x.1), num 1 (inputCode x.2)])
          s.unrecordedPairs) s := by
  have : ¬15 < n := by omega
  simp [readFaultsRequest, window, this]

theorem readBatchRequest_of {n : Nat} {b : Batch} {s : State} (h : s.batch? n = some b) :
    readBatchRequest n s = accept (s.batchFields b (s.placeOf n)) s := by
  simp [readBatchRequest, h]

/-- Settles O23: each read accepts with the fields of the state, and a bad position or number is refused. -/
theorem readsOfTheFlight : Obligations.ReadsOfTheFlight := by
  intro tag s
  refine ⟨fun n c h ht => ?_, fun n h ht => ?_, fun n h ht => ?_, fun n k h ht => ?_, fun n d pos h hp ht => ?_,
    fun n b h ht => ?_, fun n h ht => ?_⟩
  · exact exec_request_replied rfl ht none _ rfl (readChamberRequest_of h s.popRequest)
  · exact exec_request_replied rfl ht none _ rfl (readFaultsRequest_of h s.popRequest)
  · refine exec_request_replied rfl ht (some .badValue) [] rfl ?_
    simp [requestAct, readFaultsRequest, h, refuse]
  · exact exec_request_replied rfl ht none _ rfl (readStationRequest_of h s.popRequest)
  · exact exec_request_replied rfl ht none _ rfl (readQueueRequest_of h hp s.popRequest)
  · exact exec_request_replied rfl ht none _ rfl (readBatchRequest_of (s := s.popRequest) h)
  · refine exec_request_replied rfl ht (some .noSuchBatch) [] rfl ?_
    have h' : s.popRequest.batch? n = none := h
    simp [requestAct, readBatchRequest, h', refuse]

theorem quoteRequest_current {a : QuoteArgs} {e : Edition} {p : Priority} {night : Bool} {s : State}
    (hp : priorityOf a.vessel.priority = some p) (hn : flagOf a.night = some night)
    (hm : measuresValid a.vessel = true) (hc : a.choice = 0) (he : s.toll.current = some e) :
    quoteRequest a s = accept (s.quoteFields e a.vessel p night) s := by
  simp [quoteRequest, quoteFrom, hp, hn, hm, hc, he]

theorem pendingFields_eq (slot : Option Edition) :
    pendingFields slot = match slot with
      | some e => flag true :: editionFields e ++ [num 1 0]
      | none => [flag false, num 1 0] := by
  cases slot <;> rfl

theorem peekRequest_of {n : Nat} (h₁ : 1 ≤ n) (h₄ : n ≤ 4) (s : State) :
    peekRequest n s = accept
      (num 1 s.receipts.queue.length :: num 1 (min n s.receipts.queue.length) ::
        (s.receipts.queue.take n).flatMap receiptFields) s := by
  simp [peekRequest, between, h₁, h₄, State.peekFields]

/-- Settles O24: each read accepts with the fields of the state. -/
theorem readsOfTheOffice : Obligations.ReadsOfTheOffice := by
  intro tag s
  refine ⟨fun ht => ?_, fun ht => ?_, fun ht => ?_, fun a e p night hp hn hm hc he ht => ?_,
    fun n h₁ h₄ ht => ?_, fun ht => ?_, fun ht => ?_, fun ht => ?_⟩
  · exact exec_request_replied rfl ht none _ rfl rfl
  · exact exec_request_replied rfl ht none _ rfl rfl
  · have h := exec_request_replied (c := .readTariff tag 2) rfl ht none (pendingFields s.toll.pending) rfl rfl
    rw [h, pendingFields_eq]
    rfl
  · exact exec_request_replied rfl ht none _ rfl (quoteRequest_current (s := s.popRequest) hp hn hm hc he)
  · exact exec_request_replied rfl ht none _ rfl (peekRequest_of h₁ h₄ s.popRequest)
  · exact exec_request_replied rfl ht none _ rfl rfl
  · exact exec_request_replied rfl ht none _ rfl rfl
  · exact exec_request_replied rfl ht none _ rfl rfl

/-! ### Settings -/

theorem clampLevelSettings_eq (a : LevelSettings) :
    clampLevelSettings a =
      { freeboard := max 50 (min 500 a.freeboard), equalTolerance := max 5 (min 200 a.equalTolerance)
        agreementTolerance := max 10 (min 300 a.agreementTolerance)
        bandTolerance := max 10 (min 300 a.bandTolerance), settleCount := max 1 (min 16 a.settleCount)
        surgeBlank := min 1200 a.surgeBlank } := by
  simp [clampLevelSettings, clampTo_eq_max_min]

theorem clampMovementLimits_eq (a : MovementLimits) :
    clampMovementLimits a =
      { gateStart := max 10 (min 300 a.gateStart), pathStart := max 10 (min 300 a.pathStart)
        gateTravel := max 200 (min 6000 a.gateTravel), pathTravel := max 50 (min 3000 a.pathTravel)
        changeover := min 600 a.changeover } := by
  simp [clampMovementLimits, clampTo_eq_max_min]

theorem clampFaultTiming_eq (a : FaultTiming) :
    clampFaultTiming a =
      { overloadBlank := min 100 a.overloadBlank, resumeDelay := max 20 (min 1200 a.resumeDelay)
        resumeLimit := max 1 (min 8 a.resumeLimit) } := by
  simp [clampFaultTiming, clampTo_eq_max_min]

/-- Settles O25: the owner's act takes the clamped values; a clamp to `lo..hi` is the nearer end. -/
theorem timingSettingsAreClamped : Obligations.TimingSettingsAreClamped := by
  refine ⟨fun tag a v s ht hv => ?_, fun tag a v s ht hv => ?_, fun tag a v s ht hv => ?_⟩
  · obtain rfl := hv.trans (clampLevelSettings_eq a).symm
    refine exec_request_answering rfl ht _ none _ rfl ?_ ?_ ?_ <;> rfl
  · obtain rfl := hv.trans (clampMovementLimits_eq a).symm
    refine exec_request_answering rfl ht _ none _ rfl ?_ ?_ ?_ <;> rfl
  · obtain rfl := hv.trans (clampFaultTiming_eq a).symm
    refine exec_request_answering rfl ht _ none _ rfl ?_ ?_ ?_ <;> rfl

theorem noticesRequest_of {a : NoticesArgs} {m : NoticeMask} (h₁ : flagOf a.safety = some m.safety)
    (h₂ : flagOf a.level = some m.level) (h₃ : flagOf a.traffic = some m.traffic)
    (h₄ : flagOf a.accounts = some m.accounts) (s : State) :
    noticesRequest a s = accept (maskFields m) (s.setMask m) := by
  simp [noticesRequest, h₁, h₂, h₃, h₄]

/-- Settles O27: the owner's act of each request; the clock is no part of the retained state. -/
theorem officeSettings : Obligations.OfficeSettings := by
  refine ⟨fun tag a m s h₁ h₂ h₃ h₄ ht => ?_, fun tag e s he ht => ?_, fun tag time s h ht => ?_,
    fun tag time s h ht => ?_⟩
  · refine exec_request_answering rfl ht (s.setMask m) none _ rfl ?_ rfl rfl
    exact noticesRequest_of h₁ h₂ h₃ h₄ s.popRequest
  · refine exec_request_answering rfl ht { s with toll := { s.toll with pending := some e } } none _ rfl ?_ rfl rfl
    simp only [requestAct, tariffRequest, he, if_true]
    rfl
  · have hact : requestAct (.setClock tag time) s.popRequest =
        accept [num 3 time] { s.popRequest with toll := { s.toll with clock := time } } := by
      have : ¬86399 < time := by omega
      simp only [requestAct, clockRequest, this, if_false]
      rfl
    have hu := s.answering_plain { s with toll := { s.toll with clock := time } } tag 0xC4#8 none [num 3 time]
      rfl rfl rfl
    rw [← hu]
    exact exec_request_answering rfl ht { s with toll := { s.toll with clock := time } } none _ rfl hact rfl rfl
  · refine exec_request_replied rfl ht (some .badValue) [] rfl ?_
    simp [requestAct, clockRequest, h, refuse]

/-! ### The transmitter -/

theorem exec_transmitterFree {s : State} (hp : s.powered = true) (hd : s.restartDue = false) :
    exec .transmitterFree s = .next (s.setConsole s.console.sent.choose) := by
  have hx : exec .transmitterFree s = .next (if s.powered then s.freeTransmitter else s) := rfl
  rw [hx, if_pos hp, State.freeTransmitter, hd]
  rfl

/-- The console once the frame being sent has gone. -/
theorem Console.sent_eq (c : Console) :
    c.sent = { c with
      sending := none
      lastWasReply := match c.sending with | some f => f.isReply | none => c.lastWasReply } := by
  unfold Console.sent
  cases h : c.sending with
  | some f => rfl
  | none => cases c; simp_all

theorem Console.formed_some {c : Console} {r : Reply} (h : c.reply = some r) (hw : r.waits = 0) :
    c.formed = some r := by
  simp [Console.formed, h, hw]

theorem Console.formed_none {c : Console} (h : c.reply = none ∨ ∃ r, c.reply = some r ∧ r.waits ≠ 0) :
    c.formed = none := by
  rcases h with h | ⟨r, h, hw⟩
  · simp [Console.formed, h]
  · simp [Console.formed, h, hw]

theorem Console.choose_reply {c : Console} {r : Reply} (h : c.formed = some r)
    (hn : c.lastWasReply = false ∨ c.notices = []) :
    c.choose = { c with sending := some (replyFrame r), reply := none } := by
  unfold Console.choose
  rcases hc : c.notices with _ | ⟨n, rest⟩
  · simp only [h]
  · have hl : c.lastWasReply = false := hn.resolve_right (by simp [hc])
    simp only [h, hl, Bool.false_eq_true, if_false]

theorem Console.choose_notice {c : Console} {n : Notice} {rest : List Notice} (hc : c.notices = n :: rest)
    (h : c.formed = none ∨ c.lastWasReply = true) :
    c.choose = { c with sending := some (noticeFrame n), notices := rest } := by
  unfold Console.choose
  cases hf : c.formed with
  | none => simp only [hc]
  | some r =>
    have hl : c.lastWasReply = true := h.resolve_left (by simp [hf])
    simp only [hc, hl, if_true]

theorem Console.choose_none {c : Console} (hc : c.notices = []) (h : c.formed = none) : c.choose = c := by
  simp only [Console.choose, hc, h]

/-- Settles O21: what `Console.choose` does with the console whose frame has been sent. -/
theorem transmitterSendsByTurns : Obligations.TransmitterSendsByTurns := by
  intro s hp hd
  dsimp only
  refine ⟨fun r hr hw hn => ?_, fun n rest hn hr => ?_, fun hn hr => ?_⟩
  · rw [exec_transmitterFree hp hd, s.console.sent_eq, Console.choose_reply (r := r)]
    · rfl
    · exact Console.formed_some hr hw
    · exact hn
  · rw [exec_transmitterFree hp hd, s.console.sent_eq, Console.choose_notice (n := n) (rest := rest)]
    · rfl
    · exact hn
    · rcases hr with hl | hr
      · exact .inr hl
      · exact .inl (Console.formed_none hr)
  · rw [exec_transmitterFree hp hd, s.console.sent_eq, Console.choose_none]
    · rfl
    · exact hn
    · exact Console.formed_none hr

end Sys2Proof.Machine
end

section
/-! OCTETS ON THE CONSOLE LINK (R175, R176): noise is passed over, a whole frame is read, and a frame cut off, out of
length or failing its check leaves nothing. -/

namespace Sys2Proof.Machine

/-! ### Hunting -/

theorem hunt_noise (noise os : List Octet) (hn : ∀ o ∈ noise, o ≠ 0xA5#8) (fuel : Nat) :
    hunt (noise.length + fuel) (noise ++ os) = hunt fuel os := by
  induction noise with
  | nil => simp
  | cons o rest ih =>
    have ho : o ≠ 0xA5#8 := hn o (by simp)
    have hr : ∀ x ∈ rest, x ≠ 0xA5#8 := fun x hx => hn x (by simp [hx])
    rw [List.length_cons, List.cons_append, Nat.add_right_comm, hunt, if_neg ho, ih hr]

/-- With no start octet nothing is found and nothing is kept. -/
theorem hunt_of_no_start (os : List Octet) (hn : ∀ o ∈ os, o ≠ 0xA5#8) (fuel : Nat) (hf : os.length ≤ fuel) :
    hunt fuel os = ([], []) := by
  obtain ⟨more, rfl⟩ := Nat.exists_eq_add_of_le hf
  have h := hunt_noise os [] hn more
  rw [List.append_nil] at h
  rw [h]
  cases more <;> rfl

theorem hunt_short {os : List Octet} (h : readFrame os = .short) (fuel : Nat) :
    hunt (fuel + 1) (0xA5#8 :: os) = ([], 0xA5#8 :: os) := by
  simp [hunt, h]

theorem hunt_bad {os : List Octet} (h : readFrame os = .bad) (fuel : Nat) :
    hunt (fuel + 1) (0xA5#8 :: os) = hunt fuel os := by
  simp [hunt, h]

theorem hunt_frame {os rest : List Octet} {f : ConsoleFrame} (h : readFrame os = .frame f rest) (fuel : Nat) :
    hunt (fuel + 1) (0xA5#8 :: os) = (f :: (hunt fuel rest).1, (hunt fuel rest).2) := by
  simp [hunt, h]

/-! ### Reading one frame -/

theorem length_checkOctets (os : List Octet) : (checkOctets os).length = 2 := rfl

/-- The length octet of a frame of up to 248 payload octets. -/
theorem toNat_lengthOctet {payload : List Octet} (h : payload.length ≤ 248) :
    (BitVec.ofNat 8 (payload.length + 2) : Octet).toNat = payload.length + 2 := by
  rw [BitVec.toNat_ofNat]
  omega

/-- Octets whose length octet is in range and that are all there are read by their check. -/
theorem readFrame_whole (len : Octet) (tag kind : Octet) (payload check rest : List Octet)
    (hp : payload.length ≤ 248) (hl : len = BitVec.ofNat 8 (payload.length + 2)) (hc : check.length = 2) :
    readFrame (len :: tag :: kind :: payload ++ check ++ rest) =
      if checkOctets (len :: tag :: kind :: payload) = check then .frame ⟨tag, kind, payload⟩ rest else .bad := by
  have hn : len.toNat = (tag :: kind :: payload).length := by rw [hl, toNat_lengthOctet hp]; rfl
  have hlen : (tag :: kind :: payload).length = payload.length + 2 := rfl
  have hin : ¬(len.toNat < 2 ∨ 250 < len.toNat) := by omega
  have hall : ¬(tag :: kind :: payload ++ (check ++ rest)).length < len.toNat + 2 := by
    simp only [List.length_append]
    omega
  have htake : (tag :: kind :: payload ++ (check ++ rest)).take len.toNat = tag :: kind :: payload := by
    rw [hn, List.take_left]
  have hdrop : (tag :: kind :: payload ++ (check ++ rest)).drop len.toNat = check ++ rest := by
    rw [hn, List.drop_left]
  have hcheck : (check ++ rest).take 2 = check := by rw [← hc, List.take_left]
  have hrest : (tag :: kind :: payload ++ (check ++ rest)).drop (len.toNat + 2) = rest := by
    rw [← List.drop_drop, hdrop, ← hc, List.drop_left]
  rw [List.append_assoc, List.cons_append, readFrame, if_neg hin, if_neg hall]
  simp only [htake, hdrop, hcheck, hrest]

theorem readFrame_short {len : Octet} {os : List Octet} (hin : ¬(len.toNat < 2 ∨ 250 < len.toNat))
    (h : os.length < len.toNat + 2) : readFrame (len :: os) = .short := by
  rw [readFrame, if_neg hin, if_pos h]

theorem readFrame_out_of_range {len : Octet} (h : len.toNat < 2 ∨ 250 < len.toNat) (os : List Octet) :
    readFrame (len :: os) = .bad := by
  rw [readFrame, if_pos h]

/-! ### Octets arriving -/

theorem feed_frame (tag kind : Octet) (payload noise : List Octet) (hp : payload.length ≤ 248)
    (hn : ∀ o ∈ noise, o ≠ 0xA5#8) :
    feed [] (noise ++ frameOctets tag kind payload) = ([⟨tag, kind, payload⟩], []) := by
  have hr := readFrame_whole _ tag kind payload
    (checkOctets (BitVec.ofNat 8 (payload.length + 2) :: tag :: kind :: payload)) [] hp rfl (length_checkOctets _)
  rw [if_pos rfl, List.append_nil] at hr
  rw [feed, List.nil_append, List.length_append, hunt_noise _ _ hn, frameOctets]
  simp only [List.cons_append, List.length_cons]
  simp only [List.cons_append] at hr
  rw [hunt_frame hr]
  simp [hunt]

/-- Settles O18: the frame is found behind the noise and joins the order. -/
theorem wholeFramesJoinTheOrder : Obligations.WholeFramesJoinTheOrder := by
  intro tag kind payload noise s hp hl hf hn
  have hfeed := feed_frame tag kind payload noise hl hn
  rw [exec_event rfl]
  have hr : s.receive (noise ++ frameOctets tag kind payload) =
      { s with console := { s.console with
          order := if s.console.order.length < 8 then s.console.order ++ [⟨tag, kind, payload⟩]
            else s.console.order } } := by
    simp only [State.receive, hf, hfeed, State.setConsole, List.foldl_cons, List.foldl_nil]
    rfl
  rw [s.event_plain _ hp (by rw [hr]; rfl), hr]

/-- The octets of a frame cut off before its end. -/
theorem feed_beginning {tag kind : Octet} {payload first rest : List Octet} (hp : payload.length ≤ 248)
    (h : first ++ rest = frameOctets tag kind payload) (hr : rest ≠ []) : feed [] first = ([], first) := by
  rw [feed, List.nil_append]
  rw [frameOctets] at h
  have hlen := congrArg List.length h
  have hpos := List.length_pos_of_ne_nil hr
  simp only [List.length_append, List.length_cons, length_checkOctets] at hlen
  match first with
  | [] => rfl
  | [o] =>
    obtain rfl : o = 0xA5#8 := by simp at h; exact h.1
    rfl
  | o :: len :: os =>
    simp only [List.cons_append, List.cons.injEq] at h
    obtain ⟨rfl, rfl, -⟩ := h
    have hlo := toNat_lengthOctet hp
    simp only [List.length_cons] at hlen
    exact hunt_short (readFrame_short (by omega) (by omega)) _

theorem State.receive_nothing {s : State} {os : List Octet} (hf : s.console.fragment = [])
    (h : feed [] os = ([], [])) : s.receive os = s := by
  have hc : ∀ c : Console, c.fragment = [] → { c with fragment := [], order := c.order } = c := by
    intro c hc
    cases c
    simp_all
  simp only [State.receive, hf, h, List.foldl_nil, State.setConsole, hc s.console hf]

/-- Settles O19: the beginning cut off by the gap is dropped, and the other two leave no start octet to hunt from. -/
theorem brokenFramesLeaveNothing : Obligations.BrokenFramesLeaveNothing := by
  refine ⟨fun tag kind payload first rest s hp hl hf h hr => ?_, fun len s hp hf hlen => ?_,
    fun tag kind x y payload body s hp hf hl hb hc hn => ?_⟩
  · have hd : (s.receive first).dropFragment = s := by
      have hc : ∀ c : Console, c.fragment = [] → { c with fragment := [], order := c.order } = c := by
        intro c hc
        cases c
        simp_all
      simp only [State.receive, hf, feed_beginning hl h hr, State.dropFragment, State.setConsole, List.foldl_nil,
        hc s.console hf]
    rw [exec_event rfl, s.event_plain _ hp (by rw [hd]), hd]
  · have hfeed : feed [] [0xA5#8, len] = ([], []) := by
      have hlen' : len ≠ 0xA5#8 := by
        rintro rfl
        simp at hlen
      rw [feed, List.nil_append, List.length_cons, hunt_bad (readFrame_out_of_range hlen _)]
      exact hunt_of_no_start [len] (by simpa using hlen') 1 le_rfl
    have hd := s.receive_nothing hf hfeed
    rw [exec_event rfl, s.event_plain _ hp (by rw [hd]), hd]
  · have hfeed : feed [] (0xA5#8 :: body ++ [x, y]) = ([], []) := by
      have hread := readFrame_whole _ tag kind payload [x, y] [] hl rfl rfl
      rw [← hb, if_neg (Ne.symm hc), List.append_nil] at hread
      rw [feed, List.nil_append, List.cons_append, List.length_cons, hunt_bad hread]
      exact hunt_of_no_start _ hn _ le_rfl
    have hd := s.receive_nothing hf hfeed
    rw [exec_event rfl, s.event_plain _ hp (by rw [hd]), hd]

end Sys2Proof.Machine
end

section
/-! THE RETAINED STORE AND START-UP (R94 to R98): the images and updates of the store, the whole state a start-up
leaves, and the two start-ups: power-on and RESTART. -/

namespace Sys2Proof.Machine

/-! ### Notices stand apart -/

/-- The state with other notices waiting. -/
def State.withNotices (s : State) (ns : List Notice) : State :=
  { s with console := { s.console with notices := ns } }

@[simp] theorem State.withNotices_self (s : State) : s.withNotices s.console.notices = s := rfl

@[simp] theorem State.withNotices_withNotices (s : State) (ns ms : List Notice) :
    (s.withNotices ns).withNotices ms = s.withNotices ms := rfl

theorem State.notify_withNotices (s : State) (k : NoticeKind) (o : Nat) (p : List Field) :
    s.notify k o p = s.withNotices (if noticeEnabled s.console.mask k then
      placeNotice ⟨k, o, p⟩ s.console.notices else s.console.notices) := by
  unfold State.notify
  split <;> rfl

theorem mem_placeNotice {n m : Notice} {ns : List Notice} (h : m ∈ placeNotice n ns) : m = n ∨ m ∈ ns := by
  induction ns with
  | nil => simpa [placeNotice] using h
  | cons x rest ih =>
    unfold placeNotice at h
    split at h
    · simp only [List.mem_cons] at h ⊢
      tauto
    · simp only [List.mem_cons] at h ⊢
      tauto

/-- A notice of a kind none of which waits joins last. -/
theorem placeNotice_eq_append {n : Notice} {ns : List Notice} (h : ∀ m ∈ ns, m.kind ≠ n.kind) :
    placeNotice n ns = ns ++ [n] := by
  induction ns with
  | nil => rfl
  | cons x rest ih =>
    have hx : ¬(x.kind = n.kind ∧ x.object = n.object) := fun hx => h x (by simp) hx.1
    rw [placeNotice, if_neg hx, ih fun m hm => h m (by simp [hm])]
    rfl

/-- No notice of a kind waits. -/
def State.noNotice (k : NoticeKind) (s : State) : Prop := ∀ n ∈ s.console.notices, n.kind ≠ k

theorem State.noNotice_notify {k : NoticeKind} {s : State} (h : s.noNotice k) {j : NoticeKind} (hj : j ≠ k) (o : Nat)
    (p : List Field) : (s.notify j o p).noNotice k := by
  intro n hn
  rw [State.notify_withNotices] at hn
  simp only [State.withNotices] at hn
  split at hn
  · rcases mem_placeNotice hn with rfl | hn
    · exact hj
    · exact h n hn
  · exact h n hn

/-! ### Indications (R105, R168) -/

theorem State.evaluateQueue_same {s : State} {d : Direction}
    (h : decide (s.nearFullThreshold ≤ s.charge d) = s.nearFullOf d) : s.evaluateQueue d = s := by
  simp only [State.evaluateQueue, h, if_true]

theorem State.evaluateHold_same {s : State} (h : decide (s.freeSlots = 0) = s.receipts.hold) :
    s.evaluateHold = s := by
  simp only [State.evaluateHold, h, if_true]

theorem State.evaluateReceipts_same {s : State}
    (h : decide (s.receiptThreshold ≤ s.receipts.queue.length) = s.receipts.nearFull) : s.evaluateReceipts = s := by
  simp only [State.evaluateReceipts, h, if_true]

theorem State.evaluateQueue_spec (s : State) (d : Direction) :
    ∃ ns, s.evaluateQueue d =
      (s.setNearFull d (decide (s.nearFullThreshold ≤ s.charge d))).withNotices ns := by
  unfold State.evaluateQueue
  dsimp only
  split
  · rename_i h
    refine ⟨s.console.notices, ?_⟩
    rw [h]
    cases d <;> rfl
  · exact ⟨_, State.notify_withNotices _ _ _ _⟩

theorem State.evaluateHold_spec (s : State) :
    ∃ ns, s.evaluateHold =
      State.withNotices { s with receipts := { s.receipts with hold := decide (s.freeSlots = 0) } } ns := by
  unfold State.evaluateHold
  dsimp only
  split
  · rename_i h
    refine ⟨s.console.notices, ?_⟩
    rw [h]
    rfl
  · exact ⟨_, State.notify_withNotices _ _ _ _⟩

theorem State.evaluateReceipts_spec (s : State) :
    ∃ ns, s.evaluateReceipts =
      State.withNotices { s with receipts := receiptsEvaluated s.receipts s.now } ns := by
  unfold State.evaluateReceipts
  dsimp only
  split
  · rename_i h
    refine ⟨s.console.notices, ?_⟩
    have hr : receiptsEvaluated s.receipts s.now = s.receipts := by
      have h' : decide (64 - s.receipts.margin ≤ s.receipts.queue.length) = s.receipts.nearFull := h
      simp only [receiptsEvaluated, h', if_true]
    rw [hr]
    rfl
  · rename_i h
    have h' : ¬decide (64 - s.receipts.margin ≤ s.receipts.queue.length) = s.receipts.nearFull := h
    simp only [receiptsEvaluated, if_neg h']
    exact ⟨_, State.notify_withNotices _ _ _ _⟩

theorem State.noNotice_evaluateQueue {k : NoticeKind} {s : State} (h : s.noNotice k) (hk : k ≠ .queueNearFull)
    (d : Direction) : (s.evaluateQueue d).noNotice k := by
  unfold State.evaluateQueue
  dsimp only
  split
  · exact h
  · refine State.noNotice_notify ?_ hk.symm _ _
    cases d <;> exact h

theorem State.noNotice_evaluateHold {k : NoticeKind} {s : State} (h : s.noNotice k) (hk : k ≠ .receiptHold) :
    s.evaluateHold.noNotice k := by
  unfold State.evaluateHold
  dsimp only
  split
  · exact h
  · refine State.noNotice_notify ?_ hk.symm _ _
    exact h

theorem State.noNotice_evaluateReceipts {k : NoticeKind} {s : State} (h : s.noNotice k) (hk : k ≠ .receiptsNearFull) :
    s.evaluateReceipts.noNotice k := by
  unfold State.evaluateReceipts
  dsimp only
  split
  · exact h
  · rw [State.noticeReceipts]
    refine State.noNotice_notify ?_ hk.symm _ _
    exact h

/-- HALT ENTERED joins last when none waits. -/
theorem State.noticeHalt_last {s : State} (h : s.noNotice .haltEntered)
    (hm : noticeEnabled s.console.mask .haltEntered = true) :
    s.noticeHalt.console.notices.getLast?.map (·.kind) = some .haltEntered := by
  rw [State.noticeHalt, State.notify_withNotices, if_pos hm, placeNotice_eq_append (by exact h)]
  simp [State.withNotices]

/-! ### Start-up -/

/-- A fold that raises notices only changes the notices. -/
theorem State.foldl_withNotices {α : Type} (f : State → α → State) (h : ∀ s a, ∃ ns, f s a = s.withNotices ns)
    (xs : List α) : ∀ s : State, ∃ ns, xs.foldl f s = s.withNotices ns := by
  induction xs with
  | nil => exact fun s => ⟨s.console.notices, rfl⟩
  | cons x xs ih =>
    intro s
    obtain ⟨ns, hn⟩ := h s x
    obtain ⟨ms, hm⟩ := ih (f s x)
    refine ⟨ms, ?_⟩
    rw [List.foldl_cons, hm, hn, State.withNotices_withNotices]

theorem State.startUpBatches_spec (s : State) :
    ∃ ns, s.startUpBatches = (s.setBatches (s.traffic.batches.map Batch.startUp)).withNotices ns := by
  refine State.foldl_withNotices _ (fun s b => ?_) _ _
  split
  · exact ⟨s.console.notices, rfl⟩
  · exact ⟨_, State.notify_withNotices _ _ _ _⟩

theorem State.noNotice_startUpBatches {s : State} (h : s.noNotice .haltEntered) :
    s.startUpBatches.noNotice .haltEntered := by
  have hf : ∀ (bs : List Batch) (t : State), t.noNotice .haltEntered →
      (bs.foldl (fun s b => if b.reasons.contains .restart then s
        else s.noticeSuspended b.startUp b.startUp.reasons) t).noNotice .haltEntered := by
    intro bs
    induction bs with
    | nil => exact fun _ ht => ht
    | cons b rest ih =>
      intro t ht
      rw [List.foldl_cons]
      refine ih _ ?_
      split
      · exact ht
      · exact State.noNotice_notify ht (by decide) _ _
  exact hf _ _ h

/-- The traffic of a start-up: the retained batches suspended and the near-full indications as evaluated. -/
def Traffic.started (t : Traffic) (nearUp nearDown : Bool) : Traffic :=
  { t with batches := t.batches.map Batch.startUp, nearUp := nearUp, nearDown := nearDown }

/-- The state right after a start-up: `State.fresh` with its batches suspended, its indications evaluated and its
one update. -/
def State.started (u : State) (r : Retained) (ns : List Notice) : State :=
  let t := u.setTraffic (u.traffic.started (decide (24 - u.traffic.margin ≤
      (u.setBatches (u.traffic.batches.map Batch.startUp)).charge .up))
    (decide (24 - u.traffic.margin ≤ (u.setBatches (u.traffic.batches.map Batch.startUp)).charge .down)))
  (State.withNotices { t with
    receipts := receiptsEvaluated { t.receipts with hold := decide (t.freeSlots = 0) } t.now } ns).commit r

theorem State.startUp_eq (r : Retained) (clock now : Nat) (store : Store) (stretch : Option Bool)
    (start : StartRecord) (pending : List Instr) :
    ∃ ns, State.startUp r clock now store stretch start pending =
        (State.fresh r clock now store stretch start pending).started r ns ∧
      (r.mask.safety = true → ns.getLast?.map (·.kind) = some .haltEntered) := by
  let u := State.fresh r clock now store stretch start pending
  obtain ⟨n₁, h₁⟩ := u.startUpBatches_spec
  obtain ⟨n₂, h₂⟩ := u.startUpBatches.evaluateQueue_spec .up
  obtain ⟨n₃, h₃⟩ := (u.startUpBatches.evaluateQueue .up).evaluateQueue_spec .down
  obtain ⟨n₄, h₄⟩ := ((u.startUpBatches.evaluateQueue .up).evaluateQueue .down).evaluateHold_spec
  obtain ⟨n₅, h₅⟩ := u.startUpBatches.indications.evaluateReceipts_spec
  have hno : u.startUpBatches.indications.evaluateReceipts.noNotice .haltEntered := by
    have hu : u.noNotice .haltEntered := fun n hn => absurd hn (List.not_mem_nil)
    exact State.noNotice_evaluateReceipts (State.noNotice_evaluateHold (State.noNotice_evaluateQueue
      (State.noNotice_evaluateQueue (State.noNotice_startUpBatches hu) (by decide) _) (by decide) _) (by decide))
      (by decide)
  have heq : u.startUpBatches.indications.evaluateReceipts = State.withNotices
      { u.setTraffic (u.traffic.started (decide (24 - u.traffic.margin ≤
          (u.setBatches (u.traffic.batches.map Batch.startUp)).charge .up))
        (decide (24 - u.traffic.margin ≤ (u.setBatches (u.traffic.batches.map Batch.startUp)).charge .down))) with
        receipts := receiptsEvaluated { u.receipts with
          hold := decide ((u.setBatches (u.traffic.batches.map Batch.startUp)).freeSlots = 0) } u.now } n₅ := by
    rw [h₅, State.indications, h₄, h₃, h₂, h₁]
    rfl
  refine ⟨u.startUpBatches.indications.evaluateReceipts.noticeHalt.console.notices, ?_, fun hm => ?_⟩
  · have hstart : State.startUp r clock now store stretch start pending =
        u.startUpBatches.indications.evaluateReceipts.noticeHalt.commit r := rfl
    rw [hstart, State.noticeHalt, State.notify_withNotices, heq]
    rfl
  · have hmask : u.startUpBatches.indications.evaluateReceipts.console.mask = r.mask := by
      rw [heq]
      rfl
    refine State.noticeHalt_last hno ?_
    rw [hmask]
    exact hm

/-! ### What a start-up leaves -/

section

variable {r : Retained} {clock now : Nat} {store : Store} {stretch : Option Bool} {start : StartRecord}
  {pending : List Instr} {t : State}

/-- The fields of `State.started` that a statement about a start-up names. -/
theorem State.startUp_fields (h : State.startUp r clock now store stretch start pending = t) :
    t.powered = true ∧ t.now = now ∧ t.pending = pending ∧ t.toll.clock = clock ∧
      t.halt = { state := .halted, causes := [.startUp], entry := .startUp, awaited := Quad.const none
                 startUp := start } ∧
      t.line = { rate := .slow, stations := Quad.const { state := .unsynced, failed := 0, queue := [] }
                 slot := none, alarm := false, poll := none, pulse := true, stretch := stretch } ∧
      { t.retainedOf with batches := [] } = { r with batches := [] } ∧
      t.traffic.batches = r.batches.map Batch.startUp ∧ t.store.inUse = store.inUse ∧
      t.store.imageA = store.imageA ∧ t.store.imageB = store.imageB := by
  obtain ⟨ns, hs, -⟩ := State.startUp_eq r clock now store stretch start pending
  subst h
  rw [hs, State.started, State.commit_eq]
  exact ⟨rfl, rfl, rfl, rfl, rfl, rfl, rfl, rfl, rfl, rfl, rfl⟩

theorem Ten.get_const {α : Type} (i : Item) (a : α) : (Ten.const a).get i = a := by
  rcases i with k | k | w
  · exact Quad.get_const _ _
  · exact Quad.get_const _ _
  · cases w <;> rfl

theorem freshFaces_get (f : Face) :
    freshFaces.get f =
      { commanded := if f = ⟨.k0, .upper⟩ ∨ f = ⟨.k3, .lower⟩ then .closed else .stop
        reported := none, stopSince := none, lamp := none, request := none, stopWait := none } := by
  obtain ⟨k, x⟩ := f
  cases k <;> cases x <;> rfl

/-- R97: a start-up leaves every block at its start-up values. -/
theorem State.startUp_startedAfresh (h : State.startUp r clock now store stretch start pending = t) :
    t.startedAfresh := by
  obtain ⟨ns, hs, hn⟩ := State.startUp_eq r clock now store stretch start pending
  subst h
  rw [hs, State.started, State.commit_eq]
  refine ⟨rfl, fun c => ?_, rfl, rfl, rfl, rfl, fun k => Quad.get_const k 0, rfl, rfl, fun i => Ten.get_const i _,
    fun k => ⟨Quad.get_const k _, Quad.get_const k _, fun i => ?_⟩, fun c => Trio.get_const c none, rfl, rfl,
    freshFaces_get, rfl, rfl, rfl, rfl, ?_, rfl, rfl, rfl, rfl, rfl, rfl, hn⟩
  · cases c <;> rfl
  · cases k <;> cases i <;> exact ⟨rfl, rfl⟩
  · simp only [State.withNotices, receiptsEvaluated]
    by_cases hq : 64 - r.receiptMargin ≤ r.receipts.length <;>
      simp [State.fresh, State.setTraffic, hq]

end

/-! ### RESTART (R98) -/

/-- The updates in progress complete before a restart; the images they leave are not looked at here. -/
theorem State.restartNow_eq (s : State) :
    s.restartNow = State.startUp s.retainedOf s.toll.clock s.now s.store.flush (s.line.stretch.map fun _ => false)
      { kind := .restart, outcome := .notTested, generation := s.store.flush.generation } s.pending := rfl

theorem exec_transmitterFree_restart {s : State} {f : Sending} (hp : s.powered = true)
    (hs : s.console.sending = some f) (hf : f.isRestart = true) :
    exec .transmitterFree s = .next s.restartNow := by
  have hx : exec .transmitterFree s = .next (if s.powered then s.freeTransmitter else s) := rfl
  have hd : s.restartDue = true := by simp [State.restartDue, hs, hf]
  rw [hx, if_pos hp, State.freeTransmitter, if_pos hd]

/-- Starting up a batch looks at what is retained of it only. -/
theorem Batch.startUp_retained (b : Batch) : b.retained.startUp = b.startUp := rfl

/-- Settles O22: RESTART's own reply, and the start-up from the retained state as it stands. -/
theorem restartStartsAfresh : Obligations.RestartStartsAfresh := by
  refine ⟨fun tag s ht => ?_, fun f s hp hs hf => ?_⟩
  · have hx : exec (.restart tag) s = .next (s.answerRequest tag 0x1A#8 true (accept [])) :=
      exec_request_taken rfl ht
    have hc : s.popRequest.commit s.popRequest.retainedOf = s.popRequest := by
      rw [State.commit_eq, if_pos rfl]
    simp only [hx, State.answerRequest, accept, hc, replyOf, replyWaits, if_true]
    rfl
  · refine ⟨_, exec_transmitterFree_restart hp hs hf, ?_⟩
    have hfields := State.startUp_fields s.restartNow_eq.symm
    have hfresh := State.startUp_startedAfresh s.restartNow_eq.symm
    obtain ⟨-, hnow, hpend, hclock, hhalt, hline, hret, hbatches, -⟩ := hfields
    have hbs : s.restartNow.traffic.batches = s.traffic.batches.map Batch.startUp := by
      rw [hbatches]
      exact List.map_map
    obtain ⟨-, -, -, -, -, -, -, -, -, -, -, -, -, -, -, horder, -, -, -, -, -, -, hord, hreply, hsend, -⟩ := hfresh
    exact ⟨by rw [hhalt], by rw [hhalt], by rw [hhalt], by rw [hhalt], hreply, hsend, hord, by rw [hline],
      fun k => by rw [State.station, hline]; exact Quad.get_const k _,
      State.startUp_startedAfresh s.restartNow_eq.symm, hclock, hnow, hpend, hret, hbs, horder⟩

/-! ### Power-on (R95) -/

theorem Store.powerLost_images_none {t : Store} (ha : t.imageA = none) (hb : t.imageB = none) :
    t.powerLost.imageA = none ∧ t.powerLost.imageB = none := by
  unfold Store.powerLost
  split
  · exact ⟨ha, hb⟩
  · cases t.inUse <;> simp [Store.setImage, otherImage, ha, hb]

theorem Store.choose_none {t : Store} (ha : t.imageA = none) (hb : t.imageB = none) :
    t.choose = (none, .noneValid) := by
  simp [Store.choose, ha, hb]

theorem State.powerUp_unpowered {s : State} (hp : s.powered = false) {n : ImageName} {i : Image}
    {o : StartOutcome} (hc : s.store.choose = (some n, o)) (hi : s.store.image n = some i) :
    s.powerUp = State.startUp i.contents s.toll.clock s.now { s.store with inUse := n }
      (s.line.stretch.map fun _ => false) { kind := .powerOn, outcome := o, generation := i.generation }
      s.pending := by
  simp [State.powerUp, hp, hc, hi]

/-- With neither image valid the part starts up from the defaults. -/
theorem State.powerUp_blank {s : State} (ha : s.store.imageA = none) (hb : s.store.imageB = none) :
    s.powerUp = State.startUp Retained.defaults 0 s.now Store.blank (s.line.stretch.map fun _ => false)
      { kind := .powerOn, outcome := .noneValid, generation := 0 } s.pending := by
  have hlost := Store.choose_none (Store.powerLost_images_none ha hb).1 (Store.powerLost_images_none ha hb).2
  have hkept := Store.choose_none ha hb
  cases hp : s.powered <;> simp [State.powerUp, State.losePower, hp, hlost, hkept]

/-- The start-up from the defaults is the reset state. -/
theorem State.startUp_defaults (now : Nat) (stretch : Option Bool) (pending : List Instr) :
    State.startUp Retained.defaults 0 now Store.blank stretch
        { kind := .powerOn, outcome := .noneValid, generation := 0 } pending =
      { State.reset with
        now := now, pending := pending, line := { State.reset.line with stretch := stretch } } := by
  let start : StartRecord := { kind := .powerOn, outcome := .noneValid, generation := 0 }
  let u := State.fresh Retained.defaults 0 now Store.blank stretch start pending
  have hqueue : ∀ d, u.evaluateQueue d = u := fun d =>
    State.evaluateQueue_same (by cases d <;> rfl)
  have hhold : u.evaluateHold = u := State.evaluateHold_same rfl
  have hreceipts : u.evaluateReceipts = u := State.evaluateReceipts_same rfl
  have hstart : State.startUp Retained.defaults 0 now Store.blank stretch start pending =
      u.indications.evaluateReceipts.noticeHalt.commit Retained.defaults := rfl
  have hcommit : u.noticeHalt.commit Retained.defaults = u.noticeHalt := if_pos rfl
  rw [hstart, State.indications, hqueue, hqueue, hhold, hreceipts, hcommit]
  rfl

/-- R95: the image chosen, with its outcome. -/
theorem Store.choose_of {t : Store} {n : ImageName} {i : Image} {o : StartOutcome}
    (h : (∃ a b, t.imageA = some a ∧ t.imageB = some b ∧ o = .bothValid ∧
        ((b.generation = (if 65535 ≤ a.generation then 0 else a.generation + 1) ∧ n = .b ∧ i = b) ∨
          (b.generation ≠ (if 65535 ≤ a.generation then 0 else a.generation + 1) ∧ n = .a ∧ i = a))) ∨
      (t.imageA = some i ∧ t.imageB = none ∧ n = .a ∧ o = .oneValid) ∨
      (t.imageA = none ∧ t.imageB = some i ∧ n = .b ∧ o = .oneValid)) :
    t.choose = (some n, o) ∧ t.image n = some i := by
  rcases h with ⟨a, b, ha, hb, rfl, ⟨hg, rfl, rfl⟩ | ⟨hg, rfl, rfl⟩⟩ | ⟨ha, hb, rfl, rfl⟩ | ⟨ha, hb, rfl, rfl⟩
  · exact ⟨by simp [Store.choose, ha, hb, nextGeneration, hg], hb⟩
  · exact ⟨by simp [Store.choose, ha, hb, nextGeneration, hg], ha⟩
  · exact ⟨by simp [Store.choose, ha, hb], ha⟩
  · exact ⟨by simp [Store.choose, ha, hb], hb⟩

/-- Settles O41: the image `Store.choose` finds, and the start-up from its contents. -/
theorem powerOnTakesTheNewestImage : Obligations.PowerOnTakesTheNewestImage := by
  refine ⟨fun s ha hb => ?_, fun s n i o hp h => ?_⟩
  · exact congrArg _ ((State.powerUp_blank ha hb).trans (State.startUp_defaults _ _ _))
  · obtain ⟨hc, hi⟩ := Store.choose_of h
    have heq := (State.powerUp_unpowered hp hc hi).symm
    obtain ⟨hpow, -, -, hclock, hhalt, -, hret, hbs, huse, hA, hB⟩ := State.startUp_fields heq
    have hfresh := State.startUp_startedAfresh heq
    obtain ⟨-, -, -, -, -, -, -, -, -, -, -, -, -, -, -, -, -, -, -, -, -, -, hord, hreply, -⟩ := hfresh
    exact ⟨_, rfl, hpow, huse, hA, hB, hhalt, hret, hbs, hclock, hord, hreply,
      State.startUp_startedAfresh heq⟩

/-! ### Updates (R94) and the clock -/

theorem Store.powerLost_of_updates {t : Store} (h : t.updates ≠ []) :
    t.powerLost = { t.setImage (otherImage t.inUse) none with updates := [] } := by
  unfold Store.powerLost
  split
  · contradiction
  · rfl

theorem Store.complete_cons {t : Store} {u : Retained} {rest : List Retained} (h : t.updates = u :: rest) :
    t.complete = { (t.setImage (otherImage t.inUse)
      (some { contents := u, generation := nextGeneration t.generation })) with
        inUse := otherImage t.inUse, updates := rest } := by
  simp [Store.complete, h]

theorem State.completeUpdate_cons {s : State} {u : Retained} {rest : List Retained} (h : s.store.updates = u :: rest) :
    s.completeUpdate = { s with
      store := s.store.complete
      console := { s.console with reply := s.console.reply.map fun r => { r with waits := r.waits - 1 } } } := by
  simp [State.completeUpdate, h]

theorem exec_powerFail {s : State} (hp : s.powered = true) : exec .powerFail s = .next s.losePower := by
  have hx : exec .powerFail s = .next (if s.powered then s.losePower else s) := rfl
  rw [hx, if_pos hp]

theorem exec_retainedUpdateComplete {s : State} (hp : s.powered = true) :
    exec .retainedUpdateComplete s = .next s.completeUpdate := by
  have hx : exec .retainedUpdateComplete s = .next (if s.powered then s.completeUpdate else s) := rfl
  rw [hx, if_pos hp]

/-- Settles O42: the store's own operations, by the image in use. -/
theorem updatesGoToTheOtherImage : Obligations.UpdatesGoToTheOtherImage := by
  refine ⟨fun s hp hu => ?_, fun s hp hu => ?_, fun s hp hu => ?_, fun s i u rest hp hu hi => ?_, fun s => rfl⟩
  · rw [exec_powerFail hp, State.losePower, Store.powerLost]
    simp only [hu]
  · rw [exec_powerFail hp, State.losePower, Store.powerLost_of_updates hu]
    cases hn : s.store.inUse <;> simp [Store.setImage, otherImage, hn]
  · rw [exec_retainedUpdateComplete hp, State.completeUpdate]
    simp only [hu]
  · have hg : s.store.generation = i.generation := by simp [Store.generation, hi]
    rw [exec_retainedUpdateComplete hp, State.completeUpdate_cons hu, Store.complete_cons hu, hg]
    cases hn : s.store.inUse <;> simp [Store.setImage, otherImage, nextGeneration]

/-! ### The invariants at reset -/

/-- Every copy of the retained state at reset is the defaults. -/
theorem State.everyCopy_reset {p : Retained → Prop} (h : p Retained.defaults) : State.reset.everyCopy p := by
  refine ⟨h, fun r hr => absurd hr List.not_mem_nil, fun i hi => ?_, fun i hi => nomatch hi⟩
  obtain rfl := Option.some.inj hi
  exact h

theorem reset_station (k : Station) : State.reset.station k = { state := .unsynced, failed := 0, queue := [] } :=
  Quad.get_const k _

theorem reset_face_not_proceed (f : Face) : (State.reset.face f).commanded ≠ .proceed := by
  have h : State.reset.face f = freshFaces.get f := rfl
  rw [h, freshFaces_get]
  dsimp only
  split <;> decide

theorem reset_still : State.reset.still := by
  refine fun _ => ⟨fun i => congrArg ItemRec.movement (Ten.get_const i _), reset_face_not_proceed, fun k e he => ?_⟩
  rw [reset_station] at he
  exact absurd he List.not_mem_nil

theorem reset_haltFits : State.reset.haltFits :=
  ⟨fun h => absurd rfl h, fun _ => rfl, fun h => nomatch h⟩

theorem reset_station_fits (k : Station) : (State.reset.station k).fits := by
  rw [reset_station]
  exact ⟨by decide, ⟨(nomatch ·), (nomatch ·)⟩, (nomatch ·), (nomatch ·)⟩

theorem reset_faultTableFits : State.reset.faultTableFits :=
  ⟨by decide, List.nodup_nil, fun _ hr => absurd hr List.not_mem_nil, by decide, by decide, List.nodup_nil,
    fun _ _ _ => rfl⟩

theorem reset_levelsFit : State.reset.levelsFit := by
  have hnone : ∀ v : Nat, (none : Option Nat) = some v → v ≤ 20000 := fun _ h => nomatch h
  refine ⟨fun c => ?_, hnone, hnone, hnone, hnone, fun k => (Quad.get_const k 0).trans_le (by decide), by decide⟩
  cases c <;> exact ⟨hnone, hnone, hnone, by decide, by decide⟩

theorem defaults_no_passage {p : Passage}
    (hp : p ∈ Retained.defaults.up ++ Retained.defaults.down ++ Retained.defaults.batches.flatMap (·.members)) :
    False := List.not_mem_nil hp

theorem defaults_chambersFit : Retained.defaults.chambersFit := by
  intro c
  have hnone : Retained.defaults.chambers.get c = { config := none, trust := .both, lastKnown := none } :=
    Trio.get_const c _
  rw [RetainedChamber.fits, hnone]
  exact ⟨fun _ h => (nomatch h), fun _ h => (nomatch h)⟩

theorem defaults_passagesFit : Retained.defaults.passagesFit :=
  ⟨List.nodup_nil, fun _ hp => absurd hp List.not_mem_nil, fun _ hp => absurd hp List.not_mem_nil,
    fun _ hp => absurd hp List.not_mem_nil, fun _ hb => absurd hb List.not_mem_nil, by decide, by decide⟩

/-- Settles O13: the reset state is a value, and each invariant a condition on it that its empty tables and zero
counters meet. -/
theorem resetMeetsEveryInvariant : Obligations.ResetMeetsEveryInvariant := by
  refine ⟨reset_still, reset_haltFits, reset_station_fits, fun k => ?_, reset_faultTableFits, fun _ ho => ?_,
    fun _ ho => ?_, fun f hf => absurd hf (reset_face_not_proceed f), List.Pairwise.nil, reset_levelsFit,
    ⟨by decide, State.everyCopy_reset (by decide)⟩, by decide, State.everyCopy_reset ?_⟩
  · rw [reset_station]
    exact List.nodup_nil
  · exact nomatch ho
  · exact nomatch ho
  · exact ⟨Nat.zero_le _, ⟨rfl, fun _ hx => absurd hx List.not_mem_nil⟩,
      ⟨fun _ hp => (defaults_no_passage hp).elim, fun _ => rfl⟩,
      ⟨by decide, fun _ hb => absurd hb List.not_mem_nil, List.nodup_nil, fun _ hb => absurd hb List.not_mem_nil⟩,
      by simp only [Retained.settingsFit]; decide,
      ⟨List.Pairwise.nil, List.Pairwise.nil, fun _ hp => (defaults_no_passage hp).elim⟩, defaults_chambersFit,
      fun _ hb => absurd hb List.not_mem_nil, defaults_passagesFit⟩

end Sys2Proof.Machine
end

section
/-! EDITS: the plain updates out of which every hand-over within a step is made, each with what the model has tested
before it makes the update; and, for every operation of the blocks, that it is a sequence of edits. An invariant is
then proved once for each kind of edit. -/

namespace Sys2Proof.Machine

/-! ### The edits -/

/-- What is done to the queue of a station; `ok` is what holds of a command that is placed. -/
inductive QueueEdit (ok : Command → Prop) (q : List QueueEntry) : List QueueEntry → Prop
  | stop (i : Item) : QueueEdit ok q (placeStop i q)
  | place (c : Command) (h : ok c) : QueueEdit ok q (placeEntry c q)
  | reset : QueueEdit ok q (placeReset q)
  | fewer {q' : List QueueEntry} (h : q'.Sublist q) : QueueEdit ok q q'
  | marks {q' : List QueueEntry} (h : q'.map (·.command) = q.map (·.command)) : QueueEdit ok q q'

/-- What a hand-over keeps of a batch that stays in the table. -/
structure BatchEdit (b b' : Batch) : Prop where
  number : b'.number = b.number
  direction : b'.direction = b.direction
  members : b'.members = b.members
  edition : b'.edition = b.edition
  entered : b'.entered = b.entered
  rise : b.meter.rise ≤ 20000 → b'.meter.rise ≤ 20000
  claims : ∀ c ∈ b'.claims, c ∈ b.claims

/-- A command that moves an item is placed only while RUNNING or for a movement record that stands. -/
def State.allows (s : State) (c : Command) : Prop :=
  c.moves = true → s.halt.state = .running ∨ ∃ i, (s.item i).movement ≠ none

/-- The invariant of the Level Monitor's own state. -/
def State.levelOk (s : State) : Prop :=
  s.levelsFit ∧ s.retainedOf.chambersFit ∧ clampLevelSettings s.level.settings = s.level.settings

/-! ### A new record and an admission, as one update each -/

/-- The record a new fault gets. -/
def State.freshFault (s : State) (k : FaultKind) (src : FaultSource) (l : Bool) (c : Capture) : FaultRec :=
  { number := freeNumber 255 (s.mach.faults.map (·.number)) 17 s.mach.nextFault, kind := k, source := src,
    latched := l, releasing := none, repeats := 0, escalated := false, capture := c }

/-- A record joins the end of the table, and the next number is one past its own. -/
def State.withFault (s : State) (r : FaultRec) (ns : List Notice) : State :=
  ({ s with mach := { s.mach with
      faults := s.mach.faults ++ [r], nextFault := nextNumber 255 r.number } } : State).withNotices ns

theorem State.newFault_eq (s : State) (k : FaultKind) (src : FaultSource) (l : Bool) (c : Capture) :
    ∃ ns, s.newFault k src l c = s.withFault (s.freshFault k src l c) ns :=
  ⟨_, by rw [State.newFault, State.noticeRaised, State.notify_withNotices]; rfl⟩

/-- What stays of a queue when records of the given numbers are admitted from it. -/
def leftBehind (limit : Nat) (names : List Nat) (q : List Passage) : List Passage :=
  (skipAhead limit names q).filter fun p => !names.contains p.number

/-- The traffic with another queue in one direction. -/
def Traffic.withQueue (t : Traffic) (d : Direction) (q : List Passage) : Traffic :=
  { t with up := if d = .up then q else t.up, down := if d = .down then q else t.down }

theorem State.setQueueOf_eq (s : State) (d : Direction) (q : List Passage) :
    s.setQueueOf d q = s.setTraffic (s.traffic.withQueue d q) := by
  cases d <;> rfl

/-- The traffic after an admission under an edition. -/
def State.admittedTraffic (s : State) (d : Direction) (e : Edition) (ms : List Passage) : Traffic :=
  { s.traffic.withQueue d (leftBehind s.traffic.skipLimit (ms.map (·.number)) (s.queueOf d)) with
    batches := s.traffic.batches ++ [s.newBatch d e ms]
    nextBatch := nextNumber 255 (s.newBatch d e ms).number
    lastDirection := some d
    consecutive := if s.traffic.lastDirection = some d then min 255 (s.traffic.consecutive + 1) else 1 }

theorem admitHistory_eq (t : Traffic) (d : Direction) :
    admitHistory t d = { t with
      lastDirection := some d
      consecutive := if t.lastDirection = some d then min 255 (t.consecutive + 1) else 1 } := by
  unfold admitHistory
  by_cases h : t.lastDirection = some d
  · rw [if_pos h, if_pos h, ← h]
  · rw [if_neg h, if_neg h]

theorem State.admitBatch_none (s : State) (d : Direction) (ms : List Passage) (h : s.toll.current = none) :
    s.admitBatch d ms = s := by
  unfold State.admitBatch
  rw [h]

theorem State.admitBatch_some (s : State) {d : Direction} {ms : List Passage} {e : Edition}
    (h : s.toll.current = some e) :
    ∃ ns, s.admitBatch d ms = ({ s with traffic := s.admittedTraffic d e ms } : State).withNotices ns := by
  unfold State.admitBatch
  rw [h]
  dsimp only
  rw [State.noticeAdmitted, State.notify_withNotices, admitHistory_eq, State.setQueueOf_eq]
  exact ⟨_, rfl⟩

/-- The admissions the Traffic Scheduler makes (R115, R123), and the state in which each is made. -/
inductive Admits (s : State) : State → Direction → List Passage → Prop
  | automatic {d : Direction} {ms : List Passage} (h : s.automaticBatch = some (d, ms))
      (hm : s.traffic.mode = .automatic) : Admits s s d ms
  | order (o : KeeperOrder) (h : s.traffic.order = some o) (hf : s.orderFits o.passages = true)
      (ho : s.orderOpen o = true) : Admits s s.discardOrder o.direction (s.orderRecords o.passages)

/-- One plain update of the state by the hand-overs of a step. -/
inductive Edit (s : State) : State → Prop
  | notices (ns : List Notice) : Edit s (s.withNotices ns)
  | hand (h : HandOvers) : Edit s { s with hand := h }
  | position (i : Item) (p : Option Position) : Edit s (s.setItem i { s.item i with position := p })
  | dropMovement (i : Item) : Edit s (s.setMovement i none)
  | move (i : Item) (m : Movement) (h : s.halt.state = .running ∨ (s.item i).movement ≠ none) :
      Edit s (s.setMovement i (some m))
  | command (i : Item) (c : CmdState) : Edit s (s.setItem i { s.item i with command := c })
  | rest (l : Quad Bool) (i : Quad InputStates) (o : Quad OverloadBlank) (c : Trio (Option Nat)) (n : Nat) :
      Edit s { s with mach := { s.mach with
        inLocal := l, inputs := i, overload := o, changeover := c, nextSerial := n } }
  | queue (k : Station) {q : List QueueEntry} (h : QueueEdit s.allows (s.station k).queue q) : Edit s (s.setQueue k q)
  | station (k : Station) (st : StationState) (n : Nat)
      (h : (s.station k).fits → StationRec.fits { s.station k with state := st, failed := n }) :
      Edit s (s.setStation k { s.station k with state := st, failed := n })
  | line (l : Line) (h : l.stations = s.line.stations) : Edit s (s.setLine l)
  | face (f : Face) (r : FaceRec) (h : r.commanded = (s.face f).commanded) : Edit s (s.setFace f r)
  | commanded (f : Face) (a : Aspect)
      (h : a = .proceed → s.halt.state = .running ∧ (s.face (farFace f)).commanded ≠ .proceed) :
      Edit s (s.setFace f { s.face f with commanded := a })
  | fault (old new : FaultRec) (hn : new.number = old.number)
      (h : (s.mach.faults.map (·.number)).Nodup →
        ∃ x ∈ s.mach.faults, x.number = new.number ∧ x.kind = new.kind ∧ x.source = new.source) :
      Edit s (s.setFaults (s.mach.faults.map fun r => if r.number = old.number then new else r))
  | newFault (k : FaultKind) (src : FaultSource) (l : Bool) (c : Capture) (ns : List Notice)
      (hr : s.hasFaultRoom = true) (hf : s.faultOf k src = none) (hs : ∀ j, src ≠ .station j) :
      Edit s (s.withFault (s.freshFault k src l c) ns)
  | newInput (k : Station) (i : Input) (l : Bool) (c : Capture) (ns : List Notice) (hr : s.hasFaultRoom = true)
      (hf : s.unrecorded k i = true ∨ s.faultOf (.input i) (.station k) = none) :
      Edit s ((s.withFault (s.freshFault (.input i) (.station k) l c) ns).setUnrecorded k i false)
  | unrecord (k : Station) (i : Input) (v : Bool) (h : v = true → s.faultOf (.input i) (.station k) = none ∨
      s.unrecorded k i = true) : Edit s (s.setUnrecorded k i v)
  | dropFault (n : Nat) : Edit s (s.setFaults (s.mach.faults.filter fun x => x.number != n))
  | causes (cs : List HaltCause) (h : s.halt.state = .halted) : Edit s { s with halt := { s.halt with causes := cs } }
  | level (l : Levels) (h : s.levelOk → State.levelOk { s with level := l }) : Edit s { s with level := l }
  | batches (f : Batch → Batch) (h : ∀ b ∈ s.traffic.batches, BatchEdit b (f b)) :
      Edit s (s.setBatches (s.traffic.batches.map f))
  | claim (b : Batch) (h : s.claimsFree b = true) :
      Edit s (s.modStep b.number fun r => { r with claims := stepClaims b.current })
  | admission {u : State} {d : Direction} {e : Edition} {ms : List Passage} (h : Admits s u d ms)
      (he : s.toll.current = some e) (ns : List Notice) :
      Edit s (({ u with traffic := u.admittedTraffic d e ms } : State).withNotices ns)
  | discardOrder : Edit s s.discardOrder
  | complete (b : Batch) (h : ∃ x ∈ s.traffic.batches, x.number = b.number ∧ x.members = b.members) :
      Edit s ((s.assess b).removeBatch b.number)
  | nearFull (u d : Bool) : Edit s (s.setTraffic { s.traffic with nearUp := u, nearDown := d })
  | receipts (near hold : Bool) (t : Option Nat) :
      Edit s { s with receipts := { s.receipts with nearFull := near, hold := hold, repeatTimer := t } }

/-- A sequence of edits. -/
abbrev Edits : State → State → Prop := Relation.ReflTransGen Edit

theorem Edit.once {s t : State} (h : Edit s t) : Edits s t := .single h

theorem Edits.trans {s t u : State} (h : Edits s t) (h' : Edits t u) : Edits s u := Relation.ReflTransGen.trans h h'

theorem Edits.foldl {α : Type} {f : State → α → State} (h : ∀ s a, Edits s (f s a)) (xs : List α) :
    ∀ s, Edits s (xs.foldl f s) := by
  induction xs with
  | nil => exact fun s => .refl
  | cons x xs ih => exact fun s => (h s x).trans (ih _)

/-- No edit moves the halt state. -/
theorem Edit.halt_state {s t : State} (h : Edit s t) : t.halt.state = s.halt.state := by
  cases h with
  | admission h => cases h <;> rfl
  | _ => rfl

theorem Edits.halt_state {s t : State} (h : Edits s t) : t.halt.state = s.halt.state := by
  induction h with
  | refl => rfl
  | tail _ hab ih => exact hab.halt_state.trans ih

/-! ### The operations every block uses -/

section

variable (s : State)

theorem State.notify_edits (k : NoticeKind) (o : Nat) (p : List Field) : Edits s (s.notify k o p) := by
  rw [State.notify_withNotices]
  exact (Edit.notices _).once

theorem State.emit_edits (e : RunEvent) : Edits s (s.emit e) := (Edit.hand _).once
theorem State.handCause_edits (c : HaltCause) : Edits s (s.handCause c) := (Edit.hand _).once
theorem State.markRetest_edits : Edits s s.markRetest := (Edit.hand _).once
theorem State.markAdmit_edits : Edits s s.markAdmit := (Edit.hand _).once
theorem State.popEvent_edits : Edits s s.popEvent := (Edit.hand _).once

theorem State.setCommand_edits (i : Item) (c : CmdState) : Edits s (s.setCommand i c) := by
  unfold State.setCommand
  split
  · exact .refl
  · exact (Edit.command i c).once.trans (State.markRetest_edits _)

theorem State.orderStop_edits (i : Item) : Edits s (s.orderStop i) :=
  (Edit.queue _ (.stop i)).once.trans (State.setCommand_edits _ _ _)

theorem State.orderMove_edits (i : Item) (t : Target) (h : (s.item i).movement ≠ none) :
    Edits s (s.orderMove i t) :=
  (Edit.queue _ (.place _ fun _ => .inr ⟨i, h⟩)).once.trans (State.setCommand_edits _ _ _)

theorem State.withdraw_edits (i : Item) : Edits s (s.withdraw i) :=
  (Edit.queue _ (.fewer List.filter_sublist)).once

theorem State.withdrawMove_edits (i : Item) : Edits s (s.withdrawMove i) := by
  unfold State.withdrawMove
  split
  · split
    · exact .refl
    · exact s.withdraw_edits i
  · exact .refl

/-! ### Faults and inputs -/

theorem State.noticeRaised_edits (r : FaultRec) : Edits s (s.noticeRaised r) := s.notify_edits _ _ _

theorem State.noticeReleased_edits (r : FaultRec) (b : Bool) : Edits s (s.noticeReleased r b) :=
  s.notify_edits _ _ _

/-- A record is changed where it stands, in what is not its number, kind and source. -/
theorem State.changeFault_edits {old new : FaultRec} (hn : new.number = old.number)
    (h : (s.mach.faults.map (·.number)).Nodup →
      ∃ x ∈ s.mach.faults, x.number = new.number ∧ x.kind = new.kind ∧ x.source = new.source) :
    Edits s (s.changeFault old new) := by
  unfold State.changeFault
  split
  · exact .refl
  · exact (Edit.fault old new hn h).once.trans (State.noticeRaised_edits _ _)

theorem State.changeFault_mem_edits {old new : FaultRec} (h : old ∈ s.mach.faults)
    (hn : new.number = old.number) (hk : new.kind = old.kind) (hs : new.source = old.source) :
    Edits s (s.changeFault old new) :=
  s.changeFault_edits hn fun _ => ⟨old, h, hn.symm, hk.symm, hs.symm⟩

theorem State.faultOf_mem {k : FaultKind} {src : FaultSource} {r : FaultRec} (h : s.faultOf k src = some r) :
    r ∈ s.mach.faults := List.mem_of_find?_eq_some h

theorem State.raiseFault_edits (k : FaultKind) (src : FaultSource) (l n : Bool) (i : Item) (b : Option (Nat × Step))
    (hs : ∀ j, src ≠ .station j) : Edits s (s.raiseFault k src l n i b) := by
  unfold State.raiseFault
  split
  · rename_i r hr
    exact s.changeFault_mem_edits (s.faultOf_mem hr) rfl rfl rfl
  · rename_i hnone
    split
    · rename_i hroom
      obtain ⟨ns, hns⟩ := s.newFault_eq k src l (s.capture i b)
      rw [hns]
      exact (Edit.newFault k src l _ ns hroom hnone hs).once
    · exact s.handCause_edits _

theorem State.handOwner_edits (o : Owner) (r : Reason) : Edits s (s.handOwner o r) := by
  cases o with
  | batch n st => exact s.emit_edits _
  | protective => exact .refl

theorem State.stopForHold_edits (i : Item) : Edits s (s.stopForHold i) := by
  unfold State.stopForHold
  split
  · exact s.orderStop_edits i
  · exact s.orderStop_edits i
  · exact .refl

end

/-! ### What stays of the movement records -/

section

variable (s : State)

theorem State.movement_setCommand (i j : Item) (c : CmdState) :
    ((s.setCommand i c).item j).movement = (s.item j).movement := by
  rcases s.setCommand_spec i c with ⟨h, -⟩ | h
  · rw [h]
  · have hj : ((s.setItem i { s.item i with command := c }).item j).movement = (s.item j).movement := by
      rw [State.item_setItem]
      split
      · rename_i he
        rw [he]
      · rfl
    rw [h]
    exact hj

theorem State.movement_orderStop (i j : Item) : ((s.orderStop i).item j).movement = (s.item j).movement :=
  State.movement_setCommand _ i j .stops

theorem State.movement_orderMove (i j : Item) (t : Target) :
    ((s.orderMove i t).item j).movement = (s.item j).movement :=
  State.movement_setCommand _ i j _

theorem State.movement_stopForHold (i j : Item) : ((s.stopForHold i).item j).movement = (s.item j).movement := by
  unfold State.stopForHold
  split
  · exact s.movement_orderStop i j
  · exact s.movement_orderStop i j
  · rfl

theorem State.movement_withdrawMove (i j : Item) : ((s.withdrawMove i).item j).movement = (s.item j).movement := by
  unfold State.withdrawMove
  split
  · split <;> rfl
  · rfl

theorem State.item_supersede (a b : Owner) (j : Item) : (s.supersede a b).item j = s.item j := by
  unfold State.supersede
  split <;> rfl

theorem State.holdGate_edits (k : Station) : Edits s (s.holdGate k) := by
  unfold State.holdGate
  dsimp only
  split
  · exact .refl
  · rename_i m hm
    have hheld : Edits s (if m.phase = .held then s
        else (s.stopForHold (.gate k)).setMovement (.gate k) (some (heldMovement s.now m))) := by
      split
      · exact .refl
      · refine (s.stopForHold_edits _).trans (Edit.move _ _ (.inr ?_)).once
        rw [s.movement_stopForHold, hm]
        exact Option.some_ne_none m
    split
    · exact (hheld.trans (Edit.dropMovement _).once).trans (State.emit_edits _ _)
    · exact hheld

theorem State.noticeHalt_edits : Edits s s.noticeHalt := s.notify_edits _ _ _

theorem State.endCause_edits (c : HaltCause) : Edits s (s.endCause c) := by
  unfold State.endCause
  split
  · rename_i h
    exact (Edit.causes _ h.1).once.trans (State.noticeHalt_edits _)
  · exact .refl

theorem State.testLocalStop_edits : Edits s s.testLocalStop := by
  unfold State.testLocalStop
  split
  · exact .refl
  · exact s.endCause_edits _

theorem State.raiseInput_edits (k : Station) (i : Input) (l : Bool)
    (h : s.unrecorded k i = true ∨ s.faultOf (.input i) (.station k) = none) : Edits s (s.raiseInput k i l) := by
  unfold State.raiseInput
  dsimp only
  split
  · rename_i hroom
    obtain ⟨ns, hns⟩ := s.newFault_eq (.input i) (.station k) l (s.capture (.gate k) (s.movementBatch (.gate k)))
    rw [hns]
    exact (Edit.newInput k i l _ ns hroom h).once
  · exact (Edit.unrecord k i true fun _ => h.symm).once

theorem State.setHeld_edits (k : Station) (i : Input) (v : Option Bool) : Edits s (s.setHeld k i v) :=
  (Edit.rest _ _ _ _ _).once

theorem State.setOverload_edits (k : Station) (o : OverloadBlank) : Edits s (s.setOverload k o) :=
  (Edit.rest _ _ _ _ _).once

theorem State.inputActive_edits (k : Station) (i : Input) (b : Option Bool) : Edits s (s.inputActive k i b) := by
  unfold State.inputActive
  split
  · rename_i r hr
    have h := s.changeFault_mem_edits (new := repeated (b = some false) r) (s.faultOf_mem hr) rfl rfl rfl
    dsimp only
    split
    · exact h
    · exact h.trans (State.handCause_edits _ _)
  · rename_i hnone
    split
    · exact .refl
    · dsimp only
      have hraise := fun l => s.raiseInput_edits k i l (.inr hnone)
      have hhold : ∀ l, Edits s (if isGateInput i then (s.raiseInput k i l).holdGate k
          else (s.raiseInput k i l).handCause .localStop) := by
        intro l
        split
        · exact (hraise l).trans (State.holdGate_edits _ _)
        · exact (hraise l).trans (State.handCause_edits _ _)
      split
      · exact (hhold _).trans (State.handCause_edits _ _)
      · exact hhold _

/-- R46: the release of an input's record is begun. -/
theorem State.beginRelease_edits {r : FaultRec} {k : FaultKind} {src : FaultSource}
    (hr : s.faultOf k src = some r) (e : Option Nat) :
    Edits s (if r.latched || r.releasing.isSome then s else s.changeFault r { r with releasing := e }) := by
  split
  · exact .refl
  · exact s.changeFault_mem_edits (s.faultOf_mem hr) rfl rfl rfl

theorem State.inputInactive_edits (k : Station) (i : Input) : Edits s (s.inputInactive k i) := by
  have hcease : Edits s (if s.unrecorded k i then
      (if isGateInput i then s.setUnrecorded k i false else (s.setUnrecorded k i false).testLocalStop) else s) := by
    split
    · have h : Edits s (s.setUnrecorded k i false) := (Edit.unrecord k i false (by simp)).once
      split
      · exact h
      · exact h.trans (State.testLocalStop_edits _)
    · exact .refl
  unfold State.inputInactive
  dsimp only
  generalize (if s.unrecorded k i = true then
      (if isGateInput i = true then s.setUnrecorded k i false else (s.setUnrecorded k i false).testLocalStop)
    else s) = t at hcease ⊢
  refine hcease.trans ?_
  split
  · rename_i r hr
    exact t.beginRelease_edits hr _
  · exact .refl

theorem State.applyInput_edits (k : Station) (i : Input) (v : Bool) : Edits s (s.applyInput k i v) := by
  unfold State.applyInput
  dsimp only
  have h := s.setHeld_edits k i (some v)
  split
  · exact h
  · split
    · exact h.trans (State.inputActive_edits _ _ _ _)
    · exact h.trans (State.inputInactive_edits _ _ _)

theorem State.takeOverload_edits (k : Station) (v : Bool) : Edits s (s.takeOverload k v) := by
  unfold State.takeOverload
  split
  · exact s.setOverload_edits _ _
  · exact s.applyInput_edits _ _ _

theorem State.applyInputs_edits (k : Station) (r : InputReport) : Edits s (s.applyInputs k r) :=
  (((s.applyInput_edits _ _ _).trans (State.takeOverload_edits _ _ _)).trans (State.applyInput_edits _ _ _ _)).trans
    (State.applyInput_edits _ _ _ _)

theorem State.startOverloadBlank_edits (k : Station) : Edits s (s.startOverloadBlank k) := by
  unfold State.startOverloadBlank
  split
  · exact .refl
  · exact s.setOverload_edits _ _

/-- Changing one record leaves for every record one with its number, kind and source. -/
theorem State.changeFault_key {r new x : FaultRec} (hnd : (s.mach.faults.map (·.number)).Nodup)
    (hr : ∃ y ∈ s.mach.faults, y.number = r.number ∧ y.kind = r.kind ∧ y.source = r.source)
    (hn : new.number = r.number) (hk : new.kind = r.kind) (hs : new.source = r.source)
    (hx : ∃ y ∈ s.mach.faults, y.number = x.number ∧ y.kind = x.kind ∧ y.source = x.source) :
    ∃ y ∈ (s.changeFault r new).mach.faults, y.number = x.number ∧ y.kind = x.kind ∧ y.source = x.source := by
  unfold State.changeFault
  split
  · exact hx
  · obtain ⟨y, hy, hyn, hyk, hys⟩ := hx
    have hmap : ∀ t : State, (t.noticeRaised new).mach.faults = t.mach.faults := fun t => by
      rw [State.noticeRaised, State.notify_withNotices]
      rfl
    rw [hmap, State.faults_setFaults]
    by_cases he : y.number = r.number
    · obtain ⟨z, hz, hzn, hzk, hzs⟩ := hr
      obtain rfl : y = z := List.inj_on_of_nodup_map hnd hy hz (he.trans hzn.symm)
      exact ⟨new, List.mem_map.mpr ⟨y, hy, if_pos he⟩, hn.trans (he.symm.trans hyn), hk.trans (hzk.symm.trans hyk),
        hs.trans (hzs.symm.trans hys)⟩
    · exact ⟨y, List.mem_map.mpr ⟨y, hy, if_neg he⟩, hyn, hyk, hys⟩

theorem State.changeFault_numbers {r new : FaultRec} (hn : new.number = r.number) :
    (s.changeFault r new).mach.faults.map (·.number) = s.mach.faults.map (·.number) := by
  unfold State.changeFault
  split
  · rfl
  · rw [State.noticeRaised, State.notify_withNotices]
    change (s.mach.faults.map _).map _ = _
    rw [List.map_map]
    refine List.map_congr_left fun x _ => ?_
    rw [Function.comp_apply]
    split
    · rename_i he
      exact hn.trans he.symm
    · rfl

theorem State.stopReleases_edits (k : Station) : Edits s (s.stopReleases k) := by
  have hfold : ∀ (rs : List FaultRec) (t : State),
      ((t.mach.faults.map (·.number)).Nodup → ∀ r ∈ rs,
        ∃ x ∈ t.mach.faults, x.number = r.number ∧ x.kind = r.kind ∧ x.source = r.source) →
      Edits t (rs.foldl (fun s r => s.changeFault r { r with releasing := none }) t) := by
    intro rs
    induction rs with
    | nil => exact fun _ _ => .refl
    | cons r rest ih =>
      intro t ht
      rw [List.foldl_cons]
      refine (t.changeFault_edits (old := r) (new := { r with releasing := none }) rfl fun hnd => ht hnd r (by simp)).trans
        (ih (t.changeFault r { r with releasing := none }) fun hnd x hx => ?_)
      rw [State.changeFault_numbers t (r := r) (new := { r with releasing := none }) rfl] at hnd
      exact t.changeFault_key hnd (ht hnd r (by simp)) rfl rfl rfl (ht hnd x (by simp [hx]))
  exact hfold _ s fun _ r hr => ⟨r, (List.mem_filter.mp hr).1, rfl, rfl, rfl⟩

theorem State.loseInputs_edits (k : Station) : Edits s (s.loseInputs k) := by
  refine ((Edit.rest s.mach.inLocal (s.mach.inputs.set k ⟨none, none, none, none⟩) s.mach.overload s.mach.changeover
    s.mach.nextSerial).once.trans (State.setOverload_edits _ k _)).trans (State.stopReleases_edits _ k)

theorem State.recordUnrecorded_edits (k : Station) (i : Input) : Edits s (s.recordUnrecorded k i) := by
  unfold State.recordUnrecorded
  split
  · rename_i h
    rw [Bool.and_eq_true] at h
    exact s.raiseInput_edits _ _ _ (.inl h.1)
  · exact .refl

theorem State.recordAllUnrecorded_edits : Edits s s.recordAllUnrecorded :=
  Edits.foldl (fun s k => Edits.foldl (fun s i => s.recordUnrecorded_edits k i) _ s) _ s

theorem State.dropFault_edits (r : FaultRec) (b : Bool) : Edits s (s.dropFault r b) :=
  (Edit.dropFault r.number).once.trans (State.noticeReleased_edits _ _ _)

theorem State.afterRemoval_edits (r : FaultRec) : Edits s (s.afterRemoval r) := by
  unfold State.afterRemoval
  dsimp only
  split
  · exact s.recordAllUnrecorded_edits.trans (State.testLocalStop_edits _)
  · exact s.recordAllUnrecorded_edits

theorem State.escalate_edits (r : FaultRec) (k : Station) (m : Movement) (h : r ∈ s.mach.faults) :
    Edits s (s.escalate r k m) :=
  ((s.changeFault_mem_edits (new := { r with latched := true, escalated := true, releasing := none }) h rfl rfl
    rfl).trans (Edit.dropMovement _).once).trans (State.handOwner_edits _ _ _)

theorem State.movement_dropFault (r : FaultRec) (b : Bool) (j : Item) :
    ((s.dropFault r b).item j).movement = (s.item j).movement := by
  rw [State.dropFault, State.noticeReleased, State.notify_withNotices]
  rfl

theorem State.releaseFault_edits (r : FaultRec) (k : Station) (h : r ∈ s.mach.faults) :
    Edits s (s.releaseFault r k) := by
  unfold State.releaseFault
  dsimp only
  have hdrop : Edits s ((s.dropFault r false).afterRemoval r) :=
    (s.dropFault_edits r false).trans (State.afterRemoval_edits _ r)
  split
  · exact hdrop
  · split
    · exact hdrop
    · rename_i m hm
      split
      · exact s.escalate_edits r k m h
      · refine ((s.dropFault_edits r false).trans ?_).trans (State.afterRemoval_edits _ r)
        split
        · refine (Edit.move _ _ (.inr ?_)).once
          rw [s.movement_dropFault, hm]
          exact Option.some_ne_none m
        · exact .refl

end

end Sys2Proof.Machine
end

section
/-! EDITS OF THE MACHINERY SUPERVISOR: every movement operation of chapter 2 is a sequence of edits. -/

namespace Sys2Proof.Machine

section

variable (s : State)

/-! ### What the small operations leave of the movement records and the halt state -/

theorem State.movement_setMovement_same (i : Item) (m : Option Movement) :
    ((s.setMovement i m).item i).movement = m := by
  rw [State.setMovement, State.item_setItem, if_pos rfl]

theorem State.movement_withdraw (i j : Item) : ((s.withdraw i).item j).movement = (s.item j).movement := rfl

/-! ### Placing and withdrawing commands (R30) -/

theorem State.tryPlace_edits (i : Item) : Edits s (s.tryPlace i) := by
  unfold State.tryPlace
  split
  · rename_i m hm
    have hsome : (s.item i).movement ≠ none := by
      rw [hm]
      exact Option.some_ne_none m
    split
    · refine (s.orderMove_edits i m.target hsome).trans (Edit.move _ _ (.inr ?_)).once
      rwa [s.movement_orderMove]
    · exact .refl
  · exact .refl

theorem State.tryWithdraw_edits (i : Item) : Edits s (s.tryWithdraw i) := by
  unfold State.tryWithdraw
  split
  · rename_i m hm
    have hsome : (s.item i).movement ≠ none := by
      rw [hm]
      exact Option.some_ne_none m
    split
    · dsimp only
      split
      · refine (s.orderStop_edits i).trans (Edit.move _ _ (.inr ?_)).once
        rwa [s.movement_orderStop]
      · refine ((s.withdraw_edits i).trans (State.setCommand_edits _ _ _)).trans (Edit.move _ _ (.inr ?_)).once
        rwa [State.movement_setCommand, s.movement_withdraw]
    · exact .refl
  · exact .refl

theorem State.retest_edits : Edits s s.retest :=
  Edits.foldl (fun t i => (t.tryWithdraw_edits i).trans (State.tryPlace_edits _ i)) _ s

/-! ### Requests (R27 to R29) -/

theorem State.supersede_edits (a b : Owner) : Edits s (s.supersede a b) := by
  unfold State.supersede
  split
  · exact s.emit_edits _
  · exact .refl

theorem State.running_of_available {i : Item} {t : Target} (h : s.notAvailable i t = none) :
    s.halt.state = .running := by
  by_contra hne
  rw [State.notAvailable, if_pos hne] at h
  exact Option.some_ne_none _ h

theorem State.requestNew_edits (i : Item) (t : Target) (o : Owner) (h : s.halt.state = .running) :
    Edits s (s.requestNew i t o).2 := by
  unfold State.requestNew
  split
  · exact .refl
  · dsimp only
    refine ((Edit.move i _ (.inl h)).once.trans
      (Edit.rest s.mach.inLocal s.mach.inputs s.mach.overload s.mach.changeover (s.mach.nextSerial + 1)).once).trans
      (State.tryPlace_edits _ i)

theorem State.requestJoin_edits (i : Item) (m : Movement) (o : Owner) (h : s.halt.state = .running) :
    Edits s (s.requestJoin i m o).2 := by
  cases o with
  | batch n st => exact .refl
  | protective => exact ((Edit.move i _ (.inl h)).once).trans (State.supersede_edits _ _ _)

theorem State.halt_supersede (a b : Owner) : (s.supersede a b).halt = s.halt := by
  unfold State.supersede
  split <;> rfl

theorem State.requestReverse_edits (i : Item) (m : Movement) (t : Target) (o : Owner)
    (h : s.halt.state = .running) : Edits s (s.requestReverse i m t o).2 := by
  unfold State.requestReverse
  split
  · exact ((Edit.move i _ (.inl h)).once).trans (State.supersede_edits _ _ _)
  · have hwith : Edits s (if m.queued then s.withdrawMove i else s) ∧
        (if m.queued then s.withdrawMove i else s).halt.state = .running := by
      split
      · exact ⟨s.withdrawMove_edits i, (s.withdrawMove_edits i).halt_state.trans h⟩
      · exact ⟨.refl, h⟩
    have hsup := hwith.1.trans (State.supersede_edits _ m.owner o)
    dsimp only
    split
    · exact hsup.trans (Edit.dropMovement i).once
    · refine (hsup.trans (Edit.move i _ (.inl ?_)).once).trans (State.tryPlace_edits _ i)
      rw [State.halt_supersede]
      exact hwith.2
  · refine ((s.supersede_edits _ _).trans (Edit.move i _ (.inl ?_)).once).trans (State.tryPlace_edits _ i)
    rw [State.halt_supersede]
    exact h

theorem State.requestMove_edits (i : Item) (t : Target) (o : Owner) : Edits s (s.requestMove i t o).2 := by
  unfold State.requestMove
  split
  · exact .refl
  · rename_i hav
    have hrun := s.running_of_available hav
    split
    · exact s.requestNew_edits i t o hrun
    · split
      · exact s.requestJoin_edits i _ o hrun
      · exact s.requestReverse_edits i _ t o hrun

theorem State.requestStop_edits (i : Item) : Edits s (s.requestStop i) :=
  (Edit.dropMovement i).once.trans (State.orderStop_edits _ i)

/-! ### Failures and verdicts (R33, R35) -/

theorem State.failMovement_edits (i : Item) (k : FaultKind) : Edits s (s.failMovement i k) := by
  unfold State.failMovement
  split
  · exact .refl
  · exact (((s.orderStop_edits i).trans (State.raiseFault_edits _ _ _ _ _ _ _ (by simp))).trans
      (Edit.dropMovement i).once).trans (State.handOwner_edits _ _ _)

theorem State.itemVerdict_edits (i : Item) (o : ItemOrder) (v : Verdict) : Edits s (s.itemVerdict i o v) := by
  unfold State.itemVerdict
  split
  · exact .refl
  · rename_i m hm
    have hsome : (s.item i).movement ≠ none := by
      rw [hm]
      exact Option.some_ne_none m
    split
    · split
      · dsimp only
        split
        · exact (Edit.move i _ (.inr hsome)).once.trans (State.emit_edits _ _)
        · exact (Edit.move i _ (.inr hsome)).once
      · exact s.failMovement_edits i _
    · exact .refl

theorem State.markUnanswered_edits (i : Item) (o : ItemOrder) : Edits s (s.markUnanswered i o) := by
  unfold State.markUnanswered
  split
  · exact .refl
  · rename_i m hm
    split
    · refine (Edit.move i _ (.inr ?_)).once
      rw [hm]
      exact Option.some_ne_none m
    · exact .refl

/-! ### Reports (R12, R24, R25, R34, R41) -/

theorem State.retainedOf_chamber (c : Chamber) : s.retainedOf.chambers.get c = (s.chamber c).retained := by
  cases c <;> rfl

/-- A chamber record is changed, its levels and what is retained of it staying within their values. -/
theorem State.setChamber_edits (c : Chamber) (r : ChamberRec)
    (h : s.levelOk → r.levelsFit ∧ r.retained.fits) : Edits s (s.setChamber c r) := by
  refine (Edit.level _ fun hok => ?_).once
  have hnew := h hok
  obtain ⟨⟨hc, hrest⟩, hcf, hcl⟩ := hok
  have hget : ∀ d, (s.setChamber c r).chamber d = if d = c then r else s.chamber d := fun d => Trio.get_set _ c d r
  refine ⟨⟨fun d => ?_, hrest⟩, fun d => ?_, hcl⟩
  · change ((s.setChamber c r).chamber d).levelsFit
    rw [hget]
    split
    · exact hnew.1
    · exact hc d
  · change ((s.setChamber c r).retainedOf.chambers.get d).fits
    rw [State.retainedOf_chamber, hget]
    split
    · exact hnew.2
    · rw [← State.retainedOf_chamber]
      exact hcf d

theorem State.levelOk_chamber (c : Chamber) (h : s.levelOk) :
    (s.chamber c).levelsFit ∧ (s.chamber c).retained.fits :=
  ⟨h.1.1 c, s.retainedOf_chamber c ▸ h.2.1 c⟩

theorem State.startSurge_edits (c : Chamber) : Edits s (s.startSurge c) := by
  unfold State.startSurge
  split
  · exact .refl
  · exact s.setChamber_edits c _ (s.levelOk_chamber c)

theorem State.restartChangeover_edits (c : Chamber) : Edits s (s.restartChangeover c) :=
  (Edit.rest _ _ _ _ _).once

/-- What the beginning of a motion starts (R12, R44). -/
theorem State.motionStarts_edits (i : Item) (begins : Bool) :
    Edits s (if begins then (pathChambers i).foldl (fun s c => s.startSurge c) s else s) := by
  split
  · exact Edits.foldl (fun t c => t.startSurge_edits c) _ s
  · exact .refl

/-- What a report of SHUT starts and ends (R25, R149). -/
theorem State.shutStarts_edits (i : Item) (shuts : Bool) :
    Edits s (if (shuts && i == .sluice .k0) = true then
        (if shuts then (pathChambers i).foldl (fun s c => s.restartChangeover c) s else s).emit .headSluiceShut
      else (if shuts then (pathChambers i).foldl (fun s c => s.restartChangeover c) s else s)) := by
  have h : Edits s (if shuts then (pathChambers i).foldl (fun s c => s.restartChangeover c) s else s) := by
    split
    · exact Edits.foldl (fun t c => t.restartChangeover_edits c) _ s
    · exact .refl
  split
  · exact h.trans (State.emit_edits _ _)
  · exact h

theorem State.reportStarts_edits (i : Item) (prev : Option Position) (p : Position) :
    Edits s (s.reportStarts i prev p) := by
  unfold State.reportStarts
  dsimp only
  generalize (isMotion p && prev != some p) = begins
  have hmotion := s.motionStarts_edits i begins
  generalize (if begins = true then (pathChambers i).foldl (fun s c => s.startSurge c) s else s) = t at hmotion ⊢
  have hblank : Edits t (match i, begins with
      | .gate k, true => t.startOverloadBlank k
      | _, _ => t) := by
    split
    · exact t.startOverloadBlank_edits _
    · exact .refl
  exact hmotion.trans (hblank.trans (State.shutStarts_edits _ i _))

theorem State.handComplete_edits (i : Item) (m : Movement) : Edits s (s.handComplete i m) := by
  unfold State.handComplete
  split
  · exact s.emit_edits _
  · exact s.emit_edits _
  · exact .refl

theorem State.reportMovement_edits (i : Item) (p : Position) : Edits s (s.reportMovement i p) := by
  unfold State.reportMovement
  split
  · exact .refl
  · rename_i m hm
    split
    · split
      · exact (Edit.dropMovement i).once.trans (State.handComplete_edits _ i m)
      · split
        · refine (Edit.move i _ (.inr ?_)).once
          rw [hm]
          exact Option.some_ne_none m
        · exact .refl
    · exact .refl

theorem State.stopUncommanded_edits (i : Item) : Edits s (s.stopUncommanded i) :=
  ((s.orderStop_edits i).trans (State.raiseFault_edits _ _ _ _ _ _ _ (by simp))).trans (State.emit_edits _ _)

/-- What a report does to the movement of its item, or to an item in uncommanded motion. -/
theorem State.reportActs_edits (i : Item) (p : Position) (stray : Bool) :
    Edits s (if stray then s.stopUncommanded i else s.reportMovement i p) := by
  split
  · exact s.stopUncommanded_edits i
  · exact s.reportMovement_edits i p

theorem State.reportEnds_edits (i : Item) (same : Prop) [Decidable same] :
    Edits s (if same then (if isGate i then s.emit .gateReport else s)
      else (if isGate i then s.emit .gateReport else s).markRetest) := by
  have hgate : Edits s (if isGate i then s.emit .gateReport else s) := by
    split
    · exact s.emit_edits _
    · exact .refl
  split
  · exact hgate
  · exact hgate.trans (State.markRetest_edits _)

theorem State.reportPosition_edits (i : Item) (p : Position) : Edits s (s.reportPosition i p) :=
  (((s.reportStarts_edits i (s.item i).position p).trans (Edit.position i (some p)).once).trans
    (State.reportActs_edits _ i p _)).trans (State.reportEnds_edits _ i _)

theorem State.reportPositions_edits (k : Station) (r : StationReport) : Edits s (s.reportPositions k r) := by
  unfold State.reportPositions
  dsimp only
  have h := (s.reportPosition_edits (.gate k) r.gate).trans (State.reportPosition_edits _ (.sluice k) r.sluice)
  split
  · exact h.trans (State.reportPosition_edits _ _ _)
  · exact h

/-! ### Station changes (R24, R39) -/

theorem State.forgetPositions_edits (k : Station) : Edits s (s.forgetPositions k) :=
  Edits.foldl (fun _ i => (Edit.position i none).once) _ s

theorem State.endMovement_edits (i : Item) (r : Reason) : Edits s (s.endMovement i r) := by
  unfold State.endMovement
  split
  · exact (Edit.dropMovement i).once.trans (State.handOwner_edits _ _ _)
  · exact .refl

theorem State.loseMovements_edits (k : Station) : Edits s (s.loseMovements k) :=
  Edits.foldl (fun t i => ((t.endMovement_edits i _).trans (State.withdrawMove_edits _ i)).trans
    (State.setCommand_edits _ i _)) _ s

theorem State.localMovement_edits (i : Item) : Edits s (s.localMovement i) := by
  unfold State.localMovement
  split
  · exact (s.endMovement_edits i _).trans (State.withdraw_edits _ i)
  · exact .refl

theorem State.reportControl_edits (k : Station) (v : Bool) : Edits s (s.reportControl k v) := by
  unfold State.reportControl
  dsimp only
  have hset : Edits s { s with mach := { s.mach with inLocal := s.mach.inLocal.set k v } } :=
    (Edit.rest _ _ _ _ _).once
  split
  · refine (hset.trans ?_).trans (State.emit_edits _ _)
    exact Edits.foldl (fun t i => (t.localMovement_edits i).trans (State.setCommand_edits _ i _)) _ _
  · exact hset

theorem State.reportMachinery_edits (k : Station) (r : StationReport) : Edits s (s.reportMachinery k r) :=
  ((s.reportControl_edits k _).trans (State.reportPositions_edits _ k r)).trans (State.applyInputs_edits _ k _)

end

end Sys2Proof.Machine
end

section
/-! EDITS OF THE LEVEL MONITOR, SIGNAL CONTROL AND THE STATION LINE: every operation of chapters 1, 4 and 5 that a step
hands over is a sequence of edits; but a face report places a face's command again, which is a command's own. -/

namespace Sys2Proof.Machine

/-! ### Levels within their values -/

theorem meanHalfUp_le {a b n : Nat} (ha : a ≤ n) (hb : b ≤ n) : meanHalfUp a b ≤ n := by
  unfold meanHalfUp
  omega

/-- A chamber record whose levels, counters, configuration and last known level are within their values. -/
def ChamberRec.ok (r : ChamberRec) : Prop := r.levelsFit ∧ r.retained.fits

theorem ChamberRec.ok.agree {r : ChamberRec} (h : r.ok) {v d : Nat} (hv : v ≤ 20000) (hd : d ≤ 16)
    (c : LevelCondition) : ({ r.agree v with condition := c, dispute := d } : ChamberRec).ok := by
  obtain ⟨⟨hu, hl, ha, hdis, htc⟩, hg, hk⟩ := h
  exact ⟨⟨hu, hl, fun x hx => Option.some.inj hx ▸ hv, hd, htc⟩, hg, fun x hx => Option.some.inj hx ▸ hv⟩

theorem ChamberRec.ok.noLevel {r : ChamberRec} (h : r.ok) (c : LevelCondition) :
    ({ r with agreed := none, condition := c, dispute := 0 } : ChamberRec).ok := by
  obtain ⟨⟨hu, hl, ha, hdis, htc⟩, hret⟩ := h
  exact ⟨⟨hu, hl, by simp, by simp, htc⟩, hret⟩

theorem deriveTwo_ok {set : LevelSettings} {r : ChamberRec} {u l : Nat} (h : r.ok) (hs : set.settleCount ≤ 16)
    (hu : u ≤ 20000) (hl : l ≤ 20000) : (deriveTwo set r u l).record.ok := by
  have hmean := meanHalfUp_le hu hl
  have hmax : max u l ≤ 20000 := max_le hu hl
  have hdis := h.1.2.2.2.1
  unfold deriveTwo
  dsimp only
  split
  · exact h.agree hmean (Nat.zero_le _) _
  · split
    · obtain ⟨⟨h1, h2, -, -, -⟩, h6, -⟩ := h.agree hmax (Nat.zero_le _) .disputed
      exact ⟨⟨h1, h2, fun x hx => Option.some.inj hx ▸ hmax, by simp, by simp⟩, h6,
        fun x hx => Option.some.inj hx ▸ hmax⟩
    · exact h.agree hmean (by omega) _
  · exact h.agree hmean hdis _

theorem deriveDisputed_ok {set : LevelSettings} {r : ChamberRec} {u l : Option Nat} (h : r.ok)
    (hs : set.settleCount ≤ 16) (hu : levelFits u) (hl : levelFits l) : (deriveDisputed set r u l).record.ok := by
  have hdis := h.1.2.2.2.1
  cases u with
  | none =>
    cases l with
    | none => exact h.noLevel r.condition
    | some l => exact h.agree (hl l rfl) (Nat.zero_le _) r.condition
  | some u =>
    cases l with
    | none => exact h.agree (hu u rfl) (Nat.zero_le _) r.condition
    | some l =>
      have hmean := meanHalfUp_le (hu u rfl) (hl l rfl)
      have hmax : max u l ≤ 20000 := max_le (hu u rfl) (hl l rfl)
      unfold deriveDisputed
      dsimp only
      split
      · split
        · exact h.agree hmean (Nat.zero_le _) _
        · exact h.agree hmax (by omega) r.condition
      · exact h.agree hmax (Nat.zero_le _) r.condition
      · exact h.agree hmax hdis r.condition

theorem deriveOne_ok {r : ChamberRec} {v : Option Nat} (h : r.ok) (hv : levelFits v) : (deriveOne r v).record.ok := by
  cases v with
  | none => exact h.noLevel .unknown
  | some v => exact h.agree (hv v rfl) (Nat.zero_le _) .degraded

theorem deriveChamber_ok {set : LevelSettings} {r : ChamberRec} {u l : Option Nat} (h : r.ok)
    (hs : set.settleCount ≤ 16) (hu : levelFits u) (hl : levelFits l) : (deriveChamber set r u l).record.ok := by
  unfold deriveChamber
  split
  · exact deriveDisputed_ok h hs hu hl
  · split
    · exact deriveTwo_ok h hs (hu _ rfl) (hl _ rfl)
    · exact deriveOne_ok h hu
    · exact deriveOne_ok h hl
    · exact deriveOne_ok h hu
    · exact deriveOne_ok h hl

theorem storedReading_fits (r : Option Nat) : levelFits (storedReading r) := by
  intro x hx
  obtain ⟨v, -, rfl⟩ := Option.map_eq_some_iff.mp hx
  exact min_le_right _ _

section

variable (s : State)

theorem State.validReading_fits (k : Station) {r : Option Nat} (h : levelFits r) : levelFits (s.validReading k r) := by
  unfold State.validReading
  split
  · exact h
  · exact fun x hx => absurd hx (by simp)

theorem State.levelOk_of_chamber (c : Chamber) (h : s.levelOk) : (s.chamber c).ok := s.levelOk_chamber c h

/-! ### Readings (R4, R5, R15) -/

theorem State.testCrest_edits (c : Chamber) (r : Option Nat) : Edits s (s.testCrest c r) := by
  unfold State.testCrest
  split
  · split
    · exact (s.setChamber_edits c { s.chamber c with crest := true } (s.levelOk_chamber c)).trans
        (State.handCause_edits _ _)
    · exact .refl
  · exact .refl

theorem State.headReading_edits {r : Option Nat} (h : levelFits r) :
    Edits s { s with level := { s.level with headReading := r } } :=
  (Edit.level _ fun ⟨⟨hc, _, hrest⟩, hret⟩ => ⟨⟨hc, h, hrest⟩, hret⟩).once

theorem State.tailReading_edits {r : Option Nat} (h : levelFits r) :
    Edits s { s with level := { s.level with tailReading := r } } :=
  (Edit.level _ fun ⟨⟨hc, hh, _, hrest⟩, hret⟩ => ⟨⟨hc, hh, h, hrest⟩, hret⟩).once

theorem State.lowerReading_edits (c : Chamber) {r : Option Nat} (h : levelFits r) :
    Edits s (s.setChamber c { s.chamber c with lower := r }) :=
  s.setChamber_edits c _ fun hok =>
    have ⟨⟨hu, _, hrest⟩, hret⟩ := s.levelOk_chamber c hok
    ⟨⟨hu, h, hrest⟩, hret⟩

theorem State.upperReading_edits (c : Chamber) {r : Option Nat} (h : levelFits r) :
    Edits s (s.setChamber c { s.chamber c with upper := r }) :=
  s.setChamber_edits c _ fun hok =>
    have ⟨⟨_, hrest⟩, hret⟩ := s.levelOk_chamber c hok
    ⟨⟨h, hrest⟩, hret⟩

theorem State.storeAbove_edits (k : Station) {r : Option Nat} (h : levelFits r) : Edits s (s.storeAbove k r) := by
  unfold State.storeAbove
  split
  · exact s.headReading_edits h
  · exact (s.lowerReading_edits _ h).trans (State.testCrest_edits _ _ _)

theorem State.storeBelow_edits (k : Station) {r : Option Nat} (h : levelFits r) : Edits s (s.storeBelow k r) := by
  unfold State.storeBelow
  split
  · exact s.tailReading_edits h
  · exact (s.upperReading_edits _ h).trans (State.testCrest_edits _ _ _)

theorem State.storeReadings_edits (k : Station) (a b : Option Nat) : Edits s (s.storeReadings k a b) :=
  (s.storeAbove_edits k (storedReading_fits a)).trans (State.storeBelow_edits _ k (storedReading_fits b))

theorem levelFits_none : levelFits none := fun _ h => absurd h (by simp)

theorem State.loseReadings_edits (k : Station) : Edits s (s.loseReadings k) := by
  unfold State.loseReadings
  cases k with
  | k0 => exact (s.headReading_edits levelFits_none).trans (State.upperReading_edits _ _ levelFits_none)
  | k1 => exact (s.lowerReading_edits _ levelFits_none).trans (State.upperReading_edits _ _ levelFits_none)
  | k2 => exact (s.lowerReading_edits _ levelFits_none).trans (State.upperReading_edits _ _ levelFits_none)
  | k3 => exact (s.lowerReading_edits _ levelFits_none).trans (State.tailReading_edits _ levelFits_none)

/-! ### The round end (R7 to R21) -/

theorem State.setTarget_edits (c : Chamber) (t : Option LevelTarget) : Edits s (s.setTarget c t) :=
  s.setChamber_edits c _ fun hok =>
    have ⟨⟨hu, hl, ha, hd, _⟩, hret⟩ := s.levelOk_chamber c hok
    ⟨⟨hu, hl, ha, hd, Nat.zero_le _⟩, hret⟩

theorem State.setEqual_edits (k : Station) {n : Nat} (h : n ≤ 16) : Edits s (s.setEqual k n) := by
  refine (Edit.level _ fun ⟨⟨hc, hh, ht, hhl, htl, he, hs⟩, hret⟩ =>
    ⟨⟨hc, hh, ht, hhl, htl, fun j => ?_, hs⟩, hret⟩).once
  change (s.level.equal.set k n).get j ≤ 16
  rw [Quad.get_set]
  split
  · exact h
  · exact he j

theorem State.clearEqual_edits (c : Chamber) : Edits s (s.clearEqual c) :=
  (s.setEqual_edits _ (Nat.zero_le _)).trans (State.setEqual_edits _ _ (Nat.zero_le _))

theorem State.derive_edits (c : Chamber) : Edits s (s.derive c) := by
  unfold State.derive
  dsimp only
  have hset := s.setChamber_edits c (deriveChamber s.level.acting (s.chamber c) (s.validUpper c) (s.validLower c)).record
    fun hok =>
      have hrec := s.levelOk_of_chamber c hok
      deriveChamber_ok hrec hok.1.2.2.2.2.2.2 (s.validReading_fits _ hrec.1.1) (s.validReading_fits _ hrec.1.2.1)
  split
  · exact ((hset.trans (State.clearEqual_edits _ c)).trans (State.notify_edits _ _ _ _)).trans (State.emit_edits _ _)
  · split
    · exact hset.trans (State.notify_edits _ _ _ _)
    · exact hset

theorem State.deriveRiver_edits : Edits s s.deriveRiver :=
  (Edit.level _ fun ⟨⟨hc, hh, ht, _, _, hrest⟩, hret⟩ =>
    ⟨⟨hc, hh, ht, s.validReading_fits _ hh, s.validReading_fits _ ht, hrest⟩, hret⟩).once

theorem State.setHigh_edits (c : Chamber) : Edits s (s.setHigh c) := by
  unfold State.setHigh
  exact (((s.setChamber_edits c { s.chamber c with high := true } (s.levelOk_chamber c)).trans
    (State.notify_edits _ _ _ _)).trans (State.requestMove_edits _ _ _ _)).trans
      ((State.tryWithdraw_edits _ _).trans (State.emit_edits _ _))

theorem State.testHigh_edits (c : Chamber) : Edits s (s.testHigh c) := by
  unfold State.testHigh
  split
  · split
    · split
      · exact .refl
      · exact s.setHigh_edits c
    · split
      · exact (s.setChamber_edits c { s.chamber c with high := false } (s.levelOk_chamber c)).trans
          (State.notify_edits _ _ _ _)
      · exact .refl
  · exact .refl

theorem State.clearCrest_edits (c : Chamber) : Edits s (s.clearCrest c) := by
  unfold State.clearCrest
  split
  · split
    · exact s.setChamber_edits c { s.chamber c with crest := false } (s.levelOk_chamber c)
    · exact .refl
  · exact .refl

theorem State.clearCrests_edits : Edits s s.clearCrests := by
  unfold State.clearCrests
  dsimp only
  have h := Edits.foldl (fun t c => t.clearCrest_edits c) allChambers s
  split
  · exact h.trans (State.endCause_edits _ _)
  · exact h

theorem State.countEqual_edits (held : List Chamber) (k : Station) : Edits s (s.countEqual held k) := by
  unfold State.countEqual
  split
  · split
    · exact s.setEqual_edits _ (min_le_left _ _)
    · exact s.setEqual_edits _ (Nat.zero_le _)
  · exact s.setEqual_edits _ (Nat.zero_le _)

theorem State.countTarget_edits (held : List Chamber) (c : Chamber) : Edits s (s.countTarget held c) := by
  unfold State.countTarget
  dsimp only
  refine s.setChamber_edits c _ fun hok =>
    have ⟨⟨hu, hl, ha, hd, _⟩, hret⟩ := s.levelOk_chamber c hok
    ⟨⟨hu, hl, ha, hd, ?_⟩, hret⟩
  exact ite_le_sup _ _ _ |>.trans (by simp)

theorem State.evaluateRiver_edits : Edits s s.evaluateRiver := by
  unfold State.evaluateRiver
  dsimp only
  split
  · exact .refl
  · have h : Edits s { s with level := { s.level with riverHold := s.riverHeld } } := 
      (Edit.level { s.level with riverHold := s.riverHeld } fun h => h).once
    exact (h.trans (State.notify_edits _ _ _ _)).trans (State.markAdmit_edits _)

theorem settleCount_of_clamped {a : LevelSettings} (h : clampLevelSettings a = a) : a.settleCount ≤ 16 := by
  rw [← h]
  simp only [clampLevelSettings, clampTo]
  split
  · omega
  · split <;> omega

theorem State.takeSettings_edits : Edits s s.takeSettings :=
  (Edit.level _ fun ⟨⟨hc, hh, ht, hhl, htl, he, _⟩, hret, hset⟩ =>
    ⟨⟨hc, hh, ht, hhl, htl, he, settleCount_of_clamped hset⟩, hret, hset⟩).once

theorem State.levelRoundEnd_edits : Edits s s.levelRoundEnd := by
  unfold State.levelRoundEnd
  dsimp only
  have h1 := s.takeSettings_edits.trans (Edits.foldl (fun t c => t.derive_edits c) allChambers s.takeSettings)
  have h2 := (h1.trans (State.deriveRiver_edits _)).trans (Edits.foldl (fun t c => t.testHigh_edits c) allChambers _)
  have h3 := (h2.trans (State.clearCrests_edits _)).trans
    (Edits.foldl (fun t k => t.countEqual_edits (allChambers.filter fun c =>
      (s.takeSettings.chamber c).condition == .disputed) k) allStations _)
  exact (h3.trans (Edits.foldl (fun t c => t.countTarget_edits _ c) allChambers _)).trans (State.evaluateRiver_edits _)

/-! ### Faces (R60 to R63) -/

theorem State.proceedGranted_of_aspect {f : Face} (h : s.aspectFor f = .proceed) : s.proceedGranted f = true := by
  by_contra hn
  rw [Bool.not_eq_true] at hn
  unfold State.aspectFor at h
  split at h
  · unfold State.approachAspect at h
    rw [hn] at h
    split at h
    · exact absurd h (by decide)
    · rw [if_neg (by decide)] at h
      split at h <;> exact absurd h (by decide)
  · rw [hn] at h
    exact absurd h (by decide)

/-- R61: PROCEED is newly commanded only while RUNNING, the far face commanded STOP or CLOSED. -/
theorem State.mayProceed_of_aspect {f : Face} (h : s.aspectFor f = .proceed)
    (hne : (s.face f).commanded ≠ .proceed) : s.mayProceed f = true := by
  have hg := s.proceedGranted_of_aspect h
  have hb : ((s.face f).commanded == Aspect.proceed) = false := beq_false_of_ne hne
  rw [State.proceedGranted, hb, Bool.false_and, Bool.false_and, Bool.false_or, Bool.and_eq_true] at hg
  exact hg.2

theorem State.running_of_mayProceed {f : Face} (h : s.mayProceed f = true) :
    s.halt.state = .running ∧ (s.face (farFace f)).commanded ≠ .proceed := by
  simp only [State.mayProceed, State.farStopped, isRunning, Bool.and_eq_true, beq_iff_eq] at h
  obtain ⟨⟨⟨⟨hrun, -⟩, ⟨hstop, -⟩, -⟩, -⟩, -⟩ := h
  refine ⟨hrun, fun hp => ?_⟩
  rw [hp] at hstop
  exact absurd hstop (by decide)

theorem State.placeFace_edits (f : Face) (a : Aspect) (h : a = .proceed → s.halt.state = .running) :
    Edits s (s.placeFace f a) := by
  refine (Edit.queue _ (.place _ fun hm => .inl (h ?_))).once
  cases a with
  | proceed => rfl
  | stop | prepare | closed => exact absurd hm Bool.false_ne_true

theorem State.deriveFace_edits (f : Face) : Edits s (s.deriveFace f) := by
  unfold State.deriveFace
  dsimp only
  split
  · exact .refl
  · rename_i hne
    have hguard : s.aspectFor f = .proceed → s.halt.state = .running ∧ (s.face (farFace f)).commanded ≠ .proceed :=
      fun ha => s.running_of_mayProceed (s.mayProceed_of_aspect ha (ha ▸ hne))
    exact (Edit.commanded f _ hguard).once.trans (State.placeFace_edits _ f _ fun ha => (hguard ha).1)

theorem State.deriveFaces_edits : Edits s s.deriveFaces := Edits.foldl (fun t f => t.deriveFace_edits f) _ s

theorem State.requestProceed_edits (f : Face) (n : Nat) (st : Step) : Edits s (s.requestProceed f n st) :=
  (Edit.face f { s.face f with request := some (n, st) } rfl).once.trans (State.deriveFace_edits _ f)

theorem State.answerStopWait_edits (f : Face) : Edits s (s.answerStopWait f) := by
  unfold State.answerStopWait
  split
  · split
    · exact (Edit.face f { s.face f with stopWait := none } rfl).once.trans (State.emit_edits _ _)
    · exact .refl
  · exact .refl

theorem State.requestFaceStop_edits (f : Face) (n : Nat) (st : Step) : Edits s (s.requestFaceStop f n st) := by
  unfold State.requestFaceStop
  dsimp only
  have h := (Edit.face (s := s) f { s.face f with request := none } rfl).once.trans (State.deriveFace_edits _ f)
  generalize (s.setFace f { s.face f with request := none }).deriveFace f = t at h ⊢
  exact (h.trans (Edit.face f { t.face f with stopWait := some (n, st) } rfl).once).trans
    (State.answerStopWait_edits _ f)

theorem State.withdrawStopWait_edits (f : Face) (n : Nat) : Edits s (s.withdrawStopWait f n) := by
  unfold State.withdrawStopWait
  split
  · split
    · exact (Edit.face f { s.face f with stopWait := none } rfl).once
    · exact .refl
  · exact .refl

theorem State.lampFailed_edits (f : Face) : Edits s (s.lampFailed f) := by
  unfold State.lampFailed
  dsimp only
  have hraise := s.raiseFault_edits .lampFail (.face f) true true (.gate f.gate) (s.stepAtGate f.gate) (by simp)
  generalize s.raiseFault .lampFail (.face f) true true (.gate f.gate) (s.stepAtGate f.gate) = t at hraise ⊢
  have hstop := (hraise.trans (Edit.face f { t.face f with request := none } rfl).once).trans
    (State.deriveFace_edits _ f)
  split
  · split
    · exact hstop.trans (State.emit_edits _ _)
    · exact hstop
  · exact hraise

theorem State.loseFaces_edits (k : Station) : Edits s (s.loseFaces k) :=
  (Edit.face ⟨k, .upper⟩ (s.face ⟨k, .upper⟩).lost rfl).once.trans
    (Edit.face ⟨k, .lower⟩ ((s.setFace ⟨k, .upper⟩ (s.face ⟨k, .upper⟩).lost).face ⟨k, .lower⟩).lost rfl).once

theorem State.dropFaceRequests_edits : Edits s s.dropFaceRequests :=
  Edits.foldl (fun t f => (Edit.face f { t.face f with request := none, stopWait := none } rfl).once) _ s

/-! ### Stations and polls (R68 to R84) -/

theorem State.setPoll_edits (p : Option Poll) : Edits s (s.setPoll p) :=
  (Edit.line { s.line with poll := p } rfl).once
theorem State.setSlot_edits (k : Option Station) : Edits s (s.setSlot k) :=
  (Edit.line { s.line with slot := k, alarm := false } rfl).once
theorem State.markAlarm_edits : Edits s s.markAlarm :=
  (Edit.line { s.line with alarm := true } rfl).once

theorem State.noticeStation_edits (k : Station) (v : Option Verdict) : Edits s (s.noticeStation k v) :=
  s.notify_edits _ _ _

theorem State.stationMissing_edits (k : Station) : Edits s (s.stationMissing k) :=
  (s.forgetPositions_edits k).trans (State.loseFaces_edits _ k)

theorem State.stationUnsynced_edits (k : Station) : Edits s (s.stationUnsynced k) :=
  (((s.loseReadings_edits k).trans (State.forgetPositions_edits _ k)).trans (State.loseInputs_edits _ k)).trans
    (State.loseFaces_edits _ k)

theorem State.stationGone_edits (k : Station) : Edits s (s.stationGone k) :=
  ((s.stationUnsynced_edits k).trans (State.loseMovements_edits _ k)).trans (State.emit_edits _ _)

theorem State.stationEffects_edits (k : Station) (st : StationState) : Edits s (s.stationEffects k st) := by
  cases st with
  | online => exact .refl
  | missing => exact s.stationMissing_edits k
  | unsynced => exact s.stationUnsynced_edits k
  | lost | resetting => exact s.stationGone_edits k

theorem State.enterStation_edits (k : Station) (st : StationState) (n : Nat)
    (h : (s.station k).fits → StationRec.fits { s.station k with state := st, failed := n }) :
    Edits s (s.enterStation k st n) := by
  unfold State.enterStation
  dsimp only
  have hset := (Edit.station k st n h).once
  split
  · exact hset
  · exact (hset.trans (State.stationEffects_edits _ k st)).trans (State.noticeStation_edits _ k none)

theorem StationRec.fits_failed {r : StationRec} (h : r.fits) :
    StationRec.fits { r with state := afterFailed r.state (min 5 (r.failed + 1)), failed := min 5 (r.failed + 1) } := by
  obtain ⟨st, n, q⟩ := r
  obtain ⟨hle, hlost, hon, hmiss⟩ := h
  dsimp only at hle hlost hon hmiss ⊢
  unfold StationRec.fits afterFailed
  split
  · rename_i h5
    exact ⟨Nat.min_le_left _ _, ⟨fun _ => by dsimp only; omega, fun _ => rfl⟩, by simp, by simp⟩
  · rename_i h5
    have hn : n < 4 := by omega
    cases st with
    | lost => exact absurd (hlost.mp rfl) (by omega)
    | unsynced | online | missing | resetting =>
      refine ⟨Nat.min_le_left _ _, ⟨by simp, fun h => ?_⟩, by simp, fun _ => ?_⟩ <;> dsimp only at * <;> omega

theorem State.countFailure_edits (k : Station) : Edits s (s.countFailure k) :=
  s.enterStation_edits k _ _ StationRec.fits_failed

theorem State.failCarried_edits (k : Station) : Edits s (s.failCarried k) := by
  unfold State.failCarried
  split
  · exact .refl
  · have hmark : Edits s (s.setQueue k (failPolled (s.station k).queue)) := by
      refine (Edit.queue k (.marks ?_)).once
      rw [failPolled, List.map_map]
      refine List.map_congr_left fun e _ => ?_
      rw [Function.comp_apply]
      split <;> rfl
    dsimp only
    split
    · exact hmark.trans (State.markUnanswered_edits _ _ _)
    · exact hmark

theorem State.failPoll_edits (k : Station) : Edits s (s.failPoll k) :=
  ((s.setPoll_edits none).trans (State.failCarried_edits _ k)).trans (State.countFailure_edits _ k)

theorem State.abortRound_edits : Edits s s.abortRound := by
  unfold State.abortRound
  dsimp only
  refine Relation.ReflTransGen.trans ?_ (State.setSlot_edits _ none)
  split
  · exact (s.setPoll_edits none).trans (State.failCarried_edits _ _)
  · exact .refl

theorem State.beginPoll_edits (k : Station) : Edits s (s.beginPoll k) := by
  unfold State.beginPoll
  dsimp only
  have hslot := s.setSlot_edits (some k)
  split
  · exact hslot.trans (State.setPoll_edits _ _)
  · refine (hslot.trans (Edit.queue k (.marks ?_)).once).trans (State.setPoll_edits _ _)
    cases ((s.setSlot (some k)).station k).queue <;> rfl

theorem State.takeVerdict_edits (k : Station) (v : Option Verdict) : Edits s (s.takeVerdict k v) := by
  unfold State.takeVerdict
  split
  · have hdrop : Edits s (s.setQueue k (dropPolled (s.station k).queue)) :=
      (Edit.queue k (.fewer List.filter_sublist)).once
    dsimp only
    split
    · exact hdrop.trans (State.itemVerdict_edits _ _ _ _)
    · exact hdrop
  · exact .refl

theorem StationRec.fits_fresh {r : StationRec} {st : StationState} (h : st = .online ∨ st = .unsynced ∨ st = .resetting) :
    StationRec.fits { r with state := st, failed := 0 } := by
  rcases h with rfl | rfl | rfl <;> simp [StationRec.fits]

theorem State.resetTaken_edits (k : Station) : Edits s (s.resetTaken k) := by
  unfold State.resetTaken
  dsimp only
  have hdrop : Edits s (s.setQueue k (dropPolled (s.station k).queue)) :=
    (Edit.queue k (.fewer List.filter_sublist)).once
  exact ((hdrop.trans (Edit.station k .resetting 0 fun _ => StationRec.fits_fresh (by simp)).once).trans
    (State.stationGone_edits _ k)).trans (State.noticeStation_edits _ k _)

theorem State.resetRefused_edits (k : Station) (c : Option Command) (v : Option Verdict) :
    Edits s (s.resetRefused k c v) := by
  unfold State.resetRefused
  split
  · exact s.noticeStation_edits k v
  · exact .refl

theorem State.unsyncAll_edits : Edits s s.unsyncAll := by
  refine Edits.foldl (fun t k => ?_) _ s
  split
  · exact .refl
  · exact t.enterStation_edits k _ _ fun _ => StationRec.fits_fresh (by simp)

theorem State.changeRate_edits (r : LineRate) : Edits s (s.changeRate r) :=
  (s.abortRound_edits.trans (Edit.line { s.abortRound.line with rate := r } rfl).once).trans
    (State.unsyncAll_edits _)

theorem State.emptyQueues_edits : Edits s s.emptyQueues :=
  Edits.foldl (fun _ k => (Edit.queue k (.fewer (List.nil_sublist _))).once) _ s

theorem State.lineHalted_edits (c : HaltCause) : Edits s (s.lineHalted c) := by
  unfold State.lineHalted
  have hpulse : Edits s (if c = .lineHalt then s
      else s.abortRound.setLine { s.abortRound.line with pulse := true }) := by
    split
    · exact .refl
    · exact s.abortRound_edits.trans (Edit.line { s.abortRound.line with pulse := true } rfl).once
  dsimp only
  generalize (if c = .lineHalt then s else s.abortRound.setLine { s.abortRound.line with pulse := true }) = t
    at hpulse ⊢
  have hempty := hpulse.trans t.emptyQueues_edits
  split
  · exact hempty.trans (t.emptyQueues.changeRate_edits .slow)
  · exact hempty

theorem State.placeStationReset_edits (k : Station) : Edits s (s.placeStationReset k) :=
  (Edit.queue k .reset).once

end

end Sys2Proof.Machine
end

section
/-! EDITS OF THE TRAFFIC SCHEDULER, THE RUN CONTROLLER AND THE END OF A STEP: every hand-over that is taken is a
sequence of edits, and so is the end of a step but for the entry into HALTED. -/

namespace Sys2Proof.Machine

/-! ### Batches that stay in the table -/

theorem BatchEdit.refl (b : Batch) : BatchEdit b b := ⟨rfl, rfl, rfl, rfl, rfl, id, fun _ h => h⟩

theorem Batch.claims_none {b : Batch} (h : b.step = none) : b.claims = [] := by
  unfold Batch.claims
  rw [h]

theorem Batch.claims_some {b : Batch} {r : StepRec} (h : b.step = some r) : b.claims = r.claims := by
  unfold Batch.claims
  rw [h]

/-- A batch whose step record keeps at most its claims. -/
theorem BatchEdit.of_step {b b' : Batch} (hn : b'.number = b.number) (hd : b'.direction = b.direction)
    (hm : b'.members = b.members) (he : b'.edition = b.edition) (hen : b'.entered = b.entered)
    (hr : b.meter.rise ≤ 20000 → b'.meter.rise ≤ 20000)
    (hs : ∀ r', b'.step = some r' → r'.claims = [] ∨ ∃ r, b.step = some r ∧ r'.claims = r.claims) :
    BatchEdit b b' := by
  refine ⟨hn, hd, hm, he, hen, hr, fun c hc => ?_⟩
  cases hb : b'.step with
  | none =>
    rw [Batch.claims_none hb] at hc
    exact absurd hc List.not_mem_nil
  | some r' =>
    rw [Batch.claims_some hb] at hc
    rcases hs r' hb with h | ⟨r, hbr, h⟩
    · rw [h] at hc
      exact absurd hc List.not_mem_nil
    · rwa [Batch.claims_some hbr, ← h]

theorem Meter.close_rise (m : Meter) (l : Option Nat × Bool) (h : m.rise ≤ 20000) : (m.close l).rise ≤ 20000 := by
  unfold Meter.close
  split
  · exact h
  · exact Nat.min_le_left _ _

theorem Meter.begin_rise (m : Meter) (l : Option Nat × Bool) : (m.begin l).rise = m.rise := by
  unfold Meter.begin
  split <;> rfl

theorem BatchEdit.meter (b : Batch) {m : Meter} (h : b.meter.rise ≤ 20000 → m.rise ≤ 20000) :
    BatchEdit b { b with meter := m } := ⟨rfl, rfl, rfl, rfl, rfl, h, fun _ hc => hc⟩

theorem BatchEdit.advance (b : Batch) : BatchEdit b b.advance := by
  unfold Batch.advance
  split
  · refine .of_step rfl rfl rfl rfl rfl id fun r' hr => .inl ?_
    obtain ⟨r, -, rfl⟩ := Option.map_eq_some_iff.mp hr
    rfl
  · exact .of_step rfl rfl rfl rfl rfl id fun r' hr => .inl (Option.some.inj hr ▸ rfl)

section

variable (s : State)

theorem State.modBatch_edits (n : Nat) (f : Batch → Batch) (h : ∀ b, BatchEdit b (f b)) :
    Edits s (s.modBatch n f) := by
  refine (Edit.batches _ fun b _ => ?_).once
  split
  · exact h b
  · exact .refl b

theorem State.modStep_edits (n : Nat) (f : StepRec → StepRec) (h : ∀ r, (f r).claims = [] ∨ (f r).claims = r.claims) :
    Edits s (s.modStep n f) := by
  refine s.modBatch_edits n _ fun b => .of_step rfl rfl rfl rfl rfl id fun r' hr => ?_
  obtain ⟨r, hbr, rfl⟩ := Option.map_eq_some_iff.mp hr
  exact (h r).imp id fun hc => ⟨r, hbr, hc⟩

theorem State.setPhase_edits (n : Nat) (p : Phase) : Edits s (s.setPhase n p) :=
  s.modStep_edits n _ fun _ => .inr rfl

theorem State.batch_mem {n : Nat} {b : Batch} (h : s.batch? n = some b) : b ∈ s.traffic.batches :=
  List.mem_of_find?_eq_some h

theorem State.active_mem {n : Nat} {b : Batch} {r : StepRec} (h : s.active? n = some (b, r)) :
    b ∈ s.traffic.batches := by
  unfold State.active? at h
  split at h
  · rename_i x hx
    split at h
    · split at h
      · exact absurd h (by simp)
      · obtain ⟨rfl, -⟩ := Prod.mk.inj (Option.some.inj h)
        exact s.batch_mem hx
    · exact absurd h (by simp)
  · exact absurd h (by simp)

/-! ### Indications and admissions -/

theorem State.evaluateQueue_edits (d : Direction) : Edits s (s.evaluateQueue d) := by
  obtain ⟨ns, h⟩ := s.evaluateQueue_spec d
  rw [h]
  cases d with
  | up => exact (Edit.nearFull _ s.traffic.nearDown).once.trans (Edit.notices ns).once
  | down => exact (Edit.nearFull s.traffic.nearUp _).once.trans (Edit.notices ns).once

theorem State.evaluateHold_edits : Edits s s.evaluateHold := by
  obtain ⟨ns, h⟩ := s.evaluateHold_spec
  rw [h]
  exact (Edit.receipts s.receipts.nearFull _ s.receipts.repeatTimer).once.trans (Edit.notices ns).once

theorem State.evaluateReceipts_edits : Edits s s.evaluateReceipts := by
  unfold State.evaluateReceipts
  dsimp only
  split
  · exact .refl
  · exact (Edit.receipts _ s.receipts.hold _).once.trans (State.notify_edits _ _ _ _)

theorem State.indications_edits : Edits s s.indications :=
  ((s.evaluateQueue_edits .up).trans (State.evaluateQueue_edits _ .down)).trans (State.evaluateHold_edits _)

/-- An admission that is tested for is an edit. -/
theorem State.admitBatch_edits {u : State} {d : Direction} {ms : List Passage} (h : Admits s u d ms) :
    Edits s (u.admitBatch d ms) := by
  have hu : u.toll = s.toll := by cases h <;> rfl
  cases hc : s.toll.current with
  | none =>
    rw [u.admitBatch_none d ms (hu ▸ hc)]
    cases h with
    | automatic => exact .refl
    | order => exact Edit.discardOrder.once
  | some e =>
    obtain ⟨ns, hns⟩ := u.admitBatch_some (d := d) (ms := ms) (hu ▸ hc)
    rw [hns]
    exact (Edit.admission h hc ns).once

theorem State.testOrder_edits (o : KeeperOrder) (h : s.traffic.order = some o) : Edits s (s.testOrder o) := by
  unfold State.testOrder
  split
  · rename_i hf
    split
    · rename_i ho
      exact s.admitBatch_edits (.order o h hf ho)
    · exact .refl
  · exact Edit.discardOrder.once

theorem State.evaluateAdmission_edits : Edits s s.evaluateAdmission := by
  unfold State.evaluateAdmission
  split
  · exact .refl
  · split
    · exact .refl
    · rename_i o ho
      exact s.testOrder_edits o ho
  · rename_i hm
    split
    · split
      · rename_i d ms h
        exact s.admitBatch_edits (.automatic h hm)
      · exact .refl
    · exact .refl

/-! ### Suspension (R145, R146) -/

theorem State.addReason_edits (n : Nat) (r : Reason) : Edits s (s.addReason n r) := by
  unfold State.addReason
  split
  · exact .refl
  · split
    · exact .refl
    · dsimp only
      refine (s.modBatch_edits n _ fun b => ?_).trans (State.notify_edits _ _ _ _)
      exact ⟨rfl, rfl, rfl, rfl, rfl, id, fun _ hc => hc⟩

theorem addAnswer_edits (n : Nat) (a : MoveAnswer × State) : Edits a.2 (addAnswer n a) := by
  unfold addAnswer
  split
  · exact a.2.addReason_edits n _
  · exact .refl

theorem State.withdrawTarget_edits (st : Step) (p : Phase) : Edits s (s.withdrawTarget st p) := by
  unfold State.withdrawTarget
  split
  · exact s.setTarget_edits _ _
  · exact s.setTarget_edits _ _
  · exact .refl

theorem State.safeRequests_edits (n : Nat) (d : Direction) (st : Step) (p : Phase) :
    Edits s (s.safeRequests n d st p) := by
  have hclose : ∀ path, Edits s (addAnswer n (s.requestMove path .shut (.batch n st))) := fun path =>
    (s.requestMove_edits path .shut (.batch n st)).trans (addAnswer_edits n _)
  unfold State.safeRequests
  split
  · exact hclose _
  · exact hclose _
  · exact hclose _
  · exact s.requestStop_edits _
  · exact s.requestStop_edits _
  · exact ((s.requestStop_edits _).trans (State.requestFaceStop_edits _ _ _ _)).trans
      (State.withdrawStopWait_edits _ _ _)
  · exact (s.requestStop_edits _).trans (State.withdrawStopWait_edits _ _ _)
  · exact .refl

theorem State.makeSafe_edits (b : Batch) : Edits s (s.makeSafe b) := by
  unfold State.makeSafe
  split
  · exact s.modBatch_edits _ _ fun b => ⟨rfl, rfl, rfl, rfl, rfl, id, fun _ hc => hc⟩
  · rename_i r hr
    dsimp only
    have hsafe := (s.withdrawTarget_edits b.current r.phase).trans (State.modBatch_edits _ b.number
      (fun x => { x with preparation := [], step := x.step.map StepRec.halted }) fun x =>
        .of_step rfl rfl rfl rfl rfl id fun r' hr' => by
          obtain ⟨y, -, rfl⟩ := Option.map_eq_some_iff.mp hr'
          exact .inl rfl)
    split
    · exact hsafe.trans (State.safeRequests_edits _ _ _ _ _)
    · exact hsafe

theorem State.suspend_edits (n : Nat) (r : Reason) : Edits s (s.suspend n r) := by
  unfold State.suspend
  split
  · exact .refl
  · split
    · exact s.addReason_edits n r
    · exact (s.addReason_edits n r).trans (State.makeSafe_edits _ _)

/-! ### Metering and the end of a step -/

theorem State.openSegment_edits (n : Nat) : Edits s (s.openSegment n) :=
  s.modBatch_edits n _ fun b => .meter b fun h => (Meter.begin_rise _ _).trans_le h

theorem State.closeSegment_edits (n : Nat) : Edits s (s.closeSegment n) :=
  s.modBatch_edits n _ fun b => .meter b (Meter.close_rise _ _)

theorem State.closeSegments_edits : Edits s s.closeSegments :=
  (Edit.batches _ fun b _ => .meter b (Meter.close_rise _ _)).once

theorem State.startUpClose_edits : Edits s s.startUpClose := by
  unfold State.startUpClose
  split
  · refine (Edit.batches _ fun b _ => ?_).once
    split
    · exact .meter b (Meter.close_rise _ _)
    · exact .refl b
  · exact .refl

theorem State.endWaterStep_edits (b : Batch) (moved : Bool) : Edits s (s.endWaterStep b moved) := by
  unfold State.endWaterStep
  dsimp only
  have hclose : Edits s (if stepItem b.current = .sluice .k0 then s.closeSegment b.number else s) := by
    split
    · exact s.closeSegment_edits _
    · exact .refl
  exact (hclose.trans (State.notify_edits _ _ _ _)).trans (State.modBatch_edits _ _ _ .advance)

/-- The batch, or what has become of it, still stands in the table with its members. -/
def State.holdsMembers (s : State) (b : Batch) : Prop :=
  ∃ x ∈ s.traffic.batches, x.number = b.number ∧ x.members = b.members

theorem State.holdsMembers_of_mem {b : Batch} (h : b ∈ s.traffic.batches) : s.holdsMembers b := ⟨b, h, rfl, rfl⟩

theorem State.completeBatch_edits (b : Batch) (h : s.holdsMembers b) : Edits s (s.completeBatch b) := by
  unfold State.completeBatch
  exact ((((Edit.complete b h).once).trans (State.evaluateReceipts_edits _)).trans (State.notify_edits _ _ _ _)).trans
    (State.markAdmit_edits _)

theorem State.endGateStep_edits (b : Batch) (h : s.holdsMembers b) : Edits s (s.endGateStep b) := by
  unfold State.endGateStep
  dsimp only
  have hdone := s.notify_edits .stepDone b.number [num 1 b.number, num 1 (stepCodeOf b.current), flag false]
  split
  · refine hdone.trans (State.completeBatch_edits _ b ?_)
    rw [State.notify_withNotices]
    exact h
  · exact hdone.trans (State.modBatch_edits _ _ _ .advance)

theorem State.endStep_edits (b : Batch) (h : s.holdsMembers b) : Edits s (s.endStep b) := by
  unfold State.endStep
  split
  · exact s.endWaterStep_edits b true
  · exact s.endGateStep_edits b h

/-! ### A movement request leaves the traffic as it is -/

theorem State.setCommand_traffic (i : Item) (c : CmdState) : (s.setCommand i c).traffic = s.traffic := by
  unfold State.setCommand
  split <;> rfl

theorem State.tryPlace_traffic (i : Item) : (s.tryPlace i).traffic = s.traffic := by
  unfold State.tryPlace
  split
  · split
    · exact State.setCommand_traffic _ _ _
    · rfl
  · rfl

theorem State.supersede_traffic (a b : Owner) : (s.supersede a b).traffic = s.traffic := by
  unfold State.supersede
  split <;> rfl

theorem State.withdrawMove_traffic (i : Item) : (s.withdrawMove i).traffic = s.traffic := by
  unfold State.withdrawMove
  split
  · split <;> rfl
  · rfl

theorem State.requestReverse_traffic (i : Item) (m : Movement) (t : Target) (o : Owner) :
    (s.requestReverse i m t o).2.traffic = s.traffic := by
  unfold State.requestReverse
  split
  · exact State.supersede_traffic _ _ _
  · have hwith : ((if m.queued then s.withdrawMove i else s).supersede m.owner o).traffic = s.traffic := by
      rw [State.supersede_traffic]
      split
      · exact s.withdrawMove_traffic i
      · rfl
    dsimp only
    split
    · exact hwith
    · exact (State.tryPlace_traffic _ i).trans hwith
  · exact (State.tryPlace_traffic _ i).trans (s.supersede_traffic _ _)

theorem State.requestMove_traffic (i : Item) (t : Target) (o : Owner) :
    (s.requestMove i t o).2.traffic = s.traffic := by
  unfold State.requestMove
  split
  · rfl
  · split
    · unfold State.requestNew
      split
      · rfl
      · exact State.tryPlace_traffic _ i
    · split
      · cases o with
        | batch n st => rfl
        | protective => exact State.supersede_traffic _ _ _
      · exact s.requestReverse_traffic i _ t o

/-! ### Steps -/

theorem State.holdsMembers_modStep {b : Batch} (n : Nat) (f : StepRec → StepRec) (h : s.holdsMembers b) :
    (s.modStep n f).holdsMembers b := by
  obtain ⟨x, hx, hn, hm⟩ := h
  refine ⟨_, List.mem_map_of_mem hx, ?_⟩
  split
  · exact ⟨hn, hm⟩
  · exact ⟨hn, hm⟩

theorem State.requestClose_edits (n : Nat) : Edits s (s.requestClose n) := by
  unfold State.requestClose
  split
  · exact .refl
  · rename_i b hb
    dsimp only
    have hmove := (s.setPhase_edits n .closing).trans
      (State.requestMove_edits _ (stepItem b.current) .shut (.batch n b.current))
    split
    · refine hmove.trans (State.endStep_edits _ b ?_)
      unfold State.holdsMembers
      rw [State.requestMove_traffic]
      exact s.holdsMembers_modStep n _ (s.holdsMembers_of_mem (s.batch_mem hb))
    · exact hmove
    · exact hmove.trans (State.suspend_edits _ _ _)

theorem State.enterFlowing_edits (n : Nat) : Edits s (s.enterFlowing n) := s.modStep_edits n _ fun _ => .inr rfl

theorem State.nameTarget_edits (st : Step) : Edits s (s.nameTarget st) := by
  unfold State.nameTarget
  split
  · exact s.setTarget_edits _ _
  · exact .refl

theorem State.requestOpen_edits (b : Batch) : Edits s (s.requestOpen b) := by
  unfold State.requestOpen
  dsimp only
  have hmove := ((s.setPhase_edits b.number .opening).trans (State.nameTarget_edits _ b.current)).trans
    (State.requestMove_edits _ (stepItem b.current) .opened (.batch b.number b.current))
  split
  · exact hmove.trans (State.suspend_edits _ _ _)
  · exact hmove
  · refine hmove.trans (Relation.ReflTransGen.trans ?_ (State.enterFlowing_edits _ _))
    split
    · exact State.openSegment_edits _ _
    · exact .refl

theorem State.stepFault_edits (b : Batch) (k : FaultKind) (c : Chamber) (r : Reason) :
    Edits s (s.stepFault b k c r) :=
  (s.raiseFault_edits k (.chamber c) true true (stepItem b.current) _ (by simp)).trans (State.suspend_edits _ _ _)

theorem State.buildList_edits (b : Batch) (r : StepRec) (c : Chamber) (t : LevelTarget) :
    Edits s (s.buildList b r c t) := by
  unfold State.buildList
  split
  · exact s.stepFault_edits _ _ _ _
  · refine s.modBatch_edits _ _ fun x => .of_step rfl rfl rfl rfl rfl id fun r' hr => ?_
    obtain ⟨y, -, rfl⟩ := Option.map_eq_some_iff.mp hr
    exact .inl rfl

theorem State.makeRoom_edits (b : Batch) (sub : SubStep) : Edits s (s.makeRoom b sub) := by
  refine s.modBatch_edits _ _ fun x => .of_step rfl rfl rfl rfl rfl id fun r' hr => ?_
  obtain ⟨y, -, rfl⟩ := Option.map_eq_some_iff.mp hr
  exact .inl rfl

theorem State.noRoom_edits (b : Batch) (r : StepRec) (path : Item) : Edits s (s.noRoom b r path) := by
  unfold State.noRoom
  split
  · exact s.suspend_edits _ _
  · dsimp only
    split
    · exact s.stepFault_edits _ _ _ _
    · exact s.makeRoom_edits _ _

theorem State.roomCheck_edits (b : Batch) (r : StepRec) (path : Item) : Edits s (s.roomCheck b r path) := by
  unfold State.roomCheck
  split
  · exact s.requestOpen_edits b
  · exact s.setPhase_edits _ _
  · exact s.noRoom_edits b r path

theorem State.waterTests_edits (b : Batch) (r : StepRec) (path : Item) (e : WaterEnd) :
    Edits s (s.waterTests b r path e) := by
  unfold State.waterTests
  split
  · exact s.suspend_edits _ _
  · split
    · exact s.endWaterStep_edits b false
    · split
      · split
        · exact s.roomCheck_edits b r path
        · split
          · exact s.setPhase_edits _ _
          · exact s.buildList_edits b r _ _
      · exact s.roomCheck_edits b r path

theorem State.closeWater_edits (b : Batch) : Edits s (s.closeWater b) :=
  ((s.withdrawTarget_edits b.current .flowing).trans
    (State.modStep_edits _ b.number (fun r => { r with waterLimit := none }) fun _ => .inr rfl)).trans
    (State.requestClose_edits _ _)

theorem State.enterOpen_edits (b : Batch) (g : Station) : Edits s (s.enterOpen b g) := by
  unfold State.enterOpen
  refine Relation.ReflTransGen.trans ?_ (State.requestProceed_edits _ _ _ _)
  exact s.modStep_edits _ _ fun _ => .inr rfl

theorem State.tryReady_edits (b : Batch) (g : Station) : Edits s (s.tryReady b g) := by
  unfold State.tryReady
  split
  · dsimp only
    have hmove := (s.setPhase_edits b.number .opening).trans
      (State.requestMove_edits _ (.gate g) .opened (.batch b.number b.current))
    split
    · exact hmove.trans (State.suspend_edits _ _ _)
    · exact hmove.trans (State.enterOpen_edits _ b g)
    · exact hmove
  · exact .refl

theorem State.enterStopping_edits (b : Batch) (g : Station) : Edits s (s.enterStopping b g) := by
  unfold State.enterStopping
  refine Relation.ReflTransGen.trans ?_ (State.requestFaceStop_edits _ _ _ _)
  exact s.modStep_edits _ _ fun _ => .inr rfl

theorem State.moveReady_edits (b : Batch) (g : Station) : Edits s (s.moveReady b g) := by
  unfold State.moveReady
  refine Relation.ReflTransGen.trans ?_ (State.notify_edits _ _ _ _)
  exact s.modStep_edits _ _ fun _ => .inr rfl

theorem State.takeClaims_edits (b : Batch) (h : s.claimsFree b = true) : Edits s (s.takeClaims b) := by
  unfold State.takeClaims
  dsimp only
  have hclaim := (Edit.claim b h).once
  generalize (s.modStep b.number fun r => { r with claims := stepClaims b.current }) = t at hclaim ⊢
  refine hclaim.trans ?_
  split
  · exact t.waterTests_edits b _ _ _
  · split
    · exact t.enterStopping_edits b _
    · exact (t.setPhase_edits _ _).trans (State.tryReady_edits _ _ _)

/-! ### What is handed over -/

theorem State.batchRoundEnd_edits (n : Nat) : Edits s (s.batchRoundEnd n) := by
  unfold State.batchRoundEnd
  split
  · exact .refl
  · split
    · refine Relation.ReflTransGen.trans ?_ (State.waterTests_edits _ _ _ _ _)
      exact s.modStep_edits _ _ fun _ => .inr rfl
    · split
      · exact s.closeWater_edits _
      · exact .refl
    · exact s.tryReady_edits _ _
    · exact .refl

theorem State.batchGateReport_edits (n : Nat) : Edits s (s.batchGateReport n) := by
  unfold State.batchGateReport
  split
  · exact .refl
  · split
    · exact s.tryReady_edits _ _
    · exact .refl

theorem State.takeComplete_edits (n : Nat) (i : Item) (t : Target) : Edits s (s.takeComplete n i t) := by
  unfold State.takeComplete
  split
  · exact .refl
  · rename_i b r hbr
    split
    · split
      · exact s.endStep_edits b (s.holdsMembers_of_mem (s.active_mem hbr))
      · split
        · exact s.enterOpen_edits _ _
        · exact .refl
      · exact .refl
    · exact .refl

theorem State.takeTaken_edits (n : Nat) (i : Item) (t : Target) : Edits s (s.takeTaken n i t) := by
  unfold State.takeTaken
  dsimp only
  have hopen : Edits s (if i = .sluice .k0 ∧ t = .opened then s.openSegment n else s) := by
    split
    · exact s.openSegment_edits n
    · exact .refl
  generalize (if i = Item.sluice .k0 ∧ t = Target.opened then s.openSegment n else s) = u at hopen ⊢
  refine hopen.trans ?_
  split
  · exact .refl
  · split
    · exact u.enterFlowing_edits n
    · exact .refl

theorem State.takeJoined_edits (i : Item) : Edits s (s.takeJoined i) := by
  unfold State.takeJoined
  split
  · rename_i b hb
    exact s.endStep_edits b (s.holdsMembers_of_mem (List.mem_of_find?_eq_some hb))
  · exact .refl

theorem State.takeFaceStopped_edits (n : Nat) (st : Step) : Edits s (s.takeFaceStopped n st) := by
  unfold State.takeFaceStopped
  split
  · exact .refl
  · split
    · exact s.requestClose_edits n
    · exact .refl

theorem State.takeProceed_edits (f : Face) : Edits s (s.takeProceed f) := by
  refine Edits.foldl (fun t b => ?_) _ s
  split
  · split
    · split
      · exact t.moveReady_edits _ _
      · exact .refl
    · exact .refl
  · exact .refl

theorem State.suspendWhere_edits (p : Batch → Bool) (r : Reason) : Edits s (s.suspendWhere p r) :=
  Edits.foldl (f := fun t (b : Batch) => t.suspend b.number r) (fun t b => t.suspend_edits b.number r) _ s

theorem State.eachBatch_edits {f : State → Nat → State} (h : ∀ t n, Edits t (f t n)) : Edits s (s.eachBatch f) :=
  Edits.foldl h _ s

theorem State.deliver_edits (e : RunEvent) : Edits s (s.deliver e) := by
  cases e with
  | complete n i t => exact s.takeComplete_edits n i t
  | suspend n r => exact s.suspend_edits n r
  | taken n i t => exact s.takeTaken_edits n i t
  | joinedShut i => exact s.takeJoined_edits i
  | faceStopped n st => exact s.takeFaceStopped_edits n st
  | proceedShown f => exact s.takeProceed_edits f
  | suspendItem i r => exact s.suspendWhere_edits _ r
  | suspendStation k r => exact s.suspendWhere_edits _ r
  | disputed c => exact s.suspendWhere_edits _ _
  | gateReport => exact s.eachBatch_edits State.batchGateReport_edits
  | headSluiceShut => exact s.closeSegments_edits
  | roundEnd => exact s.startUpClose_edits.trans (State.eachBatch_edits _ State.batchRoundEnd_edits)

/-! ### The end of a step -/

theorem State.settleOne_edits {t : State} (h : s.settleOne = some t) : Edits s t := by
  unfold State.settleOne at h
  split at h
  · obtain rfl := Option.some.inj h
    exact s.popEvent_edits.trans (State.deliver_edits _ _)
  · split at h
    · rename_i b hb
      obtain rfl := Option.some.inj h
      have hcan := List.find?_some hb
      rw [State.canClaim, Bool.and_eq_true] at hcan
      exact s.takeClaims_edits b hcan.2
    · split at h
      · obtain rfl := Option.some.inj h
        exact (Edit.hand { s.hand with evaluate := false }).once.trans (State.evaluateAdmission_edits _)
      · split at h
        · obtain rfl := Option.some.inj h
          exact (Edit.hand { s.hand with retest := false }).once.trans (State.retest_edits _)
        · exact absurd h (by simp)

theorem State.settleLoop_edits (fuel : Nat) : ∀ s : State, Edits s (State.settleLoop fuel s) := by
  induction fuel with
  | zero => exact fun _ => .refl
  | succ fuel ih =>
    intro s
    unfold State.settleLoop
    split
    · rename_i t ht
      exact (s.settleOne_edits ht).trans (ih t)
    · exact .refl

end

end Sys2Proof.Machine
end

section
/-! DEEDS: what a whole command does, as edits, the updates that are a command's own, and the end of the step. An
invariant that each of these keeps is kept by every command. -/

namespace Sys2Proof.Machine

/-! ### The end of a step -/

/-- An edit, or one of the two updates of an entry into HALTED that no other hand-over makes. -/
inductive Turn (s : State) : State → Prop
  | edit {t : State} (h : Edit s t) : Turn s t
  | halt (c : HaltCause) : Turn s { s with halt := { s.halt with
      state := .halted, causes := [c], entry := c, awaited := Quad.const none } }
  | cancel : Turn s s.cancelMovements

abbrev Turns : State → State → Prop := Relation.ReflTransGen Turn

theorem Turn.once {s t : State} (h : Turn s t) : Turns s t := .single h

theorem Turns.trans {s t u : State} (h : Turns s t) (h' : Turns t u) : Turns s u := Relation.ReflTransGen.trans h h'

theorem Edits.turns {s t : State} (h : Edits s t) : Turns s t := by
  induction h with
  | refl => exact .refl
  | tail _ hab ih => exact ih.trans (Turn.edit hab).once

/-- The state right after the halt record of an entry into HALTED is set. -/
def State.haltedBy (s : State) (c : HaltCause) : State :=
  { s with halt := { s.halt with state := .halted, causes := [c], entry := c, awaited := Quad.const none } }

section

variable (s : State)

/-- R88: what follows the cancellation of the movements at an entry into HALTED. -/
def State.haltTail (s : State) : State :=
  ((s.dropFaceRequests.traffic.batches.map (·.number)).foldl (fun s n => s.emit (.suspend n .halt))
    s.dropFaceRequests).noticeHalt

theorem State.enterHalt_eq (c : HaltCause) :
    s.enterHalt c = (((s.haltedBy c).lineHalted c).cancelMovements).haltTail := rfl

theorem State.haltTail_edits : Edits s s.haltTail :=
  (s.dropFaceRequests_edits.trans (Edits.foldl (fun t _ => t.emit_edits _) _ _)).trans (State.noticeHalt_edits _)

theorem State.enterHalt_turns (c : HaltCause) : Turns s (s.enterHalt c) := by
  rw [State.enterHalt_eq]
  exact ((Turn.halt c).once.trans ((s.haltedBy c).lineHalted_edits c).turns).trans
    (Turn.cancel.once.trans (State.haltTail_edits _).turns)

theorem State.takeCause_turns (c : HaltCause) : Turns s (s.takeCause c) := by
  unfold State.takeCause
  split
  · rename_i h
    split
    · exact .refl
    · exact ((Edit.causes _ h).once.trans (State.noticeHalt_edits _)).turns
  · exact s.enterHalt_turns c

theorem Turns.foldl {α : Type} {f : State → α → State} (h : ∀ s a, Turns s (f s a)) (xs : List α) :
    ∀ s, Turns s (xs.foldl f s) := by
  induction xs with
  | nil => exact fun s => .refl
  | cons x xs ih => exact fun s => (h s x).trans (ih _)

theorem State.takeCauses_turns : Turns s s.takeCauses := by
  unfold State.takeCauses
  exact (Edit.hand { s.hand with toHalt := [] }).once.turns.trans (Turns.foldl (fun t c => t.takeCause_turns c) _ _)

theorem State.finish_turns : Turns s s.finish := by
  unfold State.finish
  dsimp only
  have h1 := (State.settleLoop_edits settleFuel s).turns.trans (State.takeCauses_turns _)
  have h2 := (h1.trans (State.settleLoop_edits settleFuel _).turns).trans (State.takeCauses_turns _)
  exact (h2.trans (State.deriveFaces_edits _).turns).trans (State.indications_edits _).turns

/-! ### What is a command's own -/

/-- The account of a batch that is abandoned, its segment closed. -/
def State.abandonAccount (s : State) (b : Batch) : DayAccount :=
  addAccount s.toll.account (abandonTotals { b with meter := b.meter.close s.meterLevel }
    (s.batchWater { b with meter := b.meter.close s.meterLevel }))

/-- R126: the batch leaves the table, its charge is accounted and its members return. -/
def State.abandoned (s : State) (n : Nat) (b : Batch) : State :=
  ((s.setAccount (s.abandonAccount b)).removeBatch n).returnMembers { b with meter := b.meter.close s.meterLevel }

/-- R107: the record leaves its queue, and an order that names it is discarded. -/
def State.withdrawn (s : State) (n : Nat) (p : Passage) : State :=
  if s.orderHolds n then (s.removeQueued p).discardOrder else s.removeQueued p

/-- R102: the traffic with a new record in its place. -/
def State.addedTraffic (s : State) (p : Passage) : Traffic :=
  { s.traffic.withQueue p.direction (placePassage p (s.queueOf p.direction)) with
    nextPassage := nextNumber 65535 p.number, nextStamp := s.traffic.nextStamp + 1 }

/-- R107: the traffic without a record and without an order that names it. -/
def State.withdrawnTraffic (s : State) (n : Nat) (p : Passage) : Traffic :=
  { s.traffic.withQueue p.direction ((s.queueOf p.direction).filter fun q => q.number != p.number) with
    order := if s.orderHolds n then none else s.traffic.order }

/-- R126: the traffic with a batch out of the table and its members back in their queue. -/
def State.abandonedTraffic (s : State) (n : Nat) (b : Batch) : Traffic :=
  { s.traffic.withQueue b.direction
      (b.members.foldl (fun q p => placePassage (returned p) q) (s.queueOf b.direction)) with
    batches := s.traffic.batches.filter fun b => b.number != n }

theorem State.addPassage_eq (p : Passage) : s.addPassage p = s.setTraffic (s.addedTraffic p) := by
  unfold State.addPassage
  rw [State.setQueueOf_eq]
  rfl

theorem State.withdrawn_eq (n : Nat) (p : Passage) : s.withdrawn n p = s.setTraffic (s.withdrawnTraffic n p) := by
  unfold State.withdrawn State.removeQueued State.withdrawnTraffic
  rw [State.setQueueOf_eq]
  split <;> rfl

theorem State.queueOf_setBatches (bs : List Batch) (d : Direction) : (s.setBatches bs).queueOf d = s.queueOf d := by
  cases d <;> rfl

theorem State.abandoned_eq (n : Nat) (b : Batch) :
    s.abandoned n b = (s.setAccount (s.abandonAccount b)).setTraffic (s.abandonedTraffic n b) := by
  unfold State.abandoned State.returnMembers State.abandonedTraffic
  rw [State.setQueueOf_eq, State.removeBatch, State.queueOf_setBatches]
  cases b.direction <;> rfl

/-- An update that a command makes itself, with what its rule has tested. -/
inductive OwnEdit (s : State) : State → Prop
  | face (f : Face) : OwnEdit s (s.placeFace f (s.face f).commanded)
  | reach (t : Nat) : OwnEdit s (s.reach t)
  | link (fr : List Octet) (os : List ConsoleFrame) (h : s.console.order.length ≤ 8 → os.length ≤ 8) :
      OwnEdit s (s.setConsole { s.console with fragment := fr, order := os })
  | limits (a : MovementLimits) : OwnEdit s { s with mach := { s.mach with limits := clampMovementLimits a } }
  | modes (q : Quad InputModes) : OwnEdit s { s with mach := { s.mach with modes := q } }
  | timing (a : FaultTiming) : OwnEdit s { s with mach := { s.mach with timing := clampFaultTiming a } }
  | interval (v : Nat) : OwnEdit s { s with signal := { s.signal with interval := clampSignalInterval v } }
  | clearHalt (h : s.halt.state = .halted) : OwnEdit s
      { s with halt := { s.halt with state := .recovering, causes := [], awaited := s.awaitedSet } }
  | heard (q : Quad (Option Bool)) (h : s.halt.state = .recovering) (hq : allHeard q = false) :
      OwnEdit s { s with halt := { s.halt with awaited := q } }
  | running (h : s.halt.state = .recovering) :
      OwnEdit s { s with halt := { s.halt with state := .running, awaited := Quad.const none } }
  | renumber : OwnEdit s s.renumber
  | register (a : VesselArgs) (d : Direction) (p : Priority) (hm : measuresValid a = true)
      (hq : s.charge d < Config.queueCapacity) :
      OwnEdit s (s.setTraffic (s.addedTraffic (s.newPassage a d p)))
  | withdraw (n : Nat) (p : Passage) (hp : s.queued? n = some p) :
      OwnEdit s (s.setTraffic (s.withdrawnTraffic n p))
  | queueLimits (m l : Nat) : OwnEdit s ((s.setTraffic { s.traffic with
      margin := clampQueueMargin m, skipLimit := clampSkipLimit l }).lowerAllSkips (clampSkipLimit l))
  | mode (m : FlightMode) (hm : s.traffic.mode ≠ m) : OwnEdit s (s.setTraffic { s.traffic with
      order := if s.traffic.mode = .keeper then none else s.traffic.order, mode := m })
  | admission (a : AdmissionArgs) (f : Bool) : OwnEdit s (s.setTraffic { s.traffic with
      quota := clampQuota a.quota, spacing := clampSpacing a.spacing, followOn := f })
  | order (ns : List Nat) (hr : s.orderRefusal ns = none) : OwnEdit s (s.setTraffic { s.traffic with
      order := some { passages := ns, direction := s.orderDirection ns } })
  | abandon (n : Nat) (b : Batch) (hb : s.batch? n = some b) (he : b.entered = false) : OwnEdit s
      ((s.setAccount (s.abandonAccount b)).setTraffic (s.abandonedTraffic n b))
  | runLimits (a b : Nat) : OwnEdit s
      (s.setTraffic { s.traffic with waterLimit := clampRunLimit a, moveWait := clampRunLimit b })
  | resume (n : Nat) (b : Batch) (hb : s.batch? n = some b) (hs : b.suspended = true) :
      OwnEdit s (s.modBatch n (resumed s.meterLevel))
  | tariff (e : Edition) : OwnEdit s { s with toll := { s.toll with pending := some e } }
  | switch (hr : s.switchRefusal = none) : OwnEdit s { s with toll := switchSlots s.toll }
  | margin (n : Nat) : OwnEdit s { s with receipts := { s.receipts with margin := clampReceiptMargin n } }
  | openDay : OwnEdit s (s.setAccount (openDay s.toll.account s.toll.clock))
  | mask (m : NoticeMask) (ns : List Notice) :
      OwnEdit s (s.setConsole { s.console with mask := m, notices := ns })

/-- One thing a command does: an edit, an update of its own, or the end of the step. -/
inductive Deed (s : State) : State → Prop
  | edit {t : State} (h : Edit s t) : Deed s t
  | own {t : State} (h : OwnEdit s t) : Deed s t
  | finish : Deed s s.finish

abbrev Deeds : State → State → Prop := Relation.ReflTransGen Deed

end

theorem Deeds.trans {s t u : State} (h : Deeds s t) (h' : Deeds t u) : Deeds s u := Relation.ReflTransGen.trans h h'

theorem Edits.deeds {s t : State} (h : Edits s t) : Deeds s t := by
  induction h with
  | refl => exact .refl
  | tail _ hab ih => exact ih.trans (.single (.edit hab))

theorem OwnEdit.deeds {s t : State} (h : OwnEdit s t) : Deeds s t := .single (.own h)

theorem Deeds.finish {s t : State} (h : Deeds s t) : Deeds s t.finish := h.tail .finish

/-- An invariant kept by every turn is kept by the end of a step. -/
theorem Turns.keep {I : State → Prop} (h : ∀ s t, Turn s t → I s → I t) {s t : State} (hst : Turns s t) (hs : I s) :
    I t := by
  induction hst with
  | refl => exact hs
  | tail _ hab ih => exact h _ _ hab ih

/-- An invariant kept by every turn and by every update of a command's own is kept by deeds. -/
theorem Deeds.keep {I : State → Prop} (h : ∀ s t, Turn s t → I s → I t) (ho : ∀ s t, OwnEdit s t → I s → I t)
    {s t : State} (hst : Deeds s t) (hs : I s) : I t := by
  induction hst with
  | refl => exact hs
  | tail _ hab ih =>
    cases hab with
    | edit he => exact h _ _ (.edit he) ih
    | own he => exact ho _ _ he ih
    | finish => exact Turns.keep h (State.finish_turns _) ih

/-! ### Reports and events -/

section

variable (s : State)

theorem State.reportFace_deeds (f : Face) (r : FaceReport) : Deeds s (s.reportFace f r) := by
  unfold State.reportFace
  dsimp only
  have hset : Edits s (s.setFace f { s.face f with
      reported := some r.aspect, lamp := some r.proved
      stopSince := stopSinceAfter s.now (s.face f) r.aspect }) :=
    (Edit.face f { s.face f with
      reported := some r.aspect, lamp := some r.proved
      stopSince := stopSinceAfter s.now (s.face f) r.aspect } rfl).once
  generalize s.setFace f { s.face f with
      reported := some r.aspect, lamp := some r.proved
      stopSince := stopSinceAfter s.now (s.face f) r.aspect } = t at hset ⊢
  have hlamp : Edits t (if (s.face f).lamp = some true ∧ r.proved = false then t.lampFailed f else t) := by
    split
    · exact t.lampFailed_edits f
    · exact .refl
  generalize (if (s.face f).lamp = some true ∧ r.proved = false then t.lampFailed f else t) = u at hlamp ⊢
  have hshown : Edits (u.answerStopWait f)
      (if r.aspect = .proceed then (u.answerStopWait f).emit (.proceedShown f) else u.answerStopWait f) := by
    split
    · exact State.emit_edits _ _
    · exact .refl
  refine (((hset.trans hlamp).trans (u.answerStopWait_edits f)).trans hshown).deeds.trans ?_
  generalize (if r.aspect = Aspect.proceed then (u.answerStopWait f).emit (.proceedShown f)
    else u.answerStopWait f) = v
  split
  · exact (OwnEdit.face f).deeds
  · exact .refl

theorem State.reportFaces_deeds (k : Station) (r : StationReport) : Deeds s (s.reportFaces k r) :=
  (s.reportFace_deeds _ _).trans (State.reportFace_deeds _ _ _)

theorem State.takeAnswer_deeds (k : Station) (p : Poll) (a : Answer) : Deeds s (s.takeAnswer k p a) := by
  unfold State.takeAnswer
  dsimp only
  refine (s.setPoll_edits none).deeds.trans ?_
  generalize s.setPoll none = t
  split
  · exact (t.resetTaken_edits k).deeds
  · have henter := t.enterStation_edits k .online 0 fun _ => StationRec.fits_fresh (by simp)
    have hverdict := (henter.trans (State.storeReadings_edits _ k a.above a.below)).trans
      (State.takeVerdict_edits _ k a.verdict)
    exact ((hverdict.trans (State.resetRefused_edits _ k _ _)).trans (State.reportMachinery_edits _ k _)).deeds.trans
      (State.reportFaces_deeds _ k _)

theorem State.hear_deeds (k : Station) : Deeds s (s.hear k) := by
  unfold State.hear
  split
  · rename_i hrec
    dsimp only
    generalize (if (s.halt.awaited.get k).isSome = true then s.halt.awaited.set k (some true)
      else s.halt.awaited) = q
    split
    · exact (((OwnEdit.running hrec).deeds.trans (State.notify_edits _ _ _ _).deeds).trans
        (State.markAdmit_edits _).deeds).finish
    · exact (OwnEdit.heard q hrec (by simpa using ‹¬allHeard q = true›)).deeds
  · exact .refl

theorem State.answered_deeds (k : Station) (a : Answer) : Deeds s (s.answered k a) := by
  unfold State.answered
  split
  · exact .refl
  · split
    · exact (s.takeAnswer_deeds k _ a).finish.trans (State.hear_deeds _ k)
    · exact (s.failPoll_edits k).deeds.finish

theorem State.alarmArrives_deeds (k : Station) (r : StationReport) : Deeds s (s.alarmArrives k r) := by
  unfold State.alarmArrives
  split
  · exact ((s.markAlarm_edits.trans (State.reportMachinery_edits _ k r)).deeds.trans
      (State.reportFaces_deeds _ k r)).finish
  · split
    · exact s.markAlarm_edits.deeds
    · exact .refl

theorem State.frameArrives_deeds (os : List Octet) : Deeds s (s.frameArrives os) := by
  unfold State.frameArrives
  split
  · exact .refl
  · split
    · exact (s.failPoll_edits _).deeds.finish
    · split
      · exact s.markAlarm_edits.deeds
      · exact .refl

theorem State.endRound_deeds : Deeds s s.endRound :=
  ((((s.setSlot_edits none).trans (State.levelRoundEnd_edits _)).trans (State.emit_edits _ _)).trans
    (State.markRetest_edits _)).deeds.finish

theorem joinOrder_length (order : List ConsoleFrame) (f : ConsoleFrame) (h : order.length ≤ 8) :
    (joinOrder order f).length ≤ 8 := by
  unfold joinOrder
  split
  · rename_i hlt
    rw [List.length_append]
    exact hlt
  · exact h

theorem joinOrder_foldl_length (fs : List ConsoleFrame) :
    ∀ order : List ConsoleFrame, order.length ≤ 8 → (fs.foldl joinOrder order).length ≤ 8 := by
  induction fs with
  | nil => exact fun _ h => h
  | cons f fs ih => exact fun order h => ih _ (joinOrder_length order f h)

theorem State.receive_deeds (os : List Octet) : Deeds s (s.receive os) :=
  (OwnEdit.link _ _ (joinOrder_foldl_length _ _)).deeds

theorem State.dropFragment_deeds : Deeds s s.dropFragment := (OwnEdit.link [] s.console.order id).deeds

theorem State.endSurge_deeds (c : Chamber) : Deeds s (s.endSurge c) := by
  unfold State.endSurge
  split
  · rename_i e _
    exact (OwnEdit.reach e).deeds.trans
      (State.setChamber_edits (s.reach e) c { s.chamber c with surge := none }
        ((s.reach e).levelOk_chamber c)).deeds
  · exact .refl

theorem State.endChangeover_deeds (c : Chamber) : Deeds s (s.endChangeover c) := by
  unfold State.endChangeover
  split
  · split
    · exact ((OwnEdit.reach _).deeds.trans (State.markRetest_edits _).deeds).finish
    · exact .refl
  · exact .refl

theorem State.endStartLimit_deeds (i : Item) : Deeds s (s.endStartLimit i) := by
  unfold State.endStartLimit
  split
  · exact (OwnEdit.reach _).deeds.trans (State.failMovement_edits _ i _).deeds
  · exact .refl

theorem State.endTravelLimit_deeds (i : Item) : Deeds s (s.endTravelLimit i) := by
  unfold State.endTravelLimit
  split
  · exact (OwnEdit.reach _).deeds.trans (State.failMovement_edits _ i _).deeds
  · exact .refl

theorem State.endOverloadBlank_deeds (k : Station) : Deeds s (s.endOverloadBlank k) := by
  unfold State.endOverloadBlank
  split
  · exact .refl
  · dsimp only
    have hset := fun e => (OwnEdit.reach (s := s) e).deeds.trans
      (State.setOverload_edits (s.reach e) k { expiry := none, aside := none }).deeds
    split
    · exact (hset _).trans (State.applyInput_edits _ _ _ _).deeds
    · exact hset _

theorem State.resumeDelayOf_mem {n : Nat} {r : FaultRec} {e : Nat} {k : Station}
    (h : s.resumeDelayOf n = some (r, e, k)) : r ∈ s.mach.faults := by
  unfold State.resumeDelayOf at h
  split at h
  · exact absurd h (by simp)
  · rename_i x hx
    split at h
    · obtain ⟨rfl, -⟩ := Prod.mk.inj (Option.some.inj h)
      exact List.mem_of_find?_eq_some hx
    · exact absurd h (by simp)

theorem State.endResumeDelay_deeds (n : Nat) : Deeds s (s.endResumeDelay n) := by
  unfold State.endResumeDelay
  split
  · rename_i r e k h
    exact (OwnEdit.reach e).deeds.trans ((s.reach e).releaseFault_edits r k (s.resumeDelayOf_mem h)).deeds
  · exact .refl

theorem State.endWaterLimit_deeds (n : Nat) : Deeds s (s.endWaterLimit n) := by
  unfold State.endWaterLimit
  split
  · exact .refl
  · split
    · exact .refl
    · exact (OwnEdit.reach _).deeds.trans (State.stepFault_edits _ _ _ _ _).deeds

theorem State.endMoveWait_deeds (n : Nat) : Deeds s (s.endMoveWait n) := by
  unfold State.endMoveWait
  split
  · exact .refl
  · split
    · exact .refl
    · rename_i e _
      dsimp only
      have hset := (OwnEdit.reach (s := s) e).deeds.trans (State.modStep_edits (s.reach e) n
        (fun r => { r with moveWait := none, overdueSent := true }) fun _ => .inr rfl).deeds
      split
      · exact hset
      · exact hset.trans (State.notify_edits _ _ _ _).deeds

theorem State.intervalElapsed_deeds (f : Face) : Deeds s (s.intervalElapsed f) := by
  unfold State.intervalElapsed
  split
  · split
    · exact (OwnEdit.reach _).deeds.finish
    · exact .refl
  · exact .refl

theorem State.endReceiptsRepeat_deeds : Deeds s s.endReceiptsRepeat := by
  unfold State.endReceiptsRepeat
  split
  · exact .refl
  · rename_i e _
    exact (OwnEdit.reach (s := s) e).deeds.trans ((Edit.receipts s.receipts.nearFull s.receipts.hold
      (some ((s.reach e).after Config.receiptsRepeat))).once.trans (State.notify_edits _ _ _ _)).deeds

theorem ite_deeds {p : Prop} [Decidable p] {t : State} (h : p → Deeds s t) : Deeds s (if p then t else s) := by
  split
  · exact h ‹_›
  · exact .refl

end

/-- An event of a powered part is a sequence of deeds. -/
theorem eventAct_deeds {c : Instr} {act : State → State} (h : eventAct c = some act) (s : State) :
    Deeds s (act s) := by
  cases c <;> simp only [eventAct, reduceCtorEq, Option.some.injEq] at h <;> subst h
  case consoleFrameComplete os => exact s.receive_deeds os
  case consoleFrameGap os => exact (s.receive_deeds os).trans (State.dropFragment_deeds _)
  case frameLengthOutOfRange os => exact s.receive_deeds os
  case pollSlotStart k => exact ite_deeds s fun _ => (s.beginPoll_edits k).deeds
  case goodAnswer k a => exact s.answered_deeds k a
  case pollFailed k => exact ite_deeds s fun _ => (s.failPoll_edits k).deeds.finish
  case alarmFrame k r => exact s.alarmArrives_deeds k r
  case stationFrameDiscarded os => exact s.frameArrives_deeds os
  case roundEnd => exact ite_deeds s fun _ => s.endRound_deeds
  case haltPulseEnd =>
    exact ite_deeds s fun _ => (Edit.line { s.line with pulse := false, slot := none } rfl).once.deeds
  case lineHalt =>
    exact ite_deeds s fun _ => ((Edit.line { s.line with stretch := some true } rfl).once.trans
      (State.handCause_edits _ _)).deeds.finish
  case surgeBlankExpiry c => exact s.endSurge_deeds c
  case changeoverTimerExpiry c => exact s.endChangeover_deeds c
  case startLimitExpiry i => exact ite_deeds s fun _ => (s.endStartLimit_deeds i).finish
  case travelLimitExpiry i => exact ite_deeds s fun _ => (s.endTravelLimit_deeds i).finish
  case overloadBlankExpiry k => exact ite_deeds s fun _ => (s.endOverloadBlank_deeds k).finish
  case resumeDelayExpiry n => exact ite_deeds s fun _ => (s.endResumeDelay_deeds n).finish
  case waterStepLimitExpiry n => exact ite_deeds s fun _ => (s.endWaterLimit_deeds n).finish
  case moveWaitExpiry n => exact s.endMoveWait_deeds n
  case allStopIntervalElapsed f => exact s.intervalElapsed_deeds f
  case receiptsRepeatExpiry => exact s.endReceiptsRepeat_deeds

/-! ### Requests -/

section

variable (s : State)

/-- What a queue waits for of the batches is not changed by a change of the members' records. -/
theorem waiting_map (f : Batch → Batch) (d : Direction) (bs : List Batch)
    (h : ∀ b, (f b).direction = b.direction ∧ (f b).entered = b.entered ∧ (f b).members.length = b.members.length) :
    ((bs.map f).filter fun b => b.direction == d && !b.entered).map (fun b => b.members.length) =
      (bs.filter fun b => b.direction == d && !b.entered).map fun b => b.members.length := by
  induction bs with
  | nil => rfl
  | cons b bs ih =>
    obtain ⟨hd, he, hm⟩ := h b
    rw [List.map_cons, List.filter_cons, List.filter_cons, hd, he]
    split
    · rw [List.map_cons, List.map_cons, hm, ih]
    · exact ih

theorem State.charge_renumber (d : Direction) : s.renumber.charge d = s.charge d := by
  have hq : (s.renumber.queueOf d).length = (s.queueOf d).length := by cases d <;> exact List.length_map _
  unfold State.charge
  rw [hq]
  congr 2
  exact waiting_map _ d s.traffic.batches fun b => ⟨rfl, rfl, List.length_map _⟩

theorem acceptVessel_deeds (a : VesselArgs) (d : Direction) (p : Priority) (hm : measuresValid a = true)
    (hq : s.charge d < Config.queueCapacity) : Deeds s (acceptVessel a d p s).state := by
  have hready : Deeds s s.stampReady ∧ s.stampReady.charge d = s.charge d := by
    unfold State.stampReady
    split
    · exact ⟨OwnEdit.renumber.deeds, s.charge_renumber d⟩
    · exact ⟨.refl, rfl⟩
  unfold acceptVessel accept
  dsimp only
  generalize s.stampReady = t at hready ⊢
  have hreg : Deeds t (t.addPassage (t.newPassage a d p)) := by
    rw [t.addPassage_eq]
    exact (OwnEdit.register a d p hm (hready.2.symm ▸ hq)).deeds
  generalize t.addPassage (t.newPassage a d p) = u at hreg ⊢
  exact ((hready.1.trans hreg).trans ((u.evaluateQueue_edits d).trans (State.markAdmit_edits _)).deeds).finish

theorem State.abandon_eq (n : Nat) (b : Batch) :
    s.abandon n b =
      ((((allFaces.foldl (fun s f => s.withdrawStopWait f n) (s.abandoned n b)).evaluateQueue
        b.direction).evaluateHold).notify .batchComplete n
          (abandonFields { b with meter := b.meter.close s.meterLevel } (s.abandonCharge b))).markAdmit := by
  unfold State.abandon State.abandoned State.abandonAccount State.abandonCharge
  rfl

theorem State.abandon_deeds (n : Nat) (b : Batch) (hb : s.batch? n = some b) (he : b.entered = false) :
    Deeds s (s.abandon n b) := by
  have hown : Deeds s (s.abandoned n b) := by
    rw [s.abandoned_eq]
    exact (OwnEdit.abandon n b hb he).deeds
  rw [State.abandon_eq]
  refine hown.trans (Edits.deeds ?_)
  exact ((((Edits.foldl (fun t f => t.withdrawStopWait_edits f n) _ _).trans (State.evaluateQueue_edits _ _)).trans
    (State.evaluateHold_edits _)).trans (State.notify_edits _ _ _ _)).trans (State.markAdmit_edits _)

/-- R141: the batch with its members moved, before anything follows from it. -/
def State.confirmed (s : State) (b : Batch) (g : Station) : State := s.modBatch b.number fun x => x.confirm g

theorem State.confirm_edits (b : Batch) (g : Station) : Edits (s.confirmed b g) (s.confirm b g) := by
  have h := (State.evaluateQueue_edits (s.confirmed b g) b.direction).trans (State.enterStopping_edits _ b g)
  unfold State.confirm
  dsimp only
  split
  · exact h.trans (State.markAdmit_edits _)
  · exact h

theorem State.changeTrust_edits (c : Chamber) (v : Trust) : Edits s (s.changeTrust c v) := by
  unfold State.changeTrust
  dsimp only
  have hset : ∀ l, Edits s ((s.setChamber c
      { s.chamber c with trust := v, dispute := 0, targetCount := 0, condition := l }).clearEqual c) := fun l =>
    (s.setChamber_edits c { s.chamber c with trust := v, dispute := 0, targetCount := 0, condition := l } fun hok =>
      have ⟨⟨hu, hl, ha, _, _⟩, hret⟩ := s.levelOk_chamber c hok
      ⟨⟨hu, hl, ha, Nat.zero_le _, Nat.zero_le _⟩, hret.1, hret.2⟩).trans (State.clearEqual_edits _ c)
  split
  · exact (hset _).trans (State.notify_edits _ _ _ _)
  · exact hset _

theorem State.ceaseOff_edits (k : Station) (m : InputModes) : Edits s (s.ceaseOff k m) := by
  refine Edits.foldl (fun t i => ?_) _ s
  split
  · exact (Edit.unrecord k i false (by simp)).once
  · exact .refl

theorem chamberConfigOf_fits {a : ChamberArgs} (h : chamberValid a = true) :
    (chamberConfigOf a).low < (chamberConfigOf a).full ∧ (chamberConfigOf a).full < (chamberConfigOf a).high ∧
      (chamberConfigOf a).high < (chamberConfigOf a).crest ∧ (chamberConfigOf a).crest ≤ 20000 := by
  rw [chamberValid] at h
  simp only [Bool.and_eq_true, decide_eq_true_eq] at h
  obtain ⟨⟨⟨⟨-, hcrest⟩, hlf⟩, hfh⟩, hhc⟩ := h
  exact ⟨hlf, hfh, hhc, hcrest⟩

theorem State.configure_edits (c : Chamber) (a : ChamberArgs) (h : chamberValid a = true) :
    Edits s (s.setChamber c ((s.chamber c).configure (chamberConfigOf a))) :=
  s.setChamber_edits c _ fun hok =>
    have ⟨⟨hu, hl, ha, hd, _⟩, _, hk⟩ := s.levelOk_chamber c hok
    ⟨⟨hu, hl, ha, hd, Nat.zero_le _⟩, fun _ hg => Option.some.inj hg ▸ chamberConfigOf_fits h, hk⟩

end

theorem clampLevelSettings_idem (a : LevelSettings) :
    clampLevelSettings (clampLevelSettings a) = clampLevelSettings a := by
  have hc : ∀ lo hi v : Nat, lo ≤ hi → clampTo lo hi (clampTo lo hi v) = clampTo lo hi v := by
    intro lo hi v h
    unfold clampTo
    split_ifs <;> omega
  simp only [clampLevelSettings, hc 50 500 _ (by decide), hc 5 200 _ (by decide), hc 10 300 _ (by decide),
    hc 1 16 _ (by decide), hc 0 1200 _ (by decide)]

/-- What a request's owner does before anything else, where only the state as the request found it says enough to
keep an invariant. -/
inductive Begun (s : State) : Instr → State → Prop
  | same (c : Instr) : Begun s c s
  | confirms (c : Instr) (n : Nat) (b : Batch) (g : Station) (hb : s.batch? n = some b)
      (hr : s.readyToConfirm b g = true) : Begun s c (s.confirmed b g)
  | releases (tag : Octet) (day n : Nat) (rest : List Receipt) (hr : releaseUpTo day n s.receipts.queue = some rest) :
      Begun s (.releaseReceipts tag day n) { s with receipts := { s.receipts with queue := rest } }
  | setsClock (tag : Octet) (n : Nat) (hn : n ≤ 86399) :
      Begun s (.setClock tag n) { s with toll := { s.toll with clock := n } }

/-- A granted request is a sequence of deeds, but for the confirmation of a move. -/
theorem Granted.deeds {s t : State} (h : Granted s t) :
    Deeds s t ∨ ∃ n b g, s.batch? n = some b ∧ s.readyToConfirm b g = true ∧ Deeds (s.confirmed b g) t := by
  cases h with
  | confirm n b g hb hr => exact .inr ⟨n, b, g, hb, hr, (s.confirm_edits b g).deeds.finish⟩
  | chamber c a hv hb =>
    left
    exact ((s.configure_edits c a hv).trans (State.markAdmit_edits _)).deeds.finish
  | levelSettings a =>
    left
    exact (Edit.level { s.level with settings := clampLevelSettings a }
      fun ⟨hl, hc, _⟩ => ⟨hl, hc, clampLevelSettings_idem a⟩).once.deeds
  | trust c v =>
    left
    exact (s.changeTrust_edits c v).deeds
  | limits a =>
    left
    exact (OwnEdit.limits a).deeds
  | inputModes k m =>
    left
    exact ((OwnEdit.modes _).deeds.trans (State.ceaseOff_edits _ k m).deeds)
  | timing a =>
    left
    exact (OwnEdit.timing a).deeds
  | clearFault r hr =>
    left
    exact ((s.dropFault_edits r true).trans (State.afterRemoval_edits _ r)).deeds.finish
  | interval v =>
    left
    exact (OwnEdit.interval v).deeds.finish
  | lineRate r =>
    left
    exact (s.changeRate_edits r).deeds.finish
  | resetStation k =>
    left
    exact (s.placeStationReset_edits k).deeds
  | allStop =>
    left
    exact (s.handCause_edits _).deeds.finish
  | clearHalt =>
    left
    unfold State.clearHalt
    split
    · exact (OwnEdit.clearHalt ‹_›).deeds
    · exact .refl
  | vessel a d p hm hq =>
    left
    exact (acceptVessel_deeds s a d p hm hq)
  | withdraw n p hp =>
    left
    have hown : Deeds s (s.withdrawn n p) := by
      rw [s.withdrawn_eq]
      exact (OwnEdit.withdraw n p hp).deeds
    exact (hown.trans ((State.evaluateQueue_edits _ _).trans (State.markAdmit_edits _)).deeds).finish
  | queueLimits m l =>
    left
    exact ((OwnEdit.queueLimits m l).deeds.trans
      (((State.evaluateQueue_edits _ _).trans (State.evaluateQueue_edits _ _)).trans
        (State.markAdmit_edits _)).deeds).finish
  | mode m hm =>
    left
    have hown : Deeds s ((if s.traffic.mode = .keeper then s.discardOrder else s).setTraffic
        { (if s.traffic.mode = .keeper then s.discardOrder else s).traffic with mode := m }) := by
      have h := (OwnEdit.mode m hm).deeds
      split
      · rwa [if_pos ‹_›] at h
      · rwa [if_neg ‹_›] at h
    exact (hown.trans (State.markAdmit_edits _).deeds).finish
  | admissionSettings a f =>
    left
    exact ((OwnEdit.admission a f).deeds.trans (State.markAdmit_edits _).deeds).finish
  | order ns hr =>
    left
    exact ((OwnEdit.order ns hr).deeds.trans (State.evaluateAdmission_edits _).deeds).finish
  | cancelOrder =>
    left
    exact Edit.discardOrder.once.deeds
  | abandon n b hb he =>
    left
    exact (s.abandon_deeds n b hb he).finish
  | runLimits a b =>
    left
    exact (OwnEdit.runLimits a b).deeds
  | suspend n b hb =>
    left
    exact (s.suspend_edits n _).deeds.finish
  | resume n b hb hs =>
    left
    exact (OwnEdit.resume n b hb hs).deeds.finish
  | tariff e =>
    left
    exact (OwnEdit.tariff e).deeds
  | switch hr =>
    left
    unfold State.switchTariff
    dsimp only
    split
    · exact ((OwnEdit.switch hr).deeds.trans (State.markAdmit_edits _).deeds).finish
    · exact (OwnEdit.switch hr).deeds
  | receiptMargin n =>
    left
    exact ((OwnEdit.margin n).deeds.trans (State.evaluateReceipts_edits _).deeds)
  | closeDay =>
    left
    have h := OwnEdit.openDay.deeds.trans
      (State.evaluateHold_edits (s.setAccount (openDay s.toll.account s.toll.clock))).deeds
    split
    · exact (h.trans (State.markAdmit_edits _).deeds).finish
    · exact h
  | notices m =>
    left
    exact (OwnEdit.mask m _).deeds

/-- What RELEASE RECEIPTS does when the receipts have left the queue. -/
theorem State.release_deeds (s : State) (rest : List Receipt) :
    Deeds { s with receipts := { s.receipts with queue := rest } } (s.release rest).finish :=
  (((State.evaluateReceipts_edits _).trans (State.evaluateHold_edits _)).trans
    (State.markAdmit_edits _)).deeds.finish

/-- What a granted request does begins in one of the four ways, and goes on by deeds. -/
theorem GrantedBy.deeds {c : Instr} {s t : State} (h : GrantedBy s c t) : ∃ u, Begun s c u ∧ Deeds u t := by
  cases h with
  | plain hg =>
    rcases hg.deeds with hd | ⟨n, b, g, hb, hr, hd⟩
    · exact ⟨s, .same c, hd⟩
    · exact ⟨_, .confirms c n b g hb hr, hd⟩
  | release tag day n rest hr => exact ⟨_, .releases tag day n rest hr, s.release_deeds rest⟩
  | clock tag n hn => exact ⟨_, .setsClock tag n hn, .refl⟩

end Sys2Proof.Machine
end

section
/-! INVARIANTS OF STEPS: a property of the state that every turn, every update of a command's own and every start-up
keeps is kept by every step, and so is what it says of the retained state in every copy. -/

namespace Sys2Proof.Machine

/-! ### Deeds and the retained store -/

theorem Edit.store {s t : State} (h : Edit s t) : t.store = s.store := by
  cases h with
  | admission h => cases h <;> rfl
  | _ => rfl

theorem Turn.store {s t : State} (h : Turn s t) : t.store = s.store := by
  cases h with
  | edit h => exact h.store
  | halt c => rfl
  | cancel => rfl

theorem OwnEdit.store {s t : State} (h : OwnEdit s t) : t.store = s.store := by
  cases h <;> rfl

theorem Deeds.store {s t : State} (h : Deeds s t) : t.store = s.store :=
  Deeds.keep (I := fun u => u.store = s.store) (fun _ _ hd hs => hd.store.trans hs)
    (fun _ _ ho hs => ho.store.trans hs) h rfl

/-! ### The copies in the retained store -/

/-- A property of every copy of the retained state in the store. -/
def Store.holds (st : Store) (p : Retained → Prop) : Prop :=
  (∀ r ∈ st.updates, p r) ∧ (∀ i, st.imageA = some i → p i.contents) ∧ ∀ i, st.imageB = some i → p i.contents

theorem State.everyCopy_iff (s : State) (p : Retained → Prop) :
    s.everyCopy p ↔ p s.retainedOf ∧ s.store.holds p := Iff.rfl

section

variable {st : Store} {p : Retained → Prop}

theorem Store.holds.image (h : st.holds p) {n : ImageName} {i : Image} (hi : st.image n = some i) : p i.contents := by
  cases n with
  | a => exact h.2.1 i hi
  | b => exact h.2.2 i hi

theorem Store.holds.update (h : st.holds p) {r : Retained} (hr : p r) :
    Store.holds { st with updates := st.updates ++ [r] } p := by
  refine ⟨fun x hx => ?_, h.2⟩
  rcases List.mem_append.mp hx with hx | hx
  · exact h.1 x hx
  · rw [List.mem_singleton.mp hx]
    exact hr

theorem Store.holds.inUse (h : st.holds p) (n : ImageName) : Store.holds { st with inUse := n } p := h

theorem Store.holds.complete (h : st.holds p) : st.complete.holds p := by
  cases hu : st.updates with
  | nil =>
    unfold Store.complete
    rw [hu]
    exact h
  | cons u rest =>
    have hup : p u := h.1 u (by simp [hu])
    have hrest : ∀ r ∈ rest, p r := fun r hr => h.1 r (by simp [hu, hr])
    rw [Store.complete_cons hu]
    have hnew : ∀ i : Image, some { contents := u, generation := nextGeneration st.generation : Image } = some i →
        p i.contents := fun i hi => Option.some.inj hi ▸ hup
    cases st.inUse with
    | a => exact ⟨hrest, h.2.1, hnew⟩
    | b => exact ⟨hrest, hnew, h.2.2⟩

theorem Store.holds.completeAll (n : Nat) : ∀ {st : Store}, st.holds p → (completeAll n st).holds p := by
  induction n with
  | zero => exact fun h => h
  | succ n ih => exact fun h => ih h.complete

theorem Store.holds.flush (h : st.holds p) : st.flush.holds p := h.completeAll _

theorem Store.holds.powerLost (h : st.holds p) : st.powerLost.holds p := by
  unfold Store.powerLost
  split
  · exact h
  · cases st.inUse with
    | a => exact ⟨by simp, h.2.1, fun i hi => absurd hi (by simp [Store.setImage, otherImage])⟩
    | b => exact ⟨by simp, fun i hi => absurd hi (by simp [Store.setImage, otherImage]), h.2.2⟩

theorem Store.holds_blank (h : p Retained.defaults) : Store.blank.holds p :=
  ⟨by simp [Store.blank], fun i hi => Option.some.inj hi ▸ h, by simp [Store.blank]⟩

end

/-! ### Invariants of steps -/

theorem State.startUpBatches_edits (s : State) : Edits s s.startUpBatches := by
  obtain ⟨ns, hns⟩ := s.startUpBatches_spec
  rw [hns]
  refine Edits.trans (Edit.batches Batch.startUp fun b _ => ?_).once (Edit.notices ns).once
  exact .of_step rfl rfl rfl rfl rfl id fun r' hr => absurd hr (by simp [Batch.startUp])

/-- What an invariant of steps does not read: the power, the running time, the commands waiting, the store, and
the console link but for its mask. -/
def State.sameFlight (s t : State) : Prop :=
  ∃ c st pw n q, c.mask = s.console.mask ∧
    t = { s with console := c, store := st, powered := pw, now := n, pending := q }

/-- A property `J` of states that commands keep, with what it says, `p`, of the retained state; `q` is what is known
besides of the batch table before the command. -/
structure CommandInvariant (J : State → Prop) (p : Retained → Prop) (q : List Batch → Prop := fun _ => True) : Prop where
  acted : ∀ (c : Instr) (act : State → State) (s : State), eventAct c = some act → J s → J (act s)
  granted : ∀ (c : Instr) (s t : State), GrantedBy s c t → q s.traffic.batches → J s → J t
  ticked : ∀ s : State, J s → J { s with toll := { s.toll with clock := advanceClock s.toll.clock } }
  stretched : ∀ (s : State) (v : Option Bool), J s → J (s.setLine { s.line with stretch := v })
  same : ∀ s t, s.sameFlight t → J s → J t
  retained : ∀ s, J s → p s.retainedOf
  defaults : p Retained.defaults
  started : ∀ (r : Retained) (clock now : Nat) (store : Store) (stretch : Option Bool) (start : StartRecord)
    (pending : List Instr), p r → (clock = 0 ∨ ∃ s, J s ∧ s.toll.clock = clock) →
      J (State.startUp r clock now store stretch start pending)

theorem Begun.store {c : Instr} {s u : State} (h : Begun s c u) : u.store = s.store := by
  cases h <;> rfl

theorem GrantedBy.store {c : Instr} {s t : State} (h : GrantedBy s c t) : t.store = s.store := by
  obtain ⟨u, hu, hd⟩ := h.deeds
  exact hd.store.trans hu.store

theorem State.startUp_store (r : Retained) (clock now : Nat) (store : Store) (stretch : Option Bool)
    (start : StartRecord) (pending : List Instr) : ∃ u : State, u.store = store ∧
      State.startUp r clock now store stretch start pending = u.commit r :=
  ⟨_, ((State.startUpBatches_edits _).trans ((State.indications_edits _).trans
    ((State.evaluateReceipts_edits _).trans (State.noticeHalt_edits _)))).deeds.store, rfl⟩

section

variable {J : State → Prop} {p : Retained → Prop} {q : List Batch → Prop} (h : CommandInvariant J p q)

include h

/-- A state and its store keep an invariant. -/
def CommandInvariant.held (_ : CommandInvariant J p q) (s : State) : Prop := J s ∧ s.store.holds p

theorem CommandInvariant.commit {r : Retained} {s : State} (hs : h.held s) : h.held (s.commit r) := by
  rw [State.commit]
  split
  · exact hs
  · exact ⟨h.same _ _ ⟨s.console, _, s.powered, s.now, s.pending, rfl, rfl⟩ hs.1,
      hs.2.update (h.retained s hs.1)⟩

theorem CommandInvariant.of_same {s t : State} (hst : s.sameFlight t) (hstore : t.store = s.store) (hs : h.held s) :
    h.held t := ⟨h.same _ _ hst hs.1, hstore ▸ hs.2⟩

theorem CommandInvariant.of_console {s : State} (c : Console) (hc : c.mask = s.console.mask) (hs : h.held s) :
    h.held (s.setConsole c) := h.of_same (s := s) ⟨c, s.store, s.powered, s.now, s.pending, hc, rfl⟩ rfl hs

theorem CommandInvariant.requestAct (c : Instr) {s : State} (hq : q s.traffic.batches) (hs : h.held s) :
    h.held (requestAct c s).state := by
  rcases requestAct_granted c s with heq | ⟨-, hg⟩
  · rw [heq]
    exact hs
  · exact ⟨h.granted c s _ hg hq hs.1, hg.store ▸ hs.2⟩

theorem CommandInvariant.answered {s : State} (tag kind : Octet) (b : Bool) (c : Instr) (hq : q s.traffic.batches)
    (hs : h.held s) : h.held (s.answerRequest tag kind b (Machine.requestAct c)) := by
  have hpop : h.held s.popRequest := h.of_console _ rfl hs
  exact h.of_console _ rfl (h.commit (r := s.popRequest.retainedOf) (h.requestAct c hq hpop))

theorem CommandInvariant.startUp (r : Retained) (clock now : Nat) {store : Store} (stretch : Option Bool)
    (start : StartRecord) (pending : List Instr) (hr : p r) (hstore : store.holds p)
    (hc : clock = 0 ∨ ∃ s, J s ∧ s.toll.clock = clock) :
    h.held (State.startUp r clock now store stretch start pending) := by
  have hJ := h.started r clock now store stretch start pending hr hc
  obtain ⟨u, hu, heq⟩ := State.startUp_store r clock now store stretch start pending
  refine ⟨hJ, ?_⟩
  have hret := h.retained _ hJ
  rw [heq] at hret ⊢
  rw [State.commit] at hret ⊢
  split
  · exact hu ▸ hstore
  · rename_i hne
    rw [if_neg hne] at hret
    rw [← hu] at hstore
    exact hstore.update hret

theorem CommandInvariant.powerUp {s : State} (hs : h.held s) : h.held s.powerUp := by
  have hlost : h.held (if s.powered then s.losePower else s) := by
    split
    · exact ⟨h.same s _ ⟨s.console, _, false, s.now, s.pending, rfl, rfl⟩ hs.1, hs.2.powerLost⟩
    · exact hs
  unfold State.powerUp
  dsimp only
  generalize (if s.powered = true then s.losePower else s) = u at hlost ⊢
  split
  · rename_i i n hi hn
    rw [hn] at hi
    exact h.startUp _ _ _ _ _ _ (hlost.2.image (n := n) hi) hlost.2 (.inr ⟨u, hlost.1, rfl⟩)
  · exact h.startUp _ _ _ _ _ _ h.defaults (Store.holds_blank h.defaults) (.inl rfl)

theorem CommandInvariant.freeTransmitter {s : State} (hs : h.held s) : h.held s.freeTransmitter := by
  unfold State.freeTransmitter
  split
  · exact h.startUp _ _ _ _ _ _ (h.retained s hs.1) hs.2.flush (.inr ⟨s, hs.1, rfl⟩)
  · refine h.of_console _ ?_ hs
    have hsent : s.console.sent.mask = s.console.mask := by
      unfold Console.sent
      split <;> rfl
    rw [← hsent]
    unfold Console.choose
    split
    · split <;> rfl
    · rfl
    · rfl
    · rfl

theorem CommandInvariant.completeUpdate {s : State} (hs : h.held s) : h.held s.completeUpdate := by
  unfold State.completeUpdate
  split
  · exact hs
  · refine ⟨h.same s _ ⟨{ s.console with reply := s.console.reply.map fun r => { r with waits := r.waits - 1 } },
      s.store.complete, s.powered, s.now, s.pending, rfl, rfl⟩ hs.1, hs.2.complete⟩

theorem CommandInvariant.executed {c : Instr} {s t : State} (hst : Executed s c t) (hq : q s.traffic.batches)
    (hs : h.held s) : h.held t := by
  cases hst with
  | answered hc ht => exact h.answered _ _ _ _ hq hs
  | acted hc hp => exact h.commit ⟨h.acted _ _ s hc hs.1, (eventAct_deeds hc s).store ▸ hs.2⟩
  | refused f code hc ht => exact h.of_console _ rfl hs
  | poweredUp => exact h.powerUp hs
  | powerLost hp => exact ⟨h.same s _ ⟨s.console, _, false, s.now, s.pending, rfl, rfl⟩ hs.1, hs.2.powerLost⟩
  | updateComplete hp => exact h.completeUpdate hs
  | transmitterFreed hp => exact h.freeTransmitter hs
  | ticked => exact ⟨h.ticked s hs.1, hs.2⟩
  | stretched v hc => exact ⟨h.stretched s v hs.1, hs.2⟩
  | idle c => exact hs

/-- A step keeps an invariant of steps, here and in every copy of the retained state. -/
theorem CommandInvariant.step {s t : State} (hq : q s.traffic.batches) (hs : J s) (hp : s.store.holds p)
    (hst : Machine.step s = .next t) :
    J t ∧ t.store.holds p := by
  cases hpend : s.pending with
  | nil =>
    rw [step_of_empty hpend] at hst
    obtain rfl := Host.Outcome.next.inj hst
    exact h.of_same (s := s) ⟨s.console, s.store, s.powered, s.now + 1, _, rfl, rfl⟩ rfl ⟨hs, hp⟩
  | cons c rest =>
    rw [step_of_command hpend] at hst
    exact h.executed (executed_of_exec hst) hq (h.of_same (s := s)
      ⟨s.console, s.store, s.powered, s.now, rest, rfl, rfl⟩ rfl ⟨hs, hp⟩)

end

/-! ### Invariants of turns -/

/-- A property of states that every turn of a hand-over and every update of a command's own keeps. -/
structure StepInvariant (J : State → Prop) (p : Retained → Prop) (q : List Batch → Prop := fun _ => True) : Prop where
  turn : ∀ s t, Turn s t → J s → J t
  own : ∀ s t, OwnEdit s t → J s → J t
  confirm : ∀ (s : State) (n : Nat) (b : Batch) (g : Station), s.batch? n = some b → s.readyToConfirm b g = true →
    q s.traffic.batches → J s → J (s.confirmed b g)
  clock : ∀ (s : State) (n : Nat), n ≤ 86399 → J s → J { s with toll := { s.toll with clock := n } }
  release : ∀ (s : State) (day n : Nat) (rest : List Receipt), releaseUpTo day n s.receipts.queue = some rest → J s →
    J { s with receipts := { s.receipts with queue := rest } }
  same : ∀ s t, s.sameFlight t → J s → J t
  retained : ∀ s, J s → p s.retainedOf
  defaults : p Retained.defaults
  fresh : ∀ (r : Retained) (clock now : Nat) (store : Store) (stretch : Option Bool) (start : StartRecord)
    (pending : List Instr), p r → (clock = 0 ∨ ∃ s, J s ∧ s.toll.clock = clock) →
      ∃ u, Edits u (State.fresh r clock now store stretch start pending).startUpBatches ∧ J u

section

variable {J : State → Prop} {p : Retained → Prop} {q : List Batch → Prop} (h : StepInvariant J p q)

include h

theorem StepInvariant.deeds {s t : State} (hst : Deeds s t) (hs : J s) : J t := hst.keep h.turn h.own hs

theorem StepInvariant.edits {s t : State} (hst : Edits s t) (hs : J s) : J t := hst.turns.keep h.turn hs

theorem StepInvariant.begun {c : Instr} {s u : State} (hu : Begun s c u) (hq : q s.traffic.batches) (hs : J s) : J u := by
  cases hu with
  | same => exact hs
  | confirms _ n b g hb hr => exact h.confirm s n b g hb hr hq hs
  | releases tag day n rest hr => exact h.release s day n rest hr hs
  | setsClock tag n hn => exact h.clock s n hn hs

theorem StepInvariant.command : CommandInvariant J p q where
  acted c act s hc hs := h.deeds (eventAct_deeds hc s) hs
  granted c s t hg hq hs := by
    obtain ⟨u, hu, hd⟩ := hg.deeds
    exact h.deeds hd (h.begun hu hq hs)
  ticked s hs := by
    refine h.clock s _ ?_ hs
    unfold advanceClock
    split <;> omega
  stretched s v hs := h.edits (Edit.line { s.line with stretch := v } rfl).once hs
  same := h.same
  retained := h.retained
  defaults := h.defaults
  started r clock now store stretch start pending hr hc := by
    obtain ⟨u, hu, hJ⟩ := h.fresh r clock now store stretch start pending hr hc
    have hstarted := h.edits ((State.indications_edits _).trans
      ((State.evaluateReceipts_edits _).trans (State.noticeHalt_edits _))) (h.edits hu hJ)
    rw [State.startUp, State.commit_eq]
    exact h.same _ _ ⟨_, _, _, _, _, rfl, rfl⟩ hstarted

/-- A step keeps an invariant of turns, here and in every copy of the retained state. -/
theorem StepInvariant.step {s t : State} (hq : q s.traffic.batches) (hs : J s) (hp : s.store.holds p)
    (hst : Machine.step s = .next t) : J t ∧ t.store.holds p := h.command.step hq hs hp hst

end

end Sys2Proof.Machine
end

section
/-! RULES OVER EVERY COMMAND: what changes the clock, what takes receipts away, and the one update of the retained
store (O14, O15). -/

namespace Sys2Proof.Machine

/-! ### The clock -/

theorem Edit.clock {s t : State} (h : Edit s t) : t.toll.clock = s.toll.clock := by
  cases h with
  | admission h => cases h <;> rfl
  | _ => rfl

theorem Turn.clock {s t : State} (h : Turn s t) : t.toll.clock = s.toll.clock := by
  cases h with
  | edit h => exact h.clock
  | halt c => rfl
  | cancel => rfl

theorem OwnEdit.clock {s t : State} (h : OwnEdit s t) : t.toll.clock = s.toll.clock := by
  cases h <;> rfl

theorem Deeds.clock {s t : State} (h : Deeds s t) : t.toll.clock = s.toll.clock :=
  Deeds.keep (I := fun u => u.toll.clock = s.toll.clock) (fun _ _ hd hs => hd.clock.trans hs)
    (fun _ _ ho hs => ho.clock.trans hs) h rfl

/-! ### The receipts held -/

theorem Edit.receipts_prefix {s t : State} (h : Edit s t) : s.receipts.queue <+: t.receipts.queue := by
  cases h with
  | complete b h => exact List.prefix_append _ _
  | admission h => cases h <;> exact List.prefix_rfl
  | _ => exact List.prefix_rfl

theorem Turn.receipts_prefix {s t : State} (h : Turn s t) : s.receipts.queue <+: t.receipts.queue := by
  cases h with
  | edit h => exact h.receipts_prefix
  | halt c => exact List.prefix_rfl
  | cancel => exact List.prefix_rfl

theorem OwnEdit.receipts_queue {s t : State} (h : OwnEdit s t) : t.receipts.queue = s.receipts.queue := by
  cases h <;> rfl

theorem Deeds.receipts_prefix {s t : State} (h : Deeds s t) : s.receipts.queue <+: t.receipts.queue :=
  Deeds.keep (I := fun u => s.receipts.queue <+: u.receipts.queue) (fun _ _ hd hs => hs.trans hd.receipts_prefix)
    (fun _ _ ho hs => ho.receipts_queue ▸ hs) h List.prefix_rfl

/-! ### Start-up and the owners of requests -/

/-- A start-up is a sequence of deeds from the start-up values, and one update. -/
theorem State.startUp_deeds (r : Retained) (clock now : Nat) (store : Store) (stretch : Option Bool)
    (start : StartRecord) (pending : List Instr) :
    ∃ u, Deeds (State.fresh r clock now store stretch start pending) u ∧
      State.startUp r clock now store stretch start pending = u.commit r :=
  ⟨_, (((State.startUpBatches_edits _).trans (State.indications_edits _)).trans
    ((State.evaluateReceipts_edits _).trans (State.noticeHalt_edits _))).deeds, rfl⟩

theorem State.commit_toll (r : Retained) (s : State) : (s.commit r).toll = s.toll := by
  rw [State.commit_eq]

theorem State.commit_receipts (r : Retained) (s : State) : (s.commit r).receipts = s.receipts := by
  rw [State.commit_eq]

theorem State.restartNow_deeds (s : State) : ∃ u v r, Deeds u v ∧ s.restartNow = v.commit r ∧
    u.toll.clock = s.toll.clock ∧ u.receipts.queue = s.receipts.queue := by
  obtain ⟨v, hv, he⟩ := State.startUp_deeds s.retainedOf s.toll.clock s.now s.store.flush
    (s.line.stretch.map fun _ => false)
    { kind := .restart, outcome := .notTested, generation := s.store.flush.generation } s.pending
  exact ⟨_, v, _, hv, he, rfl, rfl⟩

theorem State.freeTransmitter_clock (s : State) : s.freeTransmitter.toll.clock = s.toll.clock := by
  unfold State.freeTransmitter
  split
  · obtain ⟨u, v, r, hv, he, hc, -⟩ := s.restartNow_deeds
    rw [he, State.commit_toll, hv.clock, hc]
  · rfl

theorem State.freeTransmitter_receipts (s : State) : s.receipts.queue <+: s.freeTransmitter.receipts.queue := by
  unfold State.freeTransmitter
  split
  · obtain ⟨u, v, r, hv, he, -, hq⟩ := s.restartNow_deeds
    rw [he, State.commit_receipts, ← hq]
    exact hv.receipts_prefix
  · exact List.prefix_rfl

theorem State.answerRequest_toll (s : State) (tag kind : Octet) (b : Bool) (act : State → Result) :
    (s.answerRequest tag kind b act).toll = (act s.popRequest).state.toll := by
  simp only [State.answerRequest, State.setConsole, State.commit_toll]

theorem State.answerRequest_receipts (s : State) (tag kind : Octet) (b : Bool) (act : State → Result) :
    (s.answerRequest tag kind b act).receipts = (act s.popRequest).state.receipts := by
  simp only [State.answerRequest, State.setConsole, State.commit_receipts]

theorem Begun.clock {c : Instr} {s u : State} (h : Begun s c u) :
    u.toll.clock = s.toll.clock ∨ ∃ tag time, c = .setClock tag time := by
  cases h with
  | setsClock tag n hn => exact .inr ⟨tag, n, rfl⟩
  | _ => exact .inl rfl

theorem Begun.receipts {c : Instr} {s u : State} (h : Begun s c u) :
    s.receipts.queue <+: u.receipts.queue ∨ ∃ tag day n, c = .releaseReceipts tag day n := by
  cases h with
  | releases tag day n rest hr => exact .inr ⟨tag, day, n, rfl⟩
  | _ => exact .inl List.prefix_rfl

theorem GrantedBy.clock_cases {c : Instr} {s t : State} (h : GrantedBy s c t) :
    t.toll.clock = s.toll.clock ∨ ∃ tag time, c = .setClock tag time := by
  obtain ⟨u, hu, hd⟩ := h.deeds
  exact hu.clock.imp_left hd.clock.trans

theorem GrantedBy.receipts_cases {c : Instr} {s t : State} (h : GrantedBy s c t) :
    s.receipts.queue <+: t.receipts.queue ∨ ∃ tag day n, c = .releaseReceipts tag day n := by
  obtain ⟨u, hu, hd⟩ := h.deeds
  exact hu.receipts.imp_left fun hp => hp.trans hd.receipts_prefix

theorem requestAct_clock (c : Instr) (s : State) :
    (requestAct c s).state.toll.clock = s.toll.clock ∨ ∃ tag time, c = .setClock tag time := by
  rcases requestAct_granted c s with h | ⟨-, h⟩
  · exact .inl (by rw [h])
  · exact h.clock_cases

theorem requestAct_receipts (c : Instr) (s : State) :
    s.receipts.queue <+: (requestAct c s).state.receipts.queue ∨ ∃ tag day n, c = .releaseReceipts tag day n := by
  rcases requestAct_granted c s with h | ⟨-, h⟩
  · exact .inl (by rw [h])
  · exact h.receipts_cases

theorem requestAct_store (c : Instr) (s : State) : (requestAct c s).state.store = s.store := by
  rcases requestAct_granted c s with h | ⟨-, h⟩
  · rw [h]
  · exact h.store

/-! ### The two rules -/

theorem Executed.clock {c : Instr} {s t : State} (h : Executed s c t) (hne : t.toll.clock ≠ s.toll.clock) :
    c = .clockTick ∨ c = .powerOn ∨ ∃ tag time, c = .setClock tag time := by
  cases h with
  | answered hc ht =>
    rw [State.answerRequest_toll] at hne
    exact .inr (.inr ((requestAct_clock c s.popRequest).resolve_left hne))
  | acted hc hp =>
    rw [State.commit_toll] at hne
    exact absurd (eventAct_deeds hc s).clock hne
  | poweredUp => exact .inr (.inl rfl)
  | ticked => exact .inl rfl
  | transmitterFreed hp => exact absurd s.freeTransmitter_clock hne
  | updateComplete hp =>
    refine absurd ?_ hne
    unfold State.completeUpdate
    split <;> rfl
  | refused f code hc ht => exact absurd rfl hne
  | powerLost hp => exact absurd rfl hne
  | stretched v hc => exact absurd rfl hne
  | idle c => exact absurd rfl hne

theorem Executed.receipts {c : Instr} {s t : State} (h : Executed s c t) (hon : c ≠ .powerOn)
    (hr : ∀ tag day n, c ≠ .releaseReceipts tag day n) : s.receipts.queue <+: t.receipts.queue := by
  cases h with
  | answered hc ht =>
    rw [State.answerRequest_receipts]
    exact (requestAct_receipts c s.popRequest).resolve_right fun ⟨tag, day, n, h⟩ => hr tag day n h
  | acted hc hp =>
    rw [State.commit_receipts]
    exact (eventAct_deeds hc s).receipts_prefix
  | poweredUp => exact absurd rfl hon
  | transmitterFreed hp => exact s.freeTransmitter_receipts
  | updateComplete hp =>
    unfold State.completeUpdate
    split <;> exact List.prefix_rfl
  | ticked | refused f code hc ht | powerLost hp | stretched v hc | idle c => exact List.prefix_rfl

/-- Settles O14: no deed moves the clock, and none takes a receipt away. -/
theorem clockAndReceiptsStand : Obligations.ClockAndReceiptsStand :=
  ⟨fun _ _ _ h hne => (executed_of_exec h).clock hne, fun _ _ _ h hon hr => (executed_of_exec h).receipts hon hr⟩

theorem State.commit_retainedOf (r : Retained) (s : State) : (s.commit r).retainedOf = s.retainedOf := by
  rw [State.commit_eq]
  rfl

/-- What is committed after a state of the same store is one update. -/
theorem State.commit_keptAsOneUpdate {s u : State} (h : u.store = s.store) :
    keptAsOneUpdate s (u.commit s.retainedOf) := by
  rw [keptAsOneUpdate, State.commit_retainedOf, State.commit_eq]
  dsimp only
  rw [h]

theorem keptAsOneUpdate_of_same {s t : State} (hs : t.store = s.store) (hr : t.retainedOf = s.retainedOf) :
    keptAsOneUpdate s t := by
  rw [keptAsOneUpdate, if_pos hr, hs]

theorem State.answerRequest_keptAsOneUpdate (s : State) (tag kind : Octet) (b : Bool) (c : Instr) :
    keptAsOneUpdate s (s.answerRequest tag kind b (requestAct c)) :=
  State.commit_keptAsOneUpdate (s := s.popRequest) (requestAct_store c s.popRequest)

/-- Settles O15: deeds leave the store as it is, and what they leave is committed once. -/
theorem eachCommandIsOneUpdate : Obligations.EachCommandIsOneUpdate := by
  intro c s t h hon hfail hupd htx
  cases executed_of_exec h with
  | answered hc ht => exact s.answerRequest_keptAsOneUpdate _ _ _ c
  | acted hc hp => exact State.commit_keptAsOneUpdate (eventAct_deeds hc s).store
  | poweredUp => exact absurd rfl hon
  | powerLost hp => exact absurd rfl hfail
  | updateComplete hp => exact absurd rfl hupd
  | transmitterFreed hp => exact absurd rfl htx
  | refused f code hc ht => exact keptAsOneUpdate_of_same rfl rfl
  | ticked => exact keptAsOneUpdate_of_same rfl rfl
  | stretched v hc => exact keptAsOneUpdate_of_same rfl rfl
  | idle c => exact keptAsOneUpdate_of_same rfl rfl

end Sys2Proof.Machine
end

section
/-! THE STATION QUEUES: what placing a STOP and an entry does (O57), and the invariant of the station records (O7). -/

namespace Sys2Proof.Machine

/-! ### Placing entries (R77 to R80) -/

theorem sameSlot_iff {a b : Command} : sameSlot a b = true ↔ slotCode a = slotCode b := beq_iff_eq

theorem sameSlot_false_iff {a b : Command} : sameSlot a b = false ↔ slotCode a ≠ slotCode b := beq_eq_false_iff_ne

theorem mem_removeSlot {c : Command} {q : List QueueEntry} {e : QueueEntry} :
    e ∈ removeSlot c q ↔ e ∈ q ∧ slotCode e.command ≠ slotCode c := by
  simp [removeSlot, sameSlot]

theorem removeSlot_sublist (c : Command) (q : List QueueEntry) : (removeSlot c q).Sublist q := List.filter_sublist

/-- A STOP at the head: the one that stands, or a fresh one; the rest is the queue without its slot. -/
theorem placeStop_eq (i : Item) (q : List QueueEntry) :
    ∃ e, placeStop i q = e :: removeSlot (.item i .stops) q ∧ e.command = .item i .stops ∧
      (e ∈ q ∨ ((∀ x ∈ q, x.command ≠ .item i .stops) ∧ e = freshEntry (.item i .stops))) := by
  unfold placeStop
  dsimp only
  split
  · rename_i e he
    exact ⟨e, rfl, by simpa using List.find?_some he, .inl (List.mem_of_find?_eq_some he)⟩
  · rename_i hnone
    exact ⟨_, rfl, rfl, .inr ⟨fun x hx => by simpa using List.find?_eq_none.mp hnone x hx, rfl⟩⟩

theorem placeEntry_of_free {c : Command} {q : List QueueEntry} (h : ∀ e ∈ q, slotCode e.command ≠ slotCode c) :
    placeEntry c q = q ++ [freshEntry c] := by
  induction q with
  | nil => rfl
  | cons e rest ih =>
    have he : sameSlot e.command c = false := sameSlot_false_iff.mpr (h e (by simp))
    rw [placeEntry, he, ih fun x hx => h x (by simp [hx])]
    rfl

/-- The entry of the slot, where it stands first: a STOP gives the slot up, another entry is replaced. -/
theorem placeEntry_of_first {c : Command} {a b : List QueueEntry} {e : QueueEntry}
    (ha : ∀ x ∈ a, slotCode x.command ≠ slotCode c) (he : slotCode e.command = slotCode c) :
    placeEntry c (a ++ e :: b) =
      if isStopCommand e.command then a ++ b ++ [freshEntry c] else a ++ freshEntry c :: b := by
  induction a with
  | nil =>
    rw [List.nil_append, placeEntry, if_pos (sameSlot_iff.mpr he)]
    rfl
  | cons x rest ih =>
    have hx : sameSlot x.command c = false := sameSlot_false_iff.mpr (ha x (by simp))
    rw [List.cons_append, placeEntry, if_neg (by simp [hx]), ih fun y hy => ha y (by simp [hy])]
    split <;> rfl

theorem isStopCommand_iff {c : Command} : isStopCommand c = true ↔ ∃ i, c = .item i .stops := by
  constructor
  · intro h
    unfold isStopCommand at h
    split at h
    · exact ⟨_, rfl⟩
    · exact absurd h (by simp)
  · rintro ⟨i, rfl⟩
    rfl

/-- In a queue with one entry per slot nothing before an entry has its slot. -/
theorem oneEntryPerSlot.before {a b : List QueueEntry} {e : QueueEntry} (h : oneEntryPerSlot (a ++ e :: b)) :
    ∀ x ∈ a, slotCode x.command ≠ slotCode e.command := by
  intro x hx heq
  rw [oneEntryPerSlot, List.map_append, List.map_cons, List.nodup_append] at h
  exact h.2.2 _ (List.mem_map_of_mem hx) _ List.mem_cons_self heq

/-- Settles O57: the equations of `placeStop` and `placeEntry`. -/
theorem stopsGoBeforeEveryEntry : Obligations.StopsGoBeforeEveryEntry := by
  intro q hq
  refine ⟨fun i => ?_, fun c h => placeEntry_of_free h, fun c a e b hab he hstop => ?_,
    fun c a i e b hab he hstop => ?_⟩
  · obtain ⟨e, heq, hc, hin⟩ := placeStop_eq i q
    exact ⟨e, _, heq, hc, hin, removeSlot_sublist _ _, fun x hx => (mem_removeSlot.mp hx).2,
      fun x hx hs => mem_removeSlot.mpr ⟨hx, hs⟩⟩
  · subst hab
    have hno : isStopCommand e.command = false := by
      rw [← Bool.not_eq_true, isStopCommand_iff]
      exact fun ⟨i, hi⟩ => hstop i hi
    rw [placeEntry_of_first (fun x hx => he ▸ hq.before x hx) he, hno]
    rfl
  · subst hab
    rw [placeEntry_of_first (fun x hx => he ▸ hq.before x hx) he, if_pos (isStopCommand_iff.mpr ⟨i, hstop⟩)]
    rfl

/-! ### One entry per slot stays (R77) -/

section

variable {q : List QueueEntry}

theorem oneEntryPerSlot.of_sublist {q' : List QueueEntry} (h : oneEntryPerSlot q) (hs : q'.Sublist q) :
    oneEntryPerSlot q' := List.Nodup.sublist (hs.map _) h

theorem oneEntryPerSlot.stop (h : oneEntryPerSlot q) (i : Item) : oneEntryPerSlot (placeStop i q) := by
  obtain ⟨e, heq, hc, -⟩ := placeStop_eq i q
  rw [heq, oneEntryPerSlot, List.map_cons, List.nodup_cons, hc]
  refine ⟨fun hmem => ?_, h.of_sublist (removeSlot_sublist _ _)⟩
  obtain ⟨x, hx, hs⟩ := List.mem_map.mp hmem
  exact (mem_removeSlot.mp hx).2 hs

theorem oneEntryPerSlot.append (h : oneEntryPerSlot q) {c : Command} (hf : ∀ e ∈ q, slotCode e.command ≠ slotCode c) :
    oneEntryPerSlot (q ++ [freshEntry c]) := by
  rw [oneEntryPerSlot, List.map_append, List.nodup_append]
  refine ⟨h, List.nodup_singleton _, fun x hx y hy heq => ?_⟩
  obtain ⟨e, he, rfl⟩ := List.mem_map.mp hx
  rw [List.map_singleton, List.mem_singleton] at hy
  exact hf e he (heq.trans hy)

theorem oneEntryPerSlot.place (h : oneEntryPerSlot q) (c : Command) : oneEntryPerSlot (placeEntry c q) := by
  by_cases hf : ∀ e ∈ q, slotCode e.command ≠ slotCode c
  · rw [placeEntry_of_free hf]
    exact h.append hf
  · push Not at hf
    obtain ⟨e, he, hs⟩ := hf
    obtain ⟨a, b, rfl⟩ := List.append_of_mem he
    have hbefore : ∀ x ∈ a, slotCode x.command ≠ slotCode c := fun x hx => hs ▸ h.before x hx
    rw [placeEntry_of_first hbefore hs]
    split
    · refine oneEntryPerSlot.append (h.of_sublist (List.Sublist.append_left (List.sublist_cons_self e b) a)) ?_
      intro x hx
      rw [oneEntryPerSlot, List.map_append, List.map_cons, List.nodup_append, List.nodup_cons] at h
      rcases List.mem_append.mp hx with hx | hx
      · exact hbefore x hx
      · exact fun heq => h.2.1.1 (hs ▸ heq ▸ List.mem_map_of_mem (f := fun e => slotCode e.command) hx)
    · have hsame : (a ++ freshEntry c :: b).map (fun e => slotCode e.command) =
          (a ++ e :: b).map fun e => slotCode e.command := by
        rw [List.map_append, List.map_append, List.map_cons, List.map_cons, hs]
        rfl
      rw [oneEntryPerSlot, hsame]
      exact h

theorem oneEntryPerSlot.reset (h : oneEntryPerSlot q) : oneEntryPerSlot (placeReset q) := by
  unfold placeReset
  split
  · exact h
  · rename_i hn
    refine h.append fun e he heq => hn ?_
    exact List.any_eq_true.mpr ⟨e, he, sameSlot_iff.mpr heq⟩

theorem QueueEdit.oneEntryPerSlot {ok : Command → Prop} {q' : List QueueEntry} (hq : QueueEdit ok q q')
    (h : oneEntryPerSlot q) : oneEntryPerSlot q' := by
  cases hq with
  | stop i => exact h.stop i
  | place c hc => exact h.place c
  | reset => exact h.reset
  | fewer hs => exact h.of_sublist hs
  | marks hm =>
    have hsame : q'.map (fun e => slotCode e.command) = q.map fun e => slotCode e.command := by
      have := congrArg (List.map slotCode) hm
      rwa [List.map_map, List.map_map] at this
    rw [Machine.oneEntryPerSlot, hsame]
    exact h

end

/-! ### The station records (O7) -/

/-- The invariant of O7. -/
def State.stationsFit (s : State) : Prop := ∀ k, (s.station k).fits ∧ oneEntryPerSlot (s.station k).queue

theorem State.stationsFit_setQueue {s : State} (h : s.stationsFit) (k : Station) {q : List QueueEntry}
    (hq : oneEntryPerSlot q) : (s.setQueue k q).stationsFit := by
  intro j
  rw [State.station_setQueue]
  split
  · exact ⟨(h k).1, hq⟩
  · exact h j

theorem Edit.stationsFit {s t : State} (he : Edit s t) (h : s.stationsFit) : t.stationsFit := by
  cases he with
  | queue k hq => exact State.stationsFit_setQueue h k (hq.oneEntryPerSlot (h k).2)
  | station k st n hf =>
    intro j
    rw [State.station_setStation]
    split
    · exact ⟨hf (h k).1, (h k).2⟩
    · exact h j
  | line l hl =>
    intro j
    have hj : (s.setLine l).station j = s.station j := congrArg (Quad.get · j) hl
    rw [hj]
    exact h j
  | admission ha => cases ha <;> exact h
  | _ => exact h

theorem OwnEdit.stationsFit {s t : State} (ho : OwnEdit s t) (h : s.stationsFit) : t.stationsFit := by
  cases ho with
  | face f => exact State.stationsFit_setQueue h _ ((h _).2.place _)
  | _ => exact h

theorem stationsFit_invariant : StepInvariant State.stationsFit fun _ => True where
  turn s t ht h := by
    cases ht with
    | edit he => exact he.stationsFit h
    | halt c => exact h
    | cancel => exact h
  own s t ho h := ho.stationsFit h
  confirm _ _ _ _ _ _ _ h := h
  clock _ _ _ h := h
  release _ _ _ _ _ h := h
  same s t hst h := by
    obtain ⟨c, st, pw, n, q, -, rfl⟩ := hst
    exact h
  retained _ _ := trivial
  defaults := trivial
  fresh r clock now store stretch start pending _ _ := by
    refine ⟨_, State.startUpBatches_edits _, fun k => ?_⟩
    have hk : (State.fresh r clock now store stretch start pending).station k =
        { state := .unsynced, failed := 0, queue := [] } := by cases k <;> rfl
    rw [hk]
    exact ⟨by simp [StationRec.fits], List.nodup_nil⟩

/-- Settles O7: each edit of a queue keeps one entry per slot, and each new station state comes with its count. -/
theorem stationRecordsFit : Obligations.StationRecordsFit := fun _ _ h hst =>
  (stationsFit_invariant.step trivial h ⟨fun _ _ => trivial, fun _ _ => trivial, fun _ _ => trivial⟩ hst).1

end Sys2Proof.Machine
end

section
/-! FREE NUMBERS AND THE FAULT TABLE: the number a new record, passage or batch gets is one no other has, and the
invariant of the fault table (O8). -/

namespace Sys2Proof.Machine

/-! ### Free numbers (R51, R100, R119) -/

theorem nextNumber_range {limit n : Nat} (hl : 1 ≤ limit) : 1 ≤ nextNumber limit n ∧ nextNumber limit n ≤ limit := by
  unfold nextNumber
  split <;> omega

/-- The number reached after passing over `i` numbers. -/
def numberAfter (limit n : Nat) : Nat → Nat
  | 0 => n
  | i + 1 => nextNumber limit (numberAfter limit n i)

theorem numberAfter_next (limit n i : Nat) :
    numberAfter limit (nextNumber limit n) i = numberAfter limit n (i + 1) := by
  induction i with
  | zero => rfl
  | succ i ih => exact congrArg (nextNumber limit) ih

theorem numberAfter_eq {limit n : Nat} (h1 : 1 ≤ n) (h2 : n ≤ limit) (i : Nat) :
    numberAfter limit n i = (n - 1 + i) % limit + 1 := by
  induction i with
  | zero => rw [Nat.add_zero, Nat.mod_eq_of_lt (by omega)]; exact (Nat.sub_add_cancel h1).symm
  | succ i ih =>
    have hlt := Nat.mod_lt (n - 1 + i) (show 0 < limit by omega)
    have hsucc : (n - 1 + (i + 1)) % limit = ((n - 1 + i) % limit + 1) % limit := by
      rw [← Nat.add_assoc, Nat.mod_add_mod]
    rw [numberAfter, ih, nextNumber, hsucc]
    split
    · rw [show (n - 1 + i) % limit + 1 = limit by omega, Nat.mod_self]
    · rw [Nat.mod_eq_of_lt (a := (n - 1 + i) % limit + 1) (by omega)]

theorem numberAfter_range {limit n : Nat} (h1 : 1 ≤ n) (h2 : n ≤ limit) (i : Nat) :
    1 ≤ numberAfter limit n i ∧ numberAfter limit n i ≤ limit := by
  cases i with
  | zero => exact ⟨h1, h2⟩
  | succ i => exact nextNumber_range (by omega)

theorem numberAfter_zero {limit i : Nat} (hi : i ≤ limit) : numberAfter limit 0 i = i := by
  induction i with
  | zero => rfl
  | succ i ih => rw [numberAfter, ih (by omega), nextNumber, if_neg (by omega)]

theorem numberAfter_beyond {limit n i : Nat} (hn : limit < n) (hi : i < limit) : numberAfter limit n (i + 1) = i + 1 := by
  have hone : nextNumber limit n = nextNumber limit 0 := by
    rw [nextNumber, nextNumber, if_pos hn.le, if_neg (by omega)]
  rw [← numberAfter_next, hone, numberAfter_next, numberAfter_zero hi]

/-- Fewer steps than there are numbers reach no number twice, from any number on. -/
theorem numberAfter_injective {limit n i j : Nat} (hi : i < limit) (hj : j < limit)
    (h : numberAfter limit n i = numberAfter limit n j) : i = j := by
  rcases Nat.lt_or_ge limit n with hn | hn
  · cases i with
    | zero =>
      cases j with
      | zero => rfl
      | succ j =>
        rw [numberAfter_beyond hn (by omega), numberAfter] at h
        omega
    | succ i =>
      rw [numberAfter_beyond hn (by omega)] at h
      cases j with
      | zero =>
        rw [numberAfter] at h
        omega
      | succ j => rw [h, numberAfter_beyond hn (by omega)]
  · cases n with
    | zero => rwa [numberAfter_zero hi.le, numberAfter_zero hj.le] at h
    | succ n =>
      rw [numberAfter_eq n.succ_pos hn, numberAfter_eq n.succ_pos hn] at h
      have hmod : (n + 1 - 1 + i) ≡ (n + 1 - 1 + j) [MOD limit] := Nat.succ.inj h
      exact Nat.ModEq.eq_of_lt_of_lt (Nat.ModEq.add_left_cancel' _ hmod) hi hj

/-- The first free number, or the last tried when all were held. -/
theorem freeNumber_spec (limit : Nat) (used : List Nat) (fuel : Nat) :
    ∀ n, ∃ i ≤ fuel, freeNumber limit used fuel n = numberAfter limit n i ∧
      (∀ j < i, numberAfter limit n j ∈ used) ∧ (i < fuel → numberAfter limit n i ∉ used) := by
  induction fuel with
  | zero => exact fun n => ⟨0, Nat.le_refl _, rfl, fun j hj => absurd hj (Nat.not_lt_zero _),
      fun h => absurd h (Nat.lt_irrefl _)⟩
  | succ fuel ih =>
    intro n
    by_cases hn : n ∈ used
    · obtain ⟨i, hi, heq, hused, hfree⟩ := ih (nextNumber limit n)
      refine ⟨i + 1, Nat.succ_le_succ hi, ?_, fun j hj => ?_, fun h => ?_⟩
      · rw [freeNumber, if_pos (List.contains_iff_mem.mpr hn), ← numberAfter_next]
        exact heq
      · cases j with
        | zero => exact hn
        | succ j =>
          rw [← numberAfter_next]
          exact hused j (Nat.lt_of_succ_lt_succ hj)
      · rw [← numberAfter_next]
        exact hfree (Nat.lt_of_succ_lt_succ h)
    · refine ⟨0, Nat.zero_le _, ?_, fun j hj => absurd hj (Nat.not_lt_zero _), fun _ => hn⟩
      rw [freeNumber, if_neg (by simpa using hn)]
      rfl

theorem freeNumber_range {limit : Nat} {used : List Nat} {fuel n : Nat} (h1 : 1 ≤ n) (h2 : n ≤ limit) :
    1 ≤ freeNumber limit used fuel n ∧ freeNumber limit used fuel n ≤ limit := by
  obtain ⟨i, -, heq, -⟩ := freeNumber_spec limit used fuel n
  rw [heq]
  exact numberAfter_range h1 h2 i

/-- With fewer numbers held than are tried, the number found is free. -/
theorem freeNumber_not_mem {limit : Nat} {used : List Nat} {fuel n : Nat}
    (hu : used.length ≤ fuel) (hf : fuel < limit) : freeNumber limit used fuel n ∉ used := by
  obtain ⟨i, hi, heq, hused, hfree⟩ := freeNumber_spec limit used fuel n
  rw [heq]
  rcases Nat.lt_or_ge i fuel with hlt | hge
  · exact hfree hlt
  · intro hmem
    have hall : ∀ j ∈ Finset.range (fuel + 1), numberAfter limit n j ∈ used.toFinset := by
      intro j hj
      rw [List.mem_toFinset]
      rcases Nat.lt_or_ge j i with hji | hji
      · exact hused j hji
      · have : j = i := by
          have := Finset.mem_range.mp hj
          omega
        exact this ▸ hmem
    have hcard := Finset.card_le_card_of_injOn (numberAfter limit n) hall fun a ha b hb hab =>
      numberAfter_injective (by have := Finset.mem_range.mp ha; omega)
        (by have := Finset.mem_range.mp hb; omega) hab
    have := used.toFinset_card_le
    rw [Finset.card_range] at hcard
    omega

theorem freeNumber_of_free {limit : Nat} {used : List Nat} {fuel n : Nat} (h : n ∉ used) :
    freeNumber limit used fuel n = n := by
  cases fuel with
  | zero => rfl
  | succ fuel => rw [freeNumber, if_neg (by simpa using h)]

/-! ### The fault table (O8) -/

theorem State.faultOf_eq_none_iff {s : State} {k : FaultKind} {src : FaultSource} :
    s.faultOf k src = none ↔ ∀ r ∈ s.mach.faults, (r.kind, r.source) ≠ (k, src) := by
  simp [State.faultOf, List.find?_eq_none, Prod.ext_iff]

theorem inputFlag_setInputFlag (r : InputFlags) (i x : Input) (v : Bool) :
    inputFlag (setInputFlag r i v) x = if x = i then v else inputFlag r x := by
  cases i <;> cases x <;> rfl

theorem State.unrecorded_setUnrecorded (s : State) (k j : Station) (i x : Input) (v : Bool) :
    (s.setUnrecorded k i v).unrecorded j x = if j = k ∧ x = i then v else s.unrecorded j x := by
  change inputFlag ((s.mach.unrecorded.set k _).get j) x = _
  rw [Quad.get_set]
  by_cases hj : j = k
  · subst hj
    rw [if_pos rfl, inputFlag_setInputFlag]
    simp only [true_and]
    rfl
  · rw [if_neg hj, if_neg fun h => hj h.1]
    rfl

section

variable {s : State}

/-- A table with one record more. -/
theorem State.faultTableFits_append {r : FaultRec} {ns : List Notice} (h : s.faultTableFits)
    (hroom : s.mach.faults.length < 16) (hn : r.number ∉ s.mach.faults.map (·.number))
    (hr : 1 ≤ r.number ∧ r.number ≤ 255) (hf : s.faultOf r.kind r.source = none)
    (hu : ∀ k i, s.unrecorded k i = true → (r.kind, r.source) ≠ (.input i, .station k)) :
    (s.withFault r ns).faultTableFits := by
  obtain ⟨-, hnum, hrange, -, -, hpair, hun⟩ := h
  have hnext := nextNumber_range (limit := 255) (n := r.number) (by decide)
  refine ⟨?_, ?_, fun x hx => ?_, hnext.1, hnext.2, ?_, fun k i hki => ?_⟩
  · change (s.mach.faults ++ [r]).length ≤ 16
    rw [List.length_append]
    exact hroom
  · change ((s.mach.faults ++ [r]).map (·.number)).Nodup
    rw [List.map_append, List.nodup_append]
    refine ⟨hnum, List.nodup_singleton _, fun a ha b hb hab => hn ?_⟩
    rw [List.map_singleton, List.mem_singleton] at hb
    exact hb ▸ hab ▸ ha
  · rcases List.mem_append.mp hx with hx | hx
    · exact hrange x hx
    · rw [List.mem_singleton.mp hx]
      exact hr
  · change ((s.mach.faults ++ [r]).map fun r => (r.kind, r.source)).Nodup
    rw [List.map_append, List.nodup_append]
    refine ⟨hpair, List.nodup_singleton _, fun a ha b hb hab => ?_⟩
    rw [List.map_singleton, List.mem_singleton] at hb
    obtain ⟨x, hx, rfl⟩ := List.mem_map.mp ha
    exact State.faultOf_eq_none_iff.mp hf x hx (hab.trans hb)
  · refine State.faultOf_eq_none_iff.mpr fun x hx => ?_
    rcases List.mem_append.mp hx with hx | hx
    · exact State.faultOf_eq_none_iff.mp (hun k i hki) x hx
    · rw [List.mem_singleton.mp hx]
      exact hu k i hki

/-- A table whose records keep their numbers, kinds and sources. -/
theorem State.faultTableFits_sameKeys {fs : List FaultRec} (h : s.faultTableFits)
    (hs : fs.map (fun r => (r.number, r.kind, r.source)) =
      s.mach.faults.map fun r => (r.number, r.kind, r.source)) : (s.setFaults fs).faultTableFits := by
  obtain ⟨hlen, hnum, hrange, hn1, hn2, hpair, hun⟩ := h
  have hl : fs.length = s.mach.faults.length := by
    have := congrArg List.length hs
    rwa [List.length_map, List.length_map] at this
  have hnums : fs.map (·.number) = s.mach.faults.map (·.number) := by
    have := congrArg (List.map Prod.fst) hs
    rwa [List.map_map, List.map_map] at this
  have hpairs : (fs.map fun r => (r.kind, r.source)) = s.mach.faults.map fun r => (r.kind, r.source) := by
    have := congrArg (List.map Prod.snd) hs
    rwa [List.map_map, List.map_map] at this
  refine ⟨hl.trans_le hlen, hnums ▸ hnum, fun r hr => ?_, hn1, hn2, hpairs ▸ hpair, fun k i hki => ?_⟩
  · have hmem : r.number ∈ s.mach.faults.map (·.number) := hnums ▸ List.mem_map_of_mem hr
    obtain ⟨x, hx, hxr⟩ := List.mem_map.mp hmem
    exact hxr ▸ hrange x hx
  · refine State.faultOf_eq_none_iff.mpr fun r hr heq => ?_
    have hmem : (r.kind, r.source) ∈ s.mach.faults.map fun r => (r.kind, r.source) :=
      hpairs ▸ List.mem_map_of_mem (f := fun r => (r.kind, r.source)) hr
    obtain ⟨x, hx, hxr⟩ := List.mem_map.mp hmem
    exact State.faultOf_eq_none_iff.mp (hun k i hki) x hx (hxr.trans heq)

theorem State.faultTableFits_sublist {fs : List FaultRec} (h : s.faultTableFits) (hs : fs.Sublist s.mach.faults) :
    (s.setFaults fs).faultTableFits := by
  obtain ⟨hlen, hnum, hrange, hn1, hn2, hpair, hun⟩ := h
  refine ⟨hs.length_le.trans hlen, hnum.sublist (hs.map _), fun r hr => hrange r (hs.subset hr), hn1, hn2,
    hpair.sublist (hs.map _), fun k i hki => ?_⟩
  exact State.faultOf_eq_none_iff.mpr fun r hr => State.faultOf_eq_none_iff.mp (hun k i hki) r (hs.subset hr)

theorem State.faultTableFits_unrecord (h : s.faultTableFits) {k : Station} {i : Input} {v : Bool}
    (hv : v = true → s.faultOf (.input i) (.station k) = none) : (s.setUnrecorded k i v).faultTableFits := by
  obtain ⟨hlen, hnum, hrange, hn1, hn2, hpair, hun⟩ := h
  refine ⟨hlen, hnum, hrange, hn1, hn2, hpair, fun j x hjx => ?_⟩
  rw [State.unrecorded_setUnrecorded] at hjx
  split at hjx
  · rename_i hsame
    rw [hsame.1, hsame.2]
    exact hv hjx
  · exact hun j x hjx

theorem State.freshFault_free (h : s.faultTableFits) (k : FaultKind) (src : FaultSource) (l : Bool) (c : Capture) :
    (s.freshFault k src l c).number ∉ s.mach.faults.map (·.number) ∧
      1 ≤ (s.freshFault k src l c).number ∧ (s.freshFault k src l c).number ≤ 255 := by
  obtain ⟨hlen, -, -, hn1, hn2, -⟩ := h
  refine ⟨freeNumber_not_mem ?_ (by decide), freeNumber_range hn1 hn2⟩
  rw [List.length_map]
  omega

theorem State.hasFaultRoom_lt (h : s.hasFaultRoom = true) : s.mach.faults.length < 16 := of_decide_eq_true h

/-- In a table with distinct numbers the record with a number is the one changed. -/
theorem State.changed_keys {old new : FaultRec} (hnd : (s.mach.faults.map (·.number)).Nodup)
    (hn : new.number = old.number)
    (h : ∃ x ∈ s.mach.faults, x.number = new.number ∧ x.kind = new.kind ∧ x.source = new.source) :
    (s.mach.faults.map fun r => if r.number = old.number then new else r).map
        (fun r => (r.number, r.kind, r.source)) =
      s.mach.faults.map fun r => (r.number, r.kind, r.source) := by
  obtain ⟨x, hx, hxn, hxk, hxs⟩ := h
  rw [List.map_map]
  refine List.map_congr_left fun r hr => ?_
  rw [Function.comp_apply]
  split
  · rename_i he
    obtain rfl : r = x := List.inj_on_of_nodup_map hnd hr hx (he.trans (hn.symm.trans hxn.symm))
    rw [hxn, hxk, hxs]
  · rfl

end

theorem Edit.faultTableFits {s t : State} (he : Edit s t) (h : s.faultTableFits) : t.faultTableFits := by
  cases he with
  | fault old new hn hx => exact State.faultTableFits_sameKeys h (State.changed_keys h.2.1 hn (hx h.2.1))
  | newFault k src l c ns hr hf hs =>
    obtain ⟨hfree, hrange⟩ := State.freshFault_free h k src l c
    exact State.faultTableFits_append h (State.hasFaultRoom_lt hr) hfree hrange hf
      fun j i _ heq => hs j (Prod.ext_iff.mp heq).2
  | newInput k i l c ns hr hf =>
    have hun := h.2.2.2.2.2.2
    have hnone : s.faultOf (.input i) (.station k) = none := hf.elim (hun k i) id
    have h' : (s.setUnrecorded k i false).faultTableFits := State.faultTableFits_unrecord h (by simp)
    obtain ⟨hfree, hrange⟩ := State.freshFault_free h (.input i) (.station k) l c
    have happ : ((s.setUnrecorded k i false).withFault (s.freshFault (.input i) (.station k) l c) ns).faultTableFits := by
      refine State.faultTableFits_append h' (State.hasFaultRoom_lt hr) hfree hrange hnone fun j x hjx heq => ?_
      obtain ⟨hx, hj⟩ := Prod.ext_iff.mp heq
      obtain rfl : i = x := FaultKind.input.inj hx
      obtain rfl : k = j := FaultSource.station.inj hj
      rw [State.unrecorded_setUnrecorded, if_pos ⟨rfl, rfl⟩] at hjx
      exact absurd hjx (by simp)
    exact happ
  | unrecord k i v hv =>
    exact State.faultTableFits_unrecord h fun hvt => (hv hvt).elim id (h.2.2.2.2.2.2 k i)
  | dropFault n => exact State.faultTableFits_sublist h List.filter_sublist
  | admission ha => cases ha <;> exact h
  | _ => exact h

theorem faultTableFits_invariant : StepInvariant State.faultTableFits fun _ => True where
  turn s t ht h := by
    cases ht with
    | edit he => exact he.faultTableFits h
    | halt c => exact h
    | cancel => exact h
  own s t ho h := by cases ho <;> exact h
  confirm _ _ _ _ _ _ _ h := h
  clock _ _ _ h := h
  release _ _ _ _ _ h := h
  same s t hst h := by
    obtain ⟨c, st, pw, n, q, -, rfl⟩ := hst
    exact h
  retained _ _ := trivial
  defaults := trivial
  fresh r clock now store stretch start pending _ _ :=
    ⟨_, State.startUpBatches_edits _, Nat.zero_le _, List.nodup_nil, fun x hx => absurd hx List.not_mem_nil,
      Nat.le_refl _, show 1 ≤ 255 by decide, List.nodup_nil, fun _ _ _ => rfl⟩

/-- Settles O8: a new record takes a free number where no record has its kind and source. -/
theorem faultTableFits : Obligations.FaultTableFits := fun _ _ h hst =>
  (faultTableFits_invariant.step trivial h ⟨fun _ _ => trivial, fun _ _ => trivial, fun _ _ => trivial⟩ hst).1

end Sys2Proof.Machine
end

section
/-! LEVELS, SETTINGS, HALT AND CALENDAR: the invariants of the Level Monitor and the settings (O12), and of Halt
Control, the clock and the request order (O11). -/

namespace Sys2Proof.Machine

/-! ### Levels and settings (O12) -/

theorem clampTo_idem {lo hi : Nat} (h : lo ≤ hi) (v : Nat) : clampTo lo hi (clampTo lo hi v) = clampTo lo hi v := by
  rw [clampTo_eq_max_min h, clampTo_eq_max_min h]
  omega

theorem clampMovementLimits_idem (a : MovementLimits) :
    clampMovementLimits (clampMovementLimits a) = clampMovementLimits a := by
  simp only [clampMovementLimits, clampTo_idem (show 10 ≤ 300 by decide), clampTo_idem (show 200 ≤ 6000 by decide),
    clampTo_idem (show 50 ≤ 3000 by decide), clampTo_idem (show 0 ≤ 600 by decide)]

theorem clampFaultTiming_idem (a : FaultTiming) : clampFaultTiming (clampFaultTiming a) = clampFaultTiming a := by
  simp only [clampFaultTiming, clampTo_idem (show 0 ≤ 100 by decide), clampTo_idem (show 20 ≤ 1200 by decide),
    clampTo_idem (show 1 ≤ 8 by decide)]

/-- The retained settings and chambers within their values. -/
def Retained.rangesFit (r : Retained) : Prop := r.settingsFit ∧ r.chambersFit

/-- The invariant of O12, as a property of the state alone. -/
def State.rangesFit (s : State) : Prop := s.levelsFit ∧ s.retainedOf.rangesFit

theorem Edit.rangesFit {s t : State} (he : Edit s t) (h : s.rangesFit) : t.rangesFit := by
  cases he with
  | level l hl =>
    obtain ⟨hlev, ⟨hclamp, hrest⟩, hch⟩ := h
    obtain ⟨hlev', hch', hclamp'⟩ := hl ⟨hlev, hch, hclamp⟩
    exact ⟨hlev', ⟨hclamp', hrest⟩, hch'⟩
  | admission ha => cases ha <;> exact h
  | _ => exact h

theorem OwnEdit.rangesFit {s t : State} (ho : OwnEdit s t) (h : s.rangesFit) : t.rangesFit := by
  obtain ⟨hlev, hset, hch⟩ := h
  obtain ⟨h1, h2, h3, h4, h5, h6, h7, h8, h9, h10, h11⟩ := hset
  cases ho with
  | limits a => exact ⟨hlev, ⟨h1, clampMovementLimits_idem a, h3, h4, h5, h6, h7, h8, h9, h10, h11⟩, hch⟩
  | timing a => exact ⟨hlev, ⟨h1, h2, clampFaultTiming_idem a, h4, h5, h6, h7, h8, h9, h10, h11⟩, hch⟩
  | interval v => exact ⟨hlev, ⟨h1, h2, h3, clampTo_idem (by decide) v, h5, h6, h7, h8, h9, h10, h11⟩, hch⟩
  | queueLimits m l =>
    exact ⟨hlev, ⟨h1, h2, h3, h4, clampTo_idem (by decide) m, clampTo_idem (by decide) l, h7, h8, h9, h10, h11⟩, hch⟩
  | admission a f =>
    exact ⟨hlev, ⟨h1, h2, h3, h4, h5, h6, clampTo_idem (by decide) _, clampTo_idem (by decide) _, h9, h10, h11⟩, hch⟩
  | runLimits a b =>
    exact ⟨hlev, ⟨h1, h2, h3, h4, h5, h6, h7, h8, clampTo_idem (by decide) a, clampTo_idem (by decide) b, h11⟩, hch⟩
  | margin n => exact ⟨hlev, ⟨h1, h2, h3, h4, h5, h6, h7, h8, h9, h10, clampTo_idem (by decide) n⟩, hch⟩
  | _ => exact ⟨hlev, ⟨h1, h2, h3, h4, h5, h6, h7, h8, h9, h10, h11⟩, hch⟩

theorem fresh_rangesFit {r : Retained} (hr : r.rangesFit) (clock now : Nat) (store : Store) (stretch : Option Bool)
    (start : StartRecord) (pending : List Instr) :
    (State.fresh r clock now store stretch start pending).rangesFit := by
  obtain ⟨hset, hch⟩ := hr
  have hnone : ∀ v : Nat, (none : Option Nat) = some v → v ≤ 20000 := fun _ h => nomatch h
  have hcount : r.levelSettings.settleCount ≤ 16 := settleCount_of_clamped hset.1
  refine ⟨⟨fun c => ?_, hnone, hnone, hnone, hnone, fun k => (Quad.get_const k 0).trans_le (by decide), hcount⟩, hset,
    fun c => ?_⟩
  · cases c <;> exact ⟨hnone, hnone, hnone, Nat.zero_le _, Nat.zero_le _⟩
  · cases c
    · exact hch .c1
    · exact hch .c2
    · exact hch .c3

theorem rangesFit_invariant : StepInvariant State.rangesFit Retained.rangesFit where
  turn s t ht h := by
    cases ht with
    | edit he => exact he.rangesFit h
    | halt c => exact h
    | cancel => exact h
  own s t ho h := ho.rangesFit h
  confirm _ _ _ _ _ _ _ h := h
  clock _ _ _ h := h
  release _ _ _ _ _ h := h
  same s t hst h := by
    obtain ⟨c, st, pw, n, q, -, rfl⟩ := hst
    exact h
  retained _ h := h.2
  defaults := ⟨by simp only [Retained.settingsFit]; decide, defaults_chambersFit⟩
  fresh r clock now store stretch start pending hr _ :=
    ⟨_, State.startUpBatches_edits _, fresh_rangesFit hr clock now store stretch start pending⟩

/-- Settles O12: every derivation of a level stays within the readings' range, and every setting is taken clamped. -/
theorem levelsAndSettingsStayInRange : Obligations.LevelsAndSettingsStayInRange := by
  rintro s t ⟨hlev, hret, hstore⟩ hst
  obtain ⟨h, hp⟩ := rangesFit_invariant.step trivial ⟨hlev, hret⟩ hstore hst
  exact ⟨h.1, h.2, hp⟩

/-! ### Halt and calendar (O11) -/

/-- The day of the account within its values. -/
def Retained.dayFits (r : Retained) : Prop := 1 ≤ r.account.day ∧ r.account.day ≤ 9999

/-- The invariant of O11 but for the request order, as a property of the state alone. -/
def State.haltAndClockFit (s : State) : Prop := s.haltFits ∧ s.toll.clock ≤ 86399 ∧ s.retainedOf.dayFits

theorem State.haltFits_halted {s : State} (h : s.halt.state = .halted) (ha : s.halt.awaited = Quad.const none) :
    s.haltFits :=
  ⟨fun hn => absurd h hn, fun _ => ha, fun hr => nomatch h.symm.trans hr⟩

theorem State.awaitedSet_unheard (s : State) : ∃ k, s.awaitedSet.get k = some false := by
  unfold State.awaitedSet
  dsimp only
  generalize s.line.stations.map (fun r => decide (r.state = .lost)) = lost
  obtain ⟨a, b, c, d⟩ := lost
  cases a with
  | false => exact ⟨.k0, rfl⟩
  | true =>
    cases b with
    | false => exact ⟨.k1, rfl⟩
    | true =>
      cases c with
      | false => exact ⟨.k2, rfl⟩
      | true => cases d <;> exact ⟨.k3, rfl⟩

theorem unheard_of_not_allHeard {q : Quad (Option Bool)} (h : allHeard q = false) : ∃ k, q.get k = some false := by
  unfold allHeard at h
  obtain ⟨k, -, hk⟩ := List.all_eq_false.mp h
  exact ⟨k, by simpa using hk⟩

theorem Edit.haltAndClockFit {s t : State} (he : Edit s t) (h : s.haltAndClockFit) : t.haltAndClockFit := by
  cases he with
  | causes cs hh =>
    obtain ⟨⟨-, hawait, hunheard⟩, hrest⟩ := h
    exact ⟨⟨fun hn => absurd hh hn, hawait, hunheard⟩, hrest⟩
  | admission ha => cases ha <;> exact h
  | _ => exact h

theorem OwnEdit.haltAndClockFit {s t : State} (ho : OwnEdit s t) (h : s.haltAndClockFit) : t.haltAndClockFit := by
  obtain ⟨⟨hcause, hawait, hunheard⟩, hclock, hday⟩ := h
  cases ho with
  | clearHalt hh =>
    exact ⟨⟨fun _ => rfl, fun hn => absurd rfl hn, fun _ => s.awaitedSet_unheard⟩, hclock, hday⟩
  | heard q hrec hq =>
    exact ⟨⟨hcause, fun hn => absurd hrec hn, fun _ => unheard_of_not_allHeard hq⟩, hclock, hday⟩
  | running hrec =>
    exact ⟨⟨fun _ => hcause (hrec ▸ nofun), fun _ => rfl, nofun⟩, hclock, hday⟩
  | openDay => exact ⟨⟨hcause, hawait, hunheard⟩, hclock, nextNumber_range (by decide)⟩
  | _ => exact ⟨⟨hcause, hawait, hunheard⟩, hclock, hday⟩

theorem haltAndClockFit_invariant : StepInvariant State.haltAndClockFit Retained.dayFits where
  turn s t ht h := by
    cases ht with
    | edit he => exact he.haltAndClockFit h
    | halt c => exact ⟨State.haltFits_halted rfl rfl, h.2⟩
    | cancel => exact h
  own s t ho h := ho.haltAndClockFit h
  confirm _ _ _ _ _ _ _ h := h
  clock _ _ hn h := ⟨h.1, hn, h.2.2⟩
  release _ _ _ _ _ h := h
  same s t hst h := by
    obtain ⟨c, st, pw, n, q, -, rfl⟩ := hst
    exact h
  retained _ h := h.2.2
  defaults := by
    constructor <;> decide
  fresh r clock now store stretch start pending hr hc := by
    refine ⟨_, State.startUpBatches_edits _, State.haltFits_halted rfl rfl, ?_, hr⟩
    rcases hc with rfl | ⟨s, hs, rfl⟩
    · exact Nat.zero_le _
    · exact hs.2.1

/-! ### The request order -/

/-- R176: at most 8 frames wait in the request order. -/
def State.requestsFit (s : State) : Prop := s.console.order.length ≤ 8

theorem Deeds.requestsFit {s t : State} (h : Deeds s t) (hs : s.requestsFit) : t.requestsFit := by
  refine h.keep (I := State.requestsFit) (fun s t ht h => ?_) (fun s t ho h => ?_) hs
  · cases ht with
    | edit he =>
      cases he with
      | admission ha => cases ha <;> exact h
      | _ => exact h
    | halt c => exact h
    | cancel => exact h
  · cases ho with
    | link fr os hl => exact hl h
    | _ => exact h

theorem State.commit_requestsFit {s : State} (r : Retained) (h : s.requestsFit) : (s.commit r).requestsFit := by
  rw [State.commit_eq]
  exact h

theorem State.startUp_requestsFit (r : Retained) (clock now : Nat) (store : Store) (stretch : Option Bool)
    (start : StartRecord) (pending : List Instr) :
    (State.startUp r clock now store stretch start pending).requestsFit := by
  obtain ⟨u, hu, he⟩ := State.startUp_deeds r clock now store stretch start pending
  rw [he]
  exact State.commit_requestsFit r (hu.requestsFit (Nat.zero_le 8))

theorem Console.sent_order (c : Console) : c.sent.order = c.order := by
  unfold Console.sent
  split <;> rfl

theorem Console.choose_order (c : Console) : c.choose.order = c.order := by
  unfold Console.choose
  split
  · split <;> rfl
  · rfl
  · rfl
  · rfl

theorem State.powerUp_requestsFit (s : State) : s.powerUp.requestsFit := by
  unfold State.powerUp
  dsimp only
  split <;> exact State.startUp_requestsFit _ _ _ _ _ _ _

theorem State.freeTransmitter_requestsFit {s : State} (h : s.requestsFit) : s.freeTransmitter.requestsFit := by
  unfold State.freeTransmitter
  split
  · exact State.startUp_requestsFit _ _ _ _ _ _ _
  · have hkept : s.console.sent.choose.order = s.console.order :=
      (Console.choose_order _).trans (Console.sent_order _)
    exact (congrArg List.length hkept).trans_le h

theorem requestAct_requestsFit (c : Instr) {s : State} (h : s.requestsFit) : (requestAct c s).state.requestsFit := by
  rcases requestAct_granted c s with heq | ⟨-, hg⟩
  · rw [heq]
    exact h
  · exact (congrArg List.length hg.keeps_order).trans_le h

theorem Executed.requestsFit {c : Instr} {s t : State} (hst : Executed s c t) (h : s.requestsFit) : t.requestsFit := by
  have hpop : (s.console.order.drop 1).length ≤ 8 := by
    rw [List.length_drop]
    exact (Nat.sub_le _ _).trans h
  cases hst with
  | answered hc ht =>
    exact State.commit_requestsFit s.popRequest.retainedOf (requestAct_requestsFit c (s := s.popRequest) hpop)
  | acted hc hp => exact State.commit_requestsFit _ ((eventAct_deeds hc s).requestsFit h)
  | refused f code hc ht => exact hpop
  | poweredUp => exact s.powerUp_requestsFit
  | transmitterFreed hp => exact State.freeTransmitter_requestsFit h
  | updateComplete hp =>
    unfold State.completeUpdate
    split <;> exact h
  | powerLost hp | ticked | stretched v hc | idle c => exact h

theorem step_requestsFit {s t : State} (hst : step s = .next t) (h : s.requestsFit) : t.requestsFit := by
  cases hq : s.pending with
  | nil =>
    rw [step_of_empty hq] at hst
    obtain rfl := Host.Outcome.next.inj hst
    exact h
  | cons c rest =>
    rw [step_of_command hq] at hst
    exact (executed_of_exec hst).requestsFit h

/-- Settles O11: the halt state, its causes and its awaited set change together, and only the tick, SET CLOCK and
CLOSE DAY move the clock and the day; a frame joins the request order only where there is room. -/
theorem haltAndCalendarFit : Obligations.HaltAndCalendarFit := by
  rintro s t ⟨hhalt, ⟨hclock, hday, hstore⟩, horder⟩ hst
  obtain ⟨⟨hhalt', hclock', hday'⟩, hstore'⟩ := haltAndClockFit_invariant.step trivial ⟨hhalt, hclock, hday⟩ hstore hst
  exact ⟨hhalt', ⟨hclock', hday', hstore'⟩, step_requestsFit hst horder⟩

end Sys2Proof.Machine
end

section
/-! THE TRAFFIC: what is packed, what an admission takes and from where, and with it the receipt slots (O5) and the
form of the batch table (O9). -/

namespace Sys2Proof.Machine

/-! ### Counts of the retained state -/

theorem foldl_add_eq_natSum (xs : List Nat) : xs.foldl (· + ·) 0 = natSum xs := List.foldl_eq_foldr ..

theorem natSum_append (xs ys : List Nat) : natSum (xs ++ ys) = natSum xs + natSum ys := List.sum_append

theorem natSum_filter_le {α : Type} (f : α → Nat) (p : α → Bool) (xs : List α) :
    natSum ((xs.filter p).map f) ≤ natSum (xs.map f) :=
  List.Sublist.sum_le_sum (List.filter_sublist.map f) fun _ _ => Nat.zero_le _

theorem State.reserved_eq (s : State) : s.reserved = s.retainedOf.slotsReserved := by
  rw [State.reserved, foldl_add_eq_natSum, Retained.slotsReserved]
  simp [State.retainedOf, Function.comp_def, Batch.retained]

theorem State.charge_eq (s : State) (d : Direction) : s.charge d = (s.queueOf d).length + s.retainedOf.waiting d := by
  rw [State.charge, foldl_add_eq_natSum, Retained.waiting]
  simp [State.retainedOf, List.filter_map, Function.comp_def, Batch.retained]

section

variable (s : State)

/-! ### Packing (R117, R118) -/

/-- The walk adds records of the queue in its order, each of them eligible, up to the limit, and the set fits. -/
theorem State.walk_spec (limit : Nat) : ∀ q set : List Passage, ∃ ms, s.walk limit q set = set ++ ms ∧ ms.Sublist q ∧
    (∀ p ∈ ms, s.eligible p = true) ∧ (set.length ≤ limit → (set ++ ms).length ≤ limit) ∧
    (ms ≠ [] → s.setFits (set ++ ms) = true) := by
  have hnone : ∀ q set : List Passage, ∃ ms, set = set ++ ms ∧ ms.Sublist q ∧ (∀ p ∈ ms, s.eligible p = true) ∧
      (set.length ≤ limit → (set ++ ms).length ≤ limit) ∧ (ms ≠ [] → s.setFits (set ++ ms) = true) := fun q set =>
    ⟨[], by simp, List.nil_sublist q, by simp, by simp, by simp⟩
  intro q
  induction q with
  | nil => exact hnone []
  | cons p rest ih =>
    intro set
    rw [State.walk]
    split_ifs with hfull htake hskip
    · exact hnone _ set
    · obtain ⟨ms, hwalk, hsub, hel, hlen, hfit⟩ := ih (set ++ [p])
      rw [Bool.and_eq_true] at htake
      have happ : set ++ [p] ++ ms = set ++ p :: ms := by simp
      rw [happ] at hwalk hlen hfit
      refine ⟨p :: ms, hwalk, hsub.cons_cons p, fun x hx => ?_, fun _ => hlen ?_, fun _ => ?_⟩
      · rcases List.mem_cons.mp hx with rfl | hx
        · exact htake.1
        · exact hel x hx
      · rw [List.length_append, List.length_singleton]
        omega
      · cases ms with
        | nil => exact htake.2
        | cons y ys => exact hfit (List.cons_ne_nil y ys)
    · obtain ⟨ms, hwalk, hsub, hrest⟩ := ih set
      exact ⟨ms, hwalk, hsub.cons p, hrest⟩
    · exact hnone _ set

theorem State.pack_spec (d : Direction) : (s.pack d).Sublist (s.queueOf d) ∧ (∀ p ∈ s.pack d, s.eligible p = true) ∧
    (s.pack d).length ≤ min Config.memberLimit s.freeSlots ∧ (s.pack d ≠ [] → s.setFits (s.pack d) = true) := by
  obtain ⟨ms, hwalk, hsub, hel, hlen, hfit⟩ := s.walk_spec (min Config.memberLimit s.freeSlots) (s.queueOf d) []
  have hms : s.pack d = ms := hwalk
  rw [hms]
  exact ⟨hsub, hel, hlen (Nat.zero_le _), hfit⟩

/-! ### The batches an evaluation chooses (R114, R122) -/

theorem State.leader_eq_some {b : Batch} (h : s.leader = some b) :
    s.traffic.batches = [b] ∧ s.traffic.followOn = true ∧ b.cleared = true := by
  unfold State.leader at h
  split at h
  · rename_i x hx
    split_ifs at h with hc
    obtain rfl := Option.some.inj h
    rw [Bool.and_eq_true] at hc
    exact ⟨hx, hc⟩
  · exact nomatch h

theorem State.automaticBatch_some {d : Direction} {ms : List Passage} (h : s.automaticBatch = some (d, ms)) :
    ms = s.pack d ∧ ms ≠ [] ∧ s.freeSlots ≠ 0 ∧
      (s.traffic.batches = [] ∨ ∃ b, s.leader = some b ∧ b.direction = d) := by
  unfold State.automaticBatch at h
  split_ifs at h with hfree
  split at h
  · rename_i hnil
    split at h
    · exact nomatch h
    · rename_i c _
      split at h
      · exact nomatch h
      · rename_i hne
        obtain ⟨rfl, rfl⟩ := Prod.mk.inj (Option.some.inj h)
        exact ⟨rfl, hne, hfree, .inl hnil⟩
      · rename_i hne _
        obtain ⟨rfl, rfl⟩ := Prod.mk.inj (Option.some.inj h)
        exact ⟨rfl, hne, hfree, .inl hnil⟩
  · split at h
    · exact nomatch h
    · rename_i b hlead
      split_ifs at h with hk
      split at h
      · exact nomatch h
      · rename_i hne
        obtain ⟨rfl, rfl⟩ := Prod.mk.inj (Option.some.inj h)
        exact ⟨rfl, hne, hfree, .inr ⟨b, hlead, rfl⟩⟩

theorem State.orderFits_length {ns : List Nat} (h : s.orderFits ns = true) : (s.orderRecords ns).length = ns.length := by
  unfold State.orderFits at h
  simp only [Bool.and_eq_true, decide_eq_true_eq] at h
  exact h.1.1

theorem State.orderOpen_spec {o : KeeperOrder} (h : s.orderOpen o = true) : s.admissionOpen = true ∧
    o.passages.length ≤ s.freeSlots ∧
    (s.traffic.batches = [] ∨ ∃ b, s.leader = some b ∧ b.direction = o.direction) := by
  unfold State.orderOpen at h
  simp only [Bool.and_eq_true, Bool.or_eq_true, decide_eq_true_eq, List.isEmpty_iff] at h
  obtain ⟨⟨hopen, hfree⟩, htable⟩ := h
  refine ⟨hopen, hfree, htable.imp_right fun hlead => ?_⟩
  split at hlead
  · rename_i b hb
    exact ⟨b, hb, by simpa using hlead⟩
  · exact nomatch hlead

end

section

variable {s u : State} {d : Direction} {ms : List Passage}

theorem Admits.state (h : Admits s u d ms) : u = s ∨ u = s.discardOrder := by
  cases h with
  | automatic h hm => exact .inl rfl
  | order o h hf ho => exact .inr rfl

theorem Admits.length_le_free (h : Admits s u d ms) : ms.length ≤ s.freeSlots := by
  cases h with
  | automatic h hm =>
    obtain ⟨rfl, -⟩ := s.automaticBatch_some h
    exact (s.pack_spec d).2.2.1.trans (Nat.min_le_right _ _)
  | order o h hf ho => exact (s.orderFits_length hf).trans_le (s.orderOpen_spec ho).2.1

theorem Admits.table (h : Admits s u d ms) :
    s.traffic.batches = [] ∨ ∃ b, s.traffic.batches = [b] ∧ b.direction = d := by
  have hlead : (s.traffic.batches = [] ∨ ∃ b, s.leader = some b ∧ b.direction = d) := by
    cases h with
    | automatic h hm => exact (s.automaticBatch_some h).2.2.2
    | order o h hf ho => exact (s.orderOpen_spec ho).2.2
  exact hlead.imp_right fun ⟨b, hb, hd⟩ => ⟨b, (s.leader_eq_some hb).1, hd⟩

theorem Admits.length_range (h : Admits s u d ms) (hs : s.orderSized) : 1 ≤ ms.length ∧ ms.length ≤ 4 := by
  cases h with
  | automatic h hm =>
    obtain ⟨rfl, hne, -⟩ := s.automaticBatch_some h
    exact ⟨List.length_pos_of_ne_nil hne, (s.pack_spec d).2.2.1.trans (Nat.min_le_left _ _)⟩
  | order o h hf ho =>
    rw [s.orderFits_length hf]
    exact hs o h

end

/-! ### The members of a new batch (R119) -/

theorem admitAll_length (n : Nat) (ms : List Passage) : ∀ pos, (admitAll n pos ms).length = ms.length := by
  induction ms with
  | nil => exact fun _ => rfl
  | cons p ps ih => exact fun pos => congrArg (· + 1) (ih (pos + 1))

theorem receiptsFor_length (e : Edition) (b : Batch) (w : Water) (day : Nat) (ms : List Passage) :
    ∀ n shares, (receiptsFor e b w day n ms shares).length = ms.length := by
  induction ms with
  | nil => exact fun _ _ => rfl
  | cons p ps ih => exact fun n shares => congrArg (· + 1) (ih (n + 1) _)

theorem releaseUpTo_suffix {day n : Nat} {q rest : List Receipt} (h : releaseUpTo day n q = some rest) : rest <:+ q := by
  induction q with
  | nil => exact nomatch h
  | cons r q ih =>
    rw [releaseUpTo] at h
    split_ifs at h
    · exact Option.some.inj h ▸ List.suffix_cons r q
    · exact (ih h).trans (List.suffix_cons r q)

/-! ### Receipts and slots (O5) -/

/-- Receipts held and slots reserved, with the batches as they stand. -/
theorem State.receiptsFit_iff (s : State) : s.retainedOf.receiptsFit ↔
    s.receipts.queue.length + natSum (s.traffic.batches.map fun b => b.members.length) ≤ 64 := by
  rw [Retained.receiptsFit, ← s.reserved_eq, State.reserved, foldl_add_eq_natSum]
  rfl

/-- Taking the batches of a number out of a table frees the slots of each of them. -/
theorem natSum_removed {bs : List Batch} {x : Batch} (hx : x ∈ bs) :
    x.members.length + natSum ((bs.filter fun b => b.number != x.number).map fun b => b.members.length) ≤
      natSum (bs.map fun b => b.members.length) := by
  induction bs with
  | nil => exact absurd hx List.not_mem_nil
  | cons b bs ih =>
    have hsum : natSum ((b :: bs).map fun b => b.members.length) =
        b.members.length + natSum (bs.map fun b => b.members.length) := rfl
    have hle := natSum_filter_le (fun b : Batch => b.members.length) (fun b => b.number != x.number) bs
    rcases List.mem_cons.mp hx with rfl | hx
    · rw [List.filter_cons_of_neg (by simp), hsum]
      omega
    · have hsub := ih hx
      by_cases hb : b.number = x.number
      · rw [List.filter_cons_of_neg (by simp [hb]), hsum]
        omega
      · rw [List.filter_cons_of_pos (by simp [hb]), hsum]
        change _ + (b.members.length + natSum _) ≤ _
        omega

theorem State.receiptsFit_setBatches {s : State} (f : Batch → Batch)
    (hf : ∀ b ∈ s.traffic.batches, (f b).members.length = b.members.length) (h : s.retainedOf.receiptsFit) :
    (s.setBatches (s.traffic.batches.map f)).retainedOf.receiptsFit := by
  rw [State.receiptsFit_iff] at h ⊢
  have hsame : (s.traffic.batches.map f).map (fun b => b.members.length) =
      s.traffic.batches.map fun b => b.members.length := by
    rw [List.map_map]
    exact List.map_congr_left hf
  exact (congrArg (fun l => s.receipts.queue.length + natSum l) hsame).trans_le h

theorem State.receiptsFit_modBatch {s : State} (n : Nat) (f : Batch → Batch)
    (hf : ∀ b, (f b).members.length = b.members.length) (h : s.retainedOf.receiptsFit) :
    (s.modBatch n f).retainedOf.receiptsFit :=
  State.receiptsFit_setBatches _ (fun b _ => by
    split
    · exact hf b
    · rfl) h

/-- An admission takes no more slots than are free. -/
theorem Admits.receiptsFit {s u : State} {d : Direction} {ms : List Passage} (ha : Admits s u d ms) (e : Edition)
    (ns : List Notice) (h : s.retainedOf.receiptsFit) :
    (({ u with traffic := u.admittedTraffic d e ms } : State).withNotices ns).retainedOf.receiptsFit := by
  rw [State.receiptsFit_iff] at h ⊢
  have hfree := ha.length_le_free
  unfold State.freeSlots at hfree
  rw [State.reserved, foldl_add_eq_natSum] at hfree
  have hstate : u.receipts = s.receipts ∧ u.traffic.batches = s.traffic.batches := by
    rcases ha.state with rfl | rfl <;> exact ⟨rfl, rfl⟩
  have hnew : (u.newBatch d e ms).members.length = ms.length := admitAll_length _ ms 1
  change u.receipts.queue.length +
    natSum ((u.traffic.batches ++ [u.newBatch d e ms]).map fun b => b.members.length) ≤ 64
  rw [List.map_append, natSum_append, hstate.1, hstate.2, List.map_singleton, hnew]
  change _ + (_ + (ms.length + 0)) ≤ 64
  have hcap : Config.receiptCapacity = 64 := rfl
  have := le_min_iff.mp hfree
  omega

/-- A completion turns the slots of its batch into receipts. -/
theorem State.receiptsFit_complete {s : State} {b x : Batch} (hx : x ∈ s.traffic.batches) (hn : x.number = b.number)
    (hm : x.members = b.members) (h : s.retainedOf.receiptsFit) :
    ((s.assess b).removeBatch b.number).retainedOf.receiptsFit := by
  rw [State.receiptsFit_iff] at h ⊢
  have hlen : (s.batchReceipts b).length = x.members.length := by
    rw [hm]
    exact receiptsFor_length _ _ _ _ _ _ _
  have hfreed := natSum_removed hx
  change (s.receipts.queue ++ s.batchReceipts b).length +
    natSum ((s.traffic.batches.filter fun y => y.number != b.number).map fun b => b.members.length) ≤ 64
  rw [List.length_append, hlen, ← hn]
  omega

theorem Edit.receiptsFit {s t : State} (he : Edit s t) (h : s.retainedOf.receiptsFit) : t.retainedOf.receiptsFit := by
  cases he with
  | batches f hf => exact State.receiptsFit_setBatches f (fun b hb => congrArg List.length (hf b hb).members) h
  | claim b hb => exact State.receiptsFit_modBatch _ _ (fun _ => rfl) h
  | admission ha he ns => exact ha.receiptsFit _ ns h
  | complete b hb =>
    obtain ⟨x, hx, hn, hm⟩ := hb
    exact State.receiptsFit_complete hx hn hm h
  | _ => exact h

theorem OwnEdit.receiptsFit {s t : State} (ho : OwnEdit s t) (h : s.retainedOf.receiptsFit) :
    t.retainedOf.receiptsFit := by
  cases ho with
  | renumber | queueLimits m l =>
    exact State.receiptsFit_setBatches (fun b => { b with members := b.members.map _ })
      (fun b _ => List.length_map ..) h
  | abandon n b hb he =>
    rw [State.receiptsFit_iff] at h ⊢
    exact (Nat.add_le_add_left (natSum_filter_le _ _ _) _).trans h
  | resume n b hb hs => exact State.receiptsFit_modBatch _ _ (fun _ => rfl) h
  | _ => exact h

theorem receiptsFit_invariant : StepInvariant (fun s => s.retainedOf.receiptsFit) Retained.receiptsFit where
  turn s t ht h := by
    cases ht with
    | edit he => exact he.receiptsFit h
    | halt c => exact h
    | cancel => exact h
  own s t ho h := ho.receiptsFit h
  confirm s n b g _ _ _ h := State.receiptsFit_modBatch _ _ (fun _ => List.length_map ..) h
  clock _ _ _ h := h
  release s day n rest hr h := by
    rw [State.receiptsFit_iff] at h ⊢
    exact (Nat.add_le_add_right (releaseUpTo_suffix hr).length_le _).trans h
  same s t hst h := by
    obtain ⟨c, st, pw, n, q, -, rfl⟩ := hst
    exact h
  retained _ h := h
  defaults := Nat.zero_le _
  fresh r clock now store stretch start pending hr _ := by
    refine ⟨_, State.startUpBatches_edits _, ?_⟩
    rw [State.receiptsFit_iff]
    exact hr

/-- Settles O5: a batch is admitted into free slots, and a completion turns its slots into receipts. -/
theorem receiptsNeverExceed64 : Obligations.ReceiptsNeverExceed64 := fun _ _ h hst =>
  receiptsFit_invariant.step trivial h.1 h.2 hst

end Sys2Proof.Machine
end

section
/-! THE BATCH TABLE: its form and the pending order's, the claims of the steps, and the editions (O9). -/

namespace Sys2Proof.Machine

/-! ### The form of a table -/

/-- R112, R113: at most two batches, of one direction and of distinct numbers. -/
def tableShape (bs : List Batch) : Prop :=
  bs.length ≤ 2 ∧ (∀ a ∈ bs, ∀ b ∈ bs, a.direction = b.direction) ∧ (bs.map (·.number)).Nodup

/-- R117, R149: the member counts and rises of a table. -/
def tableSized (bs : List Batch) : Prop :=
  ∀ b ∈ bs, 1 ≤ b.members.length ∧ b.members.length ≤ 4 ∧ b.meter.rise ≤ 20000

theorem Retained.tableFits_iff (r : Retained) : r.tableFits ↔ tableShape r.batches ∧ tableSized r.batches := by
  simp only [Retained.tableFits, tableShape, tableSized, and_assoc]

theorem tableShape_retained (bs : List Batch) : tableShape (bs.map Batch.retained) ↔ tableShape bs := by
  simp [tableShape, Function.comp_def, Batch.retained]

theorem tableSized_retained (bs : List Batch) : tableSized (bs.map Batch.retained) ↔ tableSized bs := by
  simp [tableSized, Batch.retained]

theorem State.tableFits_iff (s : State) :
    s.retainedOf.tableFits ↔ tableShape s.traffic.batches ∧ tableSized s.traffic.batches := by
  rw [Retained.tableFits_iff]
  exact and_congr (tableShape_retained _) (tableSized_retained _)

section

variable {bs : List Batch}

theorem tableShape.map (h : tableShape bs) {f : Batch → Batch} (hn : ∀ b ∈ bs, (f b).number = b.number)
    (hd : ∀ b ∈ bs, (f b).direction = b.direction) : tableShape (bs.map f) := by
  obtain ⟨hlen, hdir, hnum⟩ := h
  refine ⟨by rwa [List.length_map], ?_, ?_⟩
  · simp only [List.mem_map, forall_exists_index, and_imp, forall_apply_eq_imp_iff₂]
    intro a ha b hb
    rw [hd a ha, hd b hb]
    exact hdir a ha b hb
  · have hsame : bs.map ((fun b => b.number) ∘ f) = bs.map fun b => b.number := List.map_congr_left hn
    rwa [List.map_map, hsame]

theorem tableShape.of_sublist (h : tableShape bs) {cs : List Batch} (hs : cs.Sublist bs) : tableShape cs := by
  obtain ⟨hlen, hdir, hnum⟩ := h
  exact ⟨hs.length_le.trans hlen, fun a ha b hb => hdir a (hs.subset ha) b (hs.subset hb), hnum.sublist (hs.map _)⟩

theorem tableSized.map (h : tableSized bs) {f : Batch → Batch} (hm : ∀ b ∈ bs, (f b).members.length = b.members.length)
    (hr : ∀ b ∈ bs, b.meter.rise ≤ 20000 → (f b).meter.rise ≤ 20000) : tableSized (bs.map f) := by
  intro x hx
  obtain ⟨b, hb, rfl⟩ := List.mem_map.mp hx
  obtain ⟨h1, h4, hrise⟩ := h b hb
  rw [hm b hb]
  exact ⟨h1, h4, hr b hb hrise⟩

theorem tableSized.of_sublist (h : tableSized bs) {cs : List Batch} (hs : cs.Sublist bs) : tableSized cs :=
  fun b hb => h b (hs.subset hb)

end

/-- R113: the number of a new batch is none in the table. -/
theorem State.newBatch_number {s : State} {d : Direction} {e : Edition} {ms : List Passage}
    (h : s.traffic.batches.length ≤ 2) : (s.newBatch d e ms).number ∉ s.traffic.batches.map (·.number) :=
  freeNumber_not_mem (by rw [List.length_map]; omega) (by decide)

section

variable {s u : State} {d : Direction} {ms : List Passage}

theorem Admits.batches_eq (h : Admits s u d ms) : u.traffic.batches = s.traffic.batches := by
  rcases h.state with rfl | rfl <;> rfl

/-- A new batch joins an empty table, or one batch of its own direction. -/
theorem Admits.tableShape (h : Admits s u d ms) (e : Edition) :
    Machine.tableShape (u.traffic.batches ++ [u.newBatch d e ms]) := by
  have hlen : u.traffic.batches.length ≤ 1 := by
    rw [h.batches_eq]
    rcases h.table with hb | ⟨b, hb, -⟩ <;> rw [hb]
    · exact Nat.zero_le _
    · exact Nat.le_refl _
  have hdir : ∀ x ∈ u.traffic.batches ++ [u.newBatch d e ms], x.direction = d := by
    intro x hx
    rw [h.batches_eq] at hx
    rcases List.mem_append.mp hx with hx | hx
    · rcases h.table with hb | ⟨b, hb, hd⟩ <;> rw [hb] at hx
      · exact absurd hx List.not_mem_nil
      · rwa [List.mem_singleton.mp hx]
    · rw [List.mem_singleton.mp hx]
      rfl
  refine ⟨?_, fun a ha b hb => (hdir a ha).trans (hdir b hb).symm, ?_⟩
  · rw [List.length_append, List.length_singleton]
    omega
  · rw [List.map_append, List.map_singleton]
    refine List.Nodup.append ?_ (List.nodup_singleton _) ?_
    · refine List.nodup_iff_pairwise_ne.mpr ?_
      rw [h.batches_eq]
      rcases h.table with hb | ⟨b, hb, -⟩ <;> rw [hb]
      · exact List.Pairwise.nil
      · exact List.pairwise_singleton _ _
    · exact List.disjoint_singleton.mpr (State.newBatch_number (by omega))

theorem Admits.tableSized (h : Admits s u d ms) (e : Edition) (hs : Machine.tableSized s.traffic.batches)
    (ho : s.orderSized) : Machine.tableSized (u.traffic.batches ++ [u.newBatch d e ms]) := by
  intro x hx
  rw [h.batches_eq] at hx
  rcases List.mem_append.mp hx with hx | hx
  · exact hs x hx
  · rw [List.mem_singleton.mp hx]
    have hlen : (u.newBatch d e ms).members.length = ms.length := admitAll_length _ ms 1
    rw [hlen]
    exact ⟨(h.length_range ho).1, (h.length_range ho).2, Nat.zero_le _⟩

end

/-! ### The shape of the table through a step -/

theorem tableShape_modBatch {s : State} (h : tableShape s.traffic.batches) (n : Nat) (f : Batch → Batch)
    (hn : ∀ b, (f b).number = b.number) (hd : ∀ b, (f b).direction = b.direction) :
    tableShape (s.modBatch n f).traffic.batches :=
  h.map (fun b _ => by split <;> simp [hn]) fun b _ => by split <;> simp [hd]

theorem Edit.tableShape {s t : State} (he : Edit s t) (h : Machine.tableShape s.traffic.batches) :
    Machine.tableShape t.traffic.batches := by
  cases he with
  | batches f hf => exact h.map (fun b hb => (hf b hb).number) fun b hb => (hf b hb).direction
  | claim b hb => exact tableShape_modBatch h _ _ (fun _ => rfl) fun _ => rfl
  | admission ha he ns => exact ha.tableShape _
  | complete b hb => exact h.of_sublist List.filter_sublist
  | _ => exact h

theorem OwnEdit.tableShape {s t : State} (ho : OwnEdit s t) (h : Machine.tableShape s.traffic.batches) :
    Machine.tableShape t.traffic.batches := by
  cases ho with
  | renumber | queueLimits m l => exact h.map (fun _ _ => rfl) fun _ _ => rfl
  | abandon n b hb he => exact h.of_sublist List.filter_sublist
  | resume n b hb hs => exact tableShape_modBatch h _ _ (fun _ => rfl) fun _ => rfl
  | _ => exact h

/-! ### Sizes and the pending order -/

/-- The first invariant of O9, as a property of the state alone. -/
def State.tableAndOrderFit (s : State) : Prop :=
  tableShape s.traffic.batches ∧ tableSized s.traffic.batches ∧ s.orderSized

theorem tableSized_modBatch {s : State} (h : tableSized s.traffic.batches) (n : Nat) (f : Batch → Batch)
    (hm : ∀ b, (f b).members.length = b.members.length) (hr : ∀ b, b.meter.rise ≤ 20000 → (f b).meter.rise ≤ 20000) :
    tableSized (s.modBatch n f).traffic.batches :=
  h.map (fun b _ => by split <;> simp [hm]) fun b _ hb => by
    split
    · exact hr b hb
    · exact hb

theorem State.orderSized_none {s : State} (h : s.traffic.order = none) : s.orderSized :=
  fun _ ho => nomatch h.symm.trans ho

theorem State.orderSized_of_order {s t : State} (h : s.orderSized)
    (ho : t.traffic.order = none ∨ t.traffic.order = s.traffic.order) : t.orderSized := by
  rcases ho with ho | ho
  · exact State.orderSized_none ho
  · exact fun o hto => h o (ho.symm.trans hto)

theorem Admits.order_eq {s u : State} {d : Direction} {ms : List Passage} (h : Admits s u d ms) :
    u.traffic.order = none ∨ u.traffic.order = s.traffic.order := by
  rcases h.state with rfl | rfl
  · exact .inr rfl
  · exact .inl rfl

theorem State.orderRefusal_sized {s : State} {ns : List Nat} (h : s.orderRefusal ns = none) :
    1 ≤ ns.length ∧ ns.length ≤ 4 := by
  unfold State.orderRefusal at h
  dsimp only at h
  split at h
  · exact nomatch h
  · rename_i hbad
    simp only [Bool.or_eq_true, decide_eq_true_eq, not_or, List.isEmpty_iff] at hbad
    exact ⟨List.length_pos_of_ne_nil hbad.1.1, Nat.le_of_not_lt hbad.1.2⟩

theorem Edit.tableAndOrderFit {s t : State} (he : Edit s t) (h : s.tableAndOrderFit) : t.tableAndOrderFit := by
  refine ⟨he.tableShape h.1, ?_⟩
  obtain ⟨-, hsized, horder⟩ := h
  cases he with
  | batches f hf =>
    exact ⟨hsized.map (fun b hb => congrArg List.length (hf b hb).members) fun b hb => (hf b hb).rise, horder⟩
  | claim b hb => exact ⟨tableSized_modBatch hsized _ _ (fun _ => rfl) fun _ h => h, horder⟩
  | admission ha he ns =>
    exact ⟨ha.tableSized _ hsized horder, State.orderSized_of_order horder ha.order_eq⟩
  | discardOrder => exact ⟨hsized, State.orderSized_none rfl⟩
  | complete b hb => exact ⟨hsized.of_sublist List.filter_sublist, horder⟩
  | _ => exact ⟨hsized, horder⟩

theorem resumed_rise (l : Option Nat × Bool) (b : Batch) (h : b.meter.rise ≤ 20000) : (resumed l b).meter.rise ≤ 20000 :=
  Meter.close_rise _ _ h

theorem OwnEdit.tableAndOrderFit {s t : State} (ho : OwnEdit s t) (h : s.tableAndOrderFit) : t.tableAndOrderFit := by
  refine ⟨ho.tableShape h.1, ?_⟩
  obtain ⟨-, hsized, horder⟩ := h
  cases ho with
  | renumber | queueLimits m l => exact ⟨hsized.map (fun _ _ => List.length_map ..) fun _ _ h => h, horder⟩
  | withdraw n p hp =>
    refine ⟨hsized, State.orderSized_of_order horder ?_⟩
    change (if s.orderHolds n then none else s.traffic.order) = none ∨
      (if s.orderHolds n then none else s.traffic.order) = s.traffic.order
    split
    · exact .inl rfl
    · exact .inr rfl
  | mode m hm =>
    refine ⟨hsized, State.orderSized_of_order horder ?_⟩
    change (if s.traffic.mode = .keeper then none else s.traffic.order) = none ∨
      (if s.traffic.mode = .keeper then none else s.traffic.order) = s.traffic.order
    split
    · exact .inl rfl
    · exact .inr rfl
  | order ns hr => exact ⟨hsized, fun o hto => Option.some.inj hto ▸ State.orderRefusal_sized hr⟩
  | abandon n b hb he => exact ⟨hsized.of_sublist List.filter_sublist, horder⟩
  | resume n b hb hs => exact ⟨tableSized_modBatch hsized _ _ (fun _ => rfl) (resumed_rise _), horder⟩
  | _ => exact ⟨hsized, horder⟩

theorem tableAndOrderFit_invariant : StepInvariant State.tableAndOrderFit Retained.tableFits where
  turn s t ht h := by
    cases ht with
    | edit he => exact he.tableAndOrderFit h
    | halt c => exact h
    | cancel => exact h
  own s t ho h := ho.tableAndOrderFit h
  confirm s n b g _ _ _ h :=
    ⟨tableShape_modBatch h.1 _ _ (fun _ => rfl) fun _ => rfl,
      tableSized_modBatch h.2.1 _ _ (fun _ => List.length_map ..) fun _ h => h, h.2.2⟩
  clock _ _ _ h := h
  release _ _ _ _ _ h := h
  same s t hst h := by
    obtain ⟨c, st, pw, n, q, -, rfl⟩ := hst
    exact h
  retained s h := s.tableFits_iff.mpr ⟨h.1, h.2.1⟩
  defaults := ⟨by decide, fun _ hb => absurd hb List.not_mem_nil, List.nodup_nil,
    fun _ hb => absurd hb List.not_mem_nil⟩
  fresh r clock now store stretch start pending hr _ :=
    ⟨_, State.startUpBatches_edits _, ((Retained.tableFits_iff r).mp hr).1, ((Retained.tableFits_iff r).mp hr).2,
      State.orderSized_none rfl⟩

/-! ### Claims (R130) -/

theorem State.claimsFree_spec {s : State} {b : Batch} (h : s.claimsFree b = true) :
    ∀ c ∈ stepClaims b.current, ∀ x ∈ s.traffic.batches, c ∉ x.claims := by
  intro c hc x hx hcx
  unfold State.claimsFree at h
  rw [Bool.and_eq_true] at h
  have hfree := List.all_eq_true.mp h.1 c hc
  rw [Option.isNone_iff_eq_none, State.claimant, List.find?_eq_none] at hfree
  exact hfree x hx (List.contains_iff_mem.mpr hcx)

theorem State.claimsFit_map {s : State} (h : s.claimsFit) (f : Batch → Batch)
    (hf : ∀ b ∈ s.traffic.batches, ∀ c ∈ (f b).claims, c ∈ b.claims) :
    (s.setBatches (s.traffic.batches.map f)).claimsFit := by
  refine List.pairwise_map.mpr (List.Pairwise.imp_of_mem (fun {a b} ha hb hab c hc hcb => ?_) h)
  exact hab c (hf a ha c hc) (hf b hb c hcb)

theorem State.claimsFit_modBatch {s : State} (h : s.claimsFit) (n : Nat) (f : Batch → Batch)
    (hf : ∀ b, ∀ c ∈ (f b).claims, c ∈ b.claims) : (s.modBatch n f).claimsFit :=
  State.claimsFit_map h _ fun b _ => by
    split
    · exact hf b
    · exact fun _ hc => hc

/-- A step that takes its claims takes chambers that no batch claims. -/
theorem State.claimsFit_claim {s : State} {b : Batch} (h : s.claimsFit) (hs : tableShape s.traffic.batches)
    (hb : s.claimsFree b = true) : (s.modStep b.number fun r => { r with claims := stepClaims b.current }).claimsFit := by
  have hfree := State.claimsFree_spec hb
  have hne : s.traffic.batches.Pairwise fun x y => x.number ≠ y.number := List.pairwise_map.mp hs.2.2
  refine List.pairwise_map.mpr (List.Pairwise.imp_of_mem (fun {x y} hx hy hxy c => ?_) (h.and hne))
  obtain ⟨hclaims, hnum⟩ := hxy
  have hnew : ∀ z : Batch, c ∈ Batch.claims { z with step := z.step.map fun r => { r with claims := stepClaims b.current } } →
      c ∈ stepClaims b.current := by
    intro z hc
    cases hz : z.step with
    | none => simp [Batch.claims, hz] at hc
    | some r => simpa [Batch.claims, hz] using hc
  split_ifs with h1 h2 h2
  · exact absurd (h1.trans h2.symm) hnum
  · exact fun hc => hfree c (hnew x hc) y hy
  · exact fun hc hcy => hfree c (hnew y hcy) x hx hc
  · exact hclaims c

/-- The second invariant of O9, with what it needs of the table. -/
def State.claimsAndShapeFit (s : State) : Prop := tableShape s.traffic.batches ∧ s.claimsFit

theorem Edit.claimsAndShapeFit {s t : State} (he : Edit s t) (h : s.claimsAndShapeFit) : t.claimsAndShapeFit := by
  refine ⟨he.tableShape h.1, ?_⟩
  obtain ⟨hshape, hclaims⟩ := h
  cases he with
  | batches f hf => exact State.claimsFit_map hclaims f fun b hb => (hf b hb).claims
  | claim b hb => exact State.claimsFit_claim hclaims hshape hb
  | @admission u d e ms ha he ns =>
    have hnone : (u.newBatch d e ms).claims = [] := rfl
    refine List.pairwise_append.mpr ⟨ha.batches_eq ▸ hclaims, List.pairwise_singleton _ _, fun a _ b hb c _ => ?_⟩
    rw [List.mem_singleton.mp hb, hnone]
    exact List.not_mem_nil
  | complete b hb => exact hclaims.sublist List.filter_sublist
  | _ => exact hclaims

theorem OwnEdit.claimsAndShapeFit {s t : State} (ho : OwnEdit s t) (h : s.claimsAndShapeFit) : t.claimsAndShapeFit := by
  refine ⟨ho.tableShape h.1, ?_⟩
  obtain ⟨hshape, hclaims⟩ := h
  cases ho with
  | renumber | queueLimits m l => exact State.claimsFit_map hclaims _ fun _ _ _ hc => hc
  | abandon n b hb he => exact hclaims.sublist List.filter_sublist
  | resume n b hb hs =>
    exact State.claimsFit_modBatch hclaims _ _ fun _ c hc => absurd (show c ∈ ([] : List Chamber) from hc) List.not_mem_nil
  | _ => exact hclaims

theorem claimsAndShapeFit_invariant : StepInvariant State.claimsAndShapeFit fun r => tableShape r.batches where
  turn s t ht h := by
    cases ht with
    | edit he => exact he.claimsAndShapeFit h
    | halt c => exact h
    | cancel => exact h
  own s t ho h := ho.claimsAndShapeFit h
  confirm s n b g _ _ _ h :=
    ⟨tableShape_modBatch h.1 _ _ (fun _ => rfl) fun _ => rfl, State.claimsFit_modBatch h.2 _ _ fun _ _ hc => hc⟩
  clock _ _ _ h := h
  release _ _ _ _ _ h := h
  same s t hst h := by
    obtain ⟨c, st, pw, n, q, -, rfl⟩ := hst
    exact h
  retained s h := (tableShape_retained _).mpr h.1
  defaults := ⟨by decide, fun _ hb => absurd hb List.not_mem_nil, List.nodup_nil⟩
  fresh r clock now store stretch start pending hr _ := by
    refine ⟨_, .refl, ?_⟩
    obtain ⟨ns, hns⟩ := (State.fresh r clock now store stretch start pending).startUpBatches_spec
    rw [hns]
    refine ⟨hr.map (fun _ _ => rfl) fun _ _ => rfl, List.pairwise_map.mpr (List.pairwise_of_forall fun a b c hc => ?_)⟩
    exact absurd (show c ∈ ([] : List Chamber) from hc) List.not_mem_nil

/-! ### Editions (R154) -/

/-- An edition number stands in the current or the previous slot. -/
def Tolls.holds (t : Tolls) (n : Nat) : Prop :=
  (∃ e, t.current = some e ∧ e.number = n) ∨ ∃ e, t.previous = some e ∧ e.number = n

theorem State.editionsFit_iff (s : State) :
    s.retainedOf.editionsFit ↔ ∀ b ∈ s.traffic.batches, s.toll.holds b.edition := by
  change (∀ b ∈ s.traffic.batches.map Batch.retained, s.toll.holds b.edition) ↔ _
  simp [Batch.retained]

theorem State.editionsFit_map {s : State} (h : s.retainedOf.editionsFit) (f : Batch → Batch)
    (hf : ∀ b ∈ s.traffic.batches, (f b).edition = b.edition) :
    (s.setBatches (s.traffic.batches.map f)).retainedOf.editionsFit := by
  rw [State.editionsFit_iff] at h ⊢
  intro x hx
  obtain ⟨b, hb, rfl⟩ := List.mem_map.mp hx
  rw [hf b hb]
  exact h b hb

theorem State.editionsFit_sublist {s t : State} (h : s.retainedOf.editionsFit) (ht : t.toll.current = s.toll.current)
    (hp : t.toll.previous = s.toll.previous) (hs : t.traffic.batches.Sublist s.traffic.batches) :
    t.retainedOf.editionsFit := by
  rw [State.editionsFit_iff] at h ⊢
  intro b hb
  rw [Tolls.holds, ht, hp]
  exact h b (hs.subset hb)

theorem Edit.editionsFit {s t : State} (he : Edit s t) (h : s.retainedOf.editionsFit) : t.retainedOf.editionsFit := by
  cases he with
  | batches f hf => exact State.editionsFit_map h f fun b hb => (hf b hb).edition
  | claim b hb => exact State.editionsFit_map h _ fun x _ => by split <;> rfl
  | @admission u d e ms ha he ns =>
    have htoll : u.toll = s.toll := by
      rcases ha.state with rfl | rfl <;> rfl
    rw [State.editionsFit_iff] at h ⊢
    intro x hx
    change u.toll.holds x.edition
    rw [htoll]
    rcases List.mem_append.mp hx with hx | hx
    · exact h x (ha.batches_eq ▸ hx)
    · rw [List.mem_singleton.mp hx]
      exact .inl ⟨e, he, rfl⟩
  | complete b hb => exact State.editionsFit_sublist h rfl rfl List.filter_sublist
  | _ => exact h

/-- R154: a switch is refused while a batch is under the previous edition. -/
theorem State.switchRefusal_previous {s : State} (h : s.switchRefusal = none) {q : Edition}
    (hq : s.toll.previous = some q) : ∀ b ∈ s.traffic.batches, b.edition ≠ q.number := by
  unfold State.switchRefusal at h
  rw [hq] at h
  split at h
  · exact nomatch h
  · dsimp only at h
    split_ifs at h with hsame hunder
    rw [State.batchesUnder, List.length_eq_zero_iff, List.filter_eq_nil_iff] at hunder
    exact fun b hb he => hunder b hb (beq_iff_eq.mpr he)

theorem OwnEdit.editionsFit {s t : State} (ho : OwnEdit s t) (h : s.retainedOf.editionsFit) :
    t.retainedOf.editionsFit := by
  cases ho with
  | renumber | queueLimits m l =>
    exact State.editionsFit_map h (fun b => { b with members := b.members.map _ }) fun _ _ => rfl
  | abandon n b hb he => exact State.editionsFit_sublist h rfl rfl List.filter_sublist
  | resume n b hb hs => exact State.editionsFit_map h _ fun x _ => by split <;> rfl
  | switch hr =>
    rw [State.editionsFit_iff] at h ⊢
    intro b hb
    rcases h b hb with hcur | ⟨q, hq, hn⟩
    · exact .inr hcur
    · exact absurd hn.symm (State.switchRefusal_previous hr hq b hb)
  | _ => exact h

theorem editionsFit_invariant : StepInvariant (fun s => s.retainedOf.editionsFit) Retained.editionsFit where
  turn s t ht h := by
    cases ht with
    | edit he => exact he.editionsFit h
    | halt c => exact h
    | cancel => exact h
  own s t ho h := ho.editionsFit h
  confirm s n b g _ _ _ h := State.editionsFit_map h _ fun x _ => by split <;> rfl
  clock _ _ _ h := h
  release _ _ _ _ _ h := h
  same s t hst h := by
    obtain ⟨c, st, pw, n, q, -, rfl⟩ := hst
    exact h
  retained _ h := h
  defaults := fun _ hb => absurd hb List.not_mem_nil
  fresh r clock now store stretch start pending hr _ := by
    refine ⟨_, State.startUpBatches_edits _, ?_⟩
    rw [State.editionsFit_iff]
    exact hr

/-- Settles O9: a batch is admitted under a free number and the current edition, of 1 to 4 members; its step takes
chambers that no batch claims, and a switch waits for the batches of the edition it drops. -/
theorem batchTableFits : Obligations.BatchTableFits := by
  refine ⟨?_, ?_, fun s t h hst => editionsFit_invariant.step trivial h.1 h.2 hst⟩
  · rintro s t ⟨⟨hret, hstore⟩, horder⟩ hst
    obtain ⟨hshape, hsized⟩ := s.tableFits_iff.mp hret
    obtain ⟨ht, hstore'⟩ := tableAndOrderFit_invariant.step trivial ⟨hshape, hsized, horder⟩ hstore hst
    exact ⟨⟨t.tableFits_iff.mpr ⟨ht.1, ht.2.1⟩, hstore'⟩, ht.2.2⟩
  · rintro s t ⟨⟨hret, hupd, hA, hB⟩, hclaims⟩ hst
    have hshape : ∀ r : Retained, r.tableFits → tableShape r.batches := fun r hr => ((Retained.tableFits_iff r).mp hr).1
    exact (claimsAndShapeFit_invariant.step trivial ⟨(s.tableFits_iff.mp hret).1, hclaims⟩
      ⟨fun r hr => hshape r (hupd r hr), fun i hi => hshape _ (hA i hi), fun i hi => hshape _ (hB i hi)⟩ hst).1.2

end Sys2Proof.Machine
end

section
/-! THE QUEUES: the order of the approach queues, and that every passage record stands in one place (O10). -/

namespace Sys2Proof.Machine

/-! ### What happens to the records of a queue -/

/-- The records a set of numbers is admitted from keep whatever a raised skip count leaves alone. -/
theorem skipAhead_map {β : Type} {limit : Nat} (g : Passage → β) (hg : ∀ p, g (raiseSkips limit p) = g p)
    (names : List Nat) (q : List Passage) : (skipAhead limit names q).map g = q.map g := by
  induction q with
  | nil => rfl
  | cons p rest ih =>
    rw [skipAhead]
    split
    · rw [List.map_cons, List.map_cons, hg, ih]
    · rw [List.map_cons, List.map_cons, ih]

theorem mem_skipAhead {limit : Nat} {names : List Nat} {q : List Passage} {p : Passage}
    (h : p ∈ skipAhead limit names q) : ∃ x ∈ q, p = x ∨ p = raiseSkips limit x := by
  induction q with
  | nil => exact absurd h List.not_mem_nil
  | cons y rest ih =>
    have hrest : p ∈ skipAhead limit names rest → ∃ x ∈ y :: rest, p = x ∨ p = raiseSkips limit x := fun h =>
      have ⟨x, hx, hp⟩ := ih h
      ⟨x, List.mem_cons_of_mem y hx, hp⟩
    rw [skipAhead] at h
    split at h
    · rcases List.mem_cons.mp h with rfl | h
      · exact ⟨y, List.mem_cons_self, .inr rfl⟩
      · exact hrest h
    · rcases List.mem_cons.mp h with rfl | h
      · exact ⟨p, List.mem_cons_self, .inl rfl⟩
      · exact hrest h

theorem mem_leftBehind {limit : Nat} {names : List Nat} {q : List Passage} {p : Passage}
    (h : p ∈ leftBehind limit names q) : ∃ x ∈ q, p = x ∨ p = raiseSkips limit x :=
  mem_skipAhead (List.mem_filter.mp h).1

theorem placePassage_perm (p : Passage) (q : List Passage) : (placePassage p q).Perm (p :: q) := by
  induction q with
  | nil => exact .refl _
  | cons x rest ih =>
    rw [placePassage]
    split
    · exact (ih.cons x).trans (.swap p x rest)
    · exact .refl _

theorem returnAll_perm (ms : List Passage) :
    ∀ q, (ms.foldl (fun q p => placePassage (returned p) q) q).Perm (ms.map returned ++ q) := by
  induction ms with
  | nil => exact fun q => .refl q
  | cons p ps ih => exact fun q => (ih _).trans (((placePassage_perm _ q).append_left _).trans List.perm_middle)

/-- R119: the members of a new batch are the records in the order given, with their entry positions. -/
theorem admitAll_eq (n : Nat) (ms : List Passage) :
    ∀ k, admitAll n (k + 1) ms = (ms.zipIdx k).map fun x => admitted n (x.2 + 1) x.1 := by
  induction ms with
  | nil => exact fun _ => rfl
  | cons p ps ih => exact fun k => congrArg (admitted n (k + 1) p :: ·) (ih (k + 1))

theorem mem_admitAll {n : Nat} {ms : List Passage} {x : Passage} (h : x ∈ admitAll n 1 ms) :
    ∃ p ∈ ms, ∃ i, x = admitted n i p := by
  rw [admitAll_eq n ms 0] at h
  obtain ⟨y, hy, rfl⟩ := List.mem_map.mp h
  exact ⟨y.1, (List.mem_zipIdx' hy).2 ▸ List.getElem_mem _, _, rfl⟩

theorem State.queueOf_withQueue (s : State) (d e : Direction) (q : List Passage) :
    (s.setTraffic (s.traffic.withQueue d q)).queueOf e = if e = d then q else s.queueOf e := by
  cases d <;> cases e <;> rfl

theorem State.mem_queueOf {s : State} {p : Passage} : p ∈ s.traffic.up ++ s.traffic.down ↔ ∃ d, p ∈ s.queueOf d := by
  rw [List.mem_append]
  constructor
  · rintro (h | h)
    · exact ⟨.up, h⟩
    · exact ⟨.down, h⟩
  · rintro ⟨d, h⟩
    cases d
    · exact .inl h
    · exact .inr h

theorem State.queued?_some {s : State} {n : Nat} {p : Passage} (h : s.queued? n = some p) :
    p.number = n ∧ ∃ d, p ∈ s.queueOf d := by
  rw [State.queued?] at h
  exact ⟨beq_iff_eq.mp (List.find?_some (p := fun p : Passage => p.number == n) h),
    State.mem_queueOf.mp (List.mem_of_find?_eq_some h)⟩

theorem Admits.mem_queues {s u : State} {d : Direction} {ms : List Passage} (h : Admits s u d ms) :
    ∀ p ∈ ms, ∃ e, p ∈ s.queueOf e := by
  intro p hp
  cases h with
  | automatic h hm =>
    obtain ⟨rfl, -⟩ := s.automaticBatch_some h
    exact ⟨d, (s.pack_spec d).1.subset hp⟩
  | order o h hf ho =>
    obtain ⟨n, -, hn⟩ := List.mem_filterMap.mp hp
    exact (State.queued?_some hn).2

/-! ### The order of the queues (R103, R108) -/

/-- R103: a queue stands in the order of group and stamp. -/
def queueSorted (q : List Passage) : Prop := q.Pairwise fun a b => standsBefore a b = true

theorem standsBefore_total (a b : Passage) : standsBefore a b = true ∨ standsBefore b a = true := by
  unfold standsBefore
  by_cases h : firstGroup a = firstGroup b
  · rw [if_pos h, if_pos h.symm, decide_eq_true_eq, decide_eq_true_eq]
    exact Nat.le_total _ _
  · rw [if_neg h, if_neg fun h' => h h'.symm]
    cases ha : firstGroup a
    · cases hb : firstGroup b
      · exact absurd (ha.trans hb.symm) h
      · exact .inr rfl
    · exact .inl rfl

theorem standsBefore_trans {a b c : Passage} (h1 : standsBefore a b = true) (h2 : standsBefore b c = true) :
    standsBefore a c = true := by
  unfold standsBefore at *
  cases ha : firstGroup a <;> cases hb : firstGroup b <;> cases hc : firstGroup c <;>
    simp only [ha, hb, hc, reduceIte, decide_eq_true_eq, Bool.false_eq_true, Bool.true_eq_false] at h1 h2 ⊢ <;> omega

theorem queueSorted.place {q : List Passage} (h : queueSorted q) (p : Passage) : queueSorted (placePassage p q) := by
  induction q with
  | nil => exact List.pairwise_singleton _ _
  | cons x rest ih =>
    obtain ⟨hx, hrest⟩ := List.pairwise_cons.mp h
    rw [placePassage]
    split
    · rename_i hxp
      refine List.pairwise_cons.mpr ⟨fun y hy => ?_, ih hrest⟩
      rcases List.mem_cons.mp ((placePassage_perm p rest).mem_iff.mp hy) with rfl | hy
      · exact hxp
      · exact hx y hy
    · rename_i hxp
      have hpx := (standsBefore_total x p).resolve_left hxp
      refine List.pairwise_cons.mpr ⟨fun y hy => ?_, h⟩
      rcases List.mem_cons.mp hy with rfl | hy
      · exact hpx
      · exact standsBefore_trans hpx (hx y hy)

theorem queueSorted.returnAll (ms : List Passage) : ∀ {q : List Passage}, queueSorted q →
    queueSorted (ms.foldl (fun q p => placePassage (returned p) q) q) := by
  induction ms with
  | nil => exact fun h => h
  | cons p ps ih => exact fun h => ih (h.place _)

theorem queueSorted.map {q : List Passage} (h : queueSorted q) (f : Passage → Passage)
    (hf : ∀ a ∈ q, ∀ b ∈ q, standsBefore a b = true → standsBefore (f a) (f b) = true) : queueSorted (q.map f) :=
  List.pairwise_map.mpr (List.Pairwise.imp_of_mem (fun {a b} ha hb => hf a ha b hb) h)

/-- R103: the order of two records, by what it reads of them. -/
def keyBefore (a b : Priority × Nat) : Bool :=
  if (a.1 != .ordinary) = (b.1 != .ordinary) then decide (a.2 ≤ b.2) else a.1 != .ordinary

theorem queueSorted_iff (q : List Passage) :
    queueSorted q ↔ (q.map fun p => (p.priority, p.stamp)).Pairwise fun a b => keyBefore a b = true := by
  rw [List.pairwise_map]
  exact Iff.rfl

theorem queueSorted.leftBehind {q : List Passage} (h : queueSorted q) (limit : Nat) (names : List Nat) :
    queueSorted (leftBehind limit names q) := by
  have hskip : queueSorted (skipAhead limit names q) := by
    rw [queueSorted_iff, skipAhead_map _ fun _ => rfl, ← queueSorted_iff]
    exact h
  exact hskip.sublist List.filter_sublist

/-- The passages of the retained state are those held. -/
theorem State.retained_passages (s : State) :
    s.retainedOf.up ++ s.retainedOf.down ++ s.retainedOf.batches.flatMap (·.members) = s.allPassages := by
  have hmembers : (s.traffic.batches.map Batch.retained).flatMap (·.members) =
      s.traffic.batches.flatMap (·.members) := by
    rw [List.flatMap_map]
    rfl
  exact congrArg (s.traffic.up ++ s.traffic.down ++ ·) hmembers

/-- The first invariant of O10, with the batches as they stand. -/
theorem State.queuesFit_iff (s : State) : s.retainedOf.queuesFit ↔
    (∀ d, queueSorted (s.queueOf d)) ∧ ∀ p ∈ s.allPassages, p.skips ≤ s.traffic.skipLimit := by
  rw [Retained.queuesFit, s.retained_passages]
  constructor
  · rintro ⟨hup, hdown, hskips⟩
    exact ⟨fun d => by cases d; exacts [hup, hdown], hskips⟩
  · rintro ⟨hq, hskips⟩
    exact ⟨hq .up, hq .down, hskips⟩

theorem State.mem_allPassages {s : State} {p : Passage} :
    p ∈ s.allPassages ↔ (∃ d, p ∈ s.queueOf d) ∨ ∃ b ∈ s.traffic.batches, p ∈ b.members := by
  rw [State.allPassages, List.mem_append, State.mem_queueOf, List.mem_flatMap]

theorem State.queuesFit_setBatches {s : State} (h : s.retainedOf.queuesFit) (f : Batch → Batch)
    (hf : ∀ b ∈ s.traffic.batches, ∀ p ∈ (f b).members, ∃ x ∈ b.members, p.skips = x.skips) :
    (s.setBatches (s.traffic.batches.map f)).retainedOf.queuesFit := by
  rw [State.queuesFit_iff] at h ⊢
  refine ⟨h.1, fun p hp => ?_⟩
  rcases State.mem_allPassages.mp hp with hq | ⟨y, hy, hpy⟩
  · exact h.2 p (State.mem_allPassages.mpr (.inl hq))
  · obtain ⟨b, hb, rfl⟩ := List.mem_map.mp hy
    obtain ⟨x, hx, hskip⟩ := hf b hb p hpy
    rw [hskip]
    exact h.2 x (State.mem_allPassages.mpr (.inr ⟨b, hb, hx⟩))

theorem State.queuesFit_modBatch {s : State} (h : s.retainedOf.queuesFit) (n : Nat) (f : Batch → Batch)
    (hf : ∀ b, ∀ p ∈ (f b).members, ∃ x ∈ b.members, p.skips = x.skips) : (s.modBatch n f).retainedOf.queuesFit :=
  State.queuesFit_setBatches h _ fun b _ => by
    split
    · exact hf b
    · exact fun p hp => ⟨p, hp, rfl⟩

/-- The records of a queue may change place and the table lose batches, as long as the skip counts come from
records held. -/
theorem State.queuesFit_of {s t : State} (h : s.retainedOf.queuesFit) (hlimit : t.traffic.skipLimit = s.traffic.skipLimit)
    (hq : ∀ d, queueSorted (t.queueOf d))
    (hp : ∀ p ∈ t.allPassages, p.skips ≤ s.traffic.skipLimit ∨ ∃ x ∈ s.allPassages, p.skips = x.skips) :
    t.retainedOf.queuesFit := by
  rw [State.queuesFit_iff] at h ⊢
  refine ⟨hq, fun p hpt => ?_⟩
  rw [hlimit]
  rcases hp p hpt with hle | ⟨x, hx, heq⟩
  · exact hle
  · exact heq ▸ h.2 x hx

theorem State.queuesFit_sorted {s : State} (h : s.retainedOf.queuesFit) (d : Direction) : queueSorted (s.queueOf d) :=
  (s.queuesFit_iff.mp h).1 d

theorem Admits.queuesFit {s u : State} {d : Direction} {ms : List Passage} (ha : Admits s u d ms) (e : Edition)
    (ns : List Notice) (h : s.retainedOf.queuesFit) :
    (({ u with traffic := u.admittedTraffic d e ms } : State).withNotices ns).retainedOf.queuesFit := by
  have hu : u.queueOf = s.queueOf ∧ u.traffic.skipLimit = s.traffic.skipLimit := by
    rcases ha.state with rfl | rfl <;> exact ⟨rfl, rfl⟩
  have hqueue : ∀ c, (({ u with traffic := u.admittedTraffic d e ms } : State).withNotices ns).queueOf c =
      if c = d then leftBehind s.traffic.skipLimit (ms.map (·.number)) (s.queueOf d) else s.queueOf c := by
    intro c
    rw [← hu.1, ← hu.2]
    exact u.queueOf_withQueue d c _
  refine State.queuesFit_of h hu.2 (fun c => ?_) fun p hp => ?_
  · rw [hqueue]
    split
    · exact (State.queuesFit_sorted h d).leftBehind _ _
    · exact State.queuesFit_sorted h c
  · rcases State.mem_allPassages.mp hp with ⟨c, hc⟩ | ⟨b, hb, hpb⟩
    · rw [hqueue] at hc
      split at hc
      · obtain ⟨x, hx, rfl | rfl⟩ := mem_leftBehind hc
        · exact .inr ⟨p, State.mem_allPassages.mpr (.inl ⟨d, hx⟩), rfl⟩
        · exact .inl (Nat.min_le_left _ _)
      · exact .inr ⟨p, State.mem_allPassages.mpr (.inl ⟨c, hc⟩), rfl⟩
    · rcases List.mem_append.mp hb with hb | hb
      · exact .inr ⟨p, State.mem_allPassages.mpr (.inr ⟨b, ha.batches_eq ▸ hb, hpb⟩), rfl⟩
      · rw [List.mem_singleton.mp hb] at hpb
        obtain ⟨x, hx, i, rfl⟩ := mem_admitAll hpb
        exact .inr ⟨x, State.mem_allPassages.mpr (.inl (ha.mem_queues x hx)), rfl⟩

theorem Edit.queuesFit {s t : State} (he : Edit s t) (h : s.retainedOf.queuesFit) : t.retainedOf.queuesFit := by
  cases he with
  | batches f hf => exact State.queuesFit_setBatches h f fun b hb p hp => ⟨p, (hf b hb).members ▸ hp, rfl⟩
  | claim b hb => exact State.queuesFit_modBatch h _ _ fun b p hp => ⟨p, hp, rfl⟩
  | admission ha he ns => exact ha.queuesFit _ ns h
  | complete b hb =>
    refine State.queuesFit_of h rfl (fun d => State.queuesFit_sorted (s := s) h d) fun p hp => .inr ⟨p, ?_, rfl⟩
    exact State.mem_allPassages.mpr ((State.mem_allPassages.mp hp).imp_right
      fun ⟨x, hx, hpx⟩ => ⟨x, (List.mem_filter.mp hx).1, hpx⟩)
  | _ => exact h

theorem stampRank_mono {s : State} {a b : Passage} (h : a.stamp ≤ b.stamp) : s.stampRank a ≤ s.stampRank b :=
  (List.monotone_filter_right s.allPassages fun q hq => by
    simp only [decide_eq_true_eq] at hq ⊢
    omega).length_le

theorem standsBefore_renumbered (s : State) {a b : Passage} (h : standsBefore a b = true) :
    standsBefore { a with stamp := s.stampRank a } { b with stamp := s.stampRank b } = true := by
  unfold standsBefore at h ⊢
  change (if firstGroup a = firstGroup b then decide (s.stampRank a ≤ s.stampRank b) else firstGroup a) = true
  split at h
  · rename_i hg
    rw [if_pos hg]
    exact decide_eq_true (stampRank_mono (of_decide_eq_true h))
  · rename_i hg
    rw [if_neg hg]
    exact h

theorem State.renumber_queueOf (s : State) (d : Direction) :
    s.renumber.queueOf d = (s.queueOf d).map fun p => { p with stamp := s.stampRank p } := by
  cases d <;> rfl

theorem State.lowerAllSkips_queueOf (s : State) (limit : Nat) (d : Direction) :
    (s.lowerAllSkips limit).queueOf d = (s.queueOf d).map (lowerSkips limit) := by
  cases d <;> rfl

theorem State.queuesFit_renumber {s : State} (h : s.retainedOf.queuesFit) : s.renumber.retainedOf.queuesFit := by
  refine State.queuesFit_of h rfl (fun d => ?_) fun p hp => .inr ?_
  · rw [State.renumber_queueOf]
    exact (State.queuesFit_sorted h d).map _ fun a _ b _ => standsBefore_renumbered s
  · rcases State.mem_allPassages.mp hp with ⟨d, hd⟩ | ⟨b, hb, hpb⟩
    · rw [State.renumber_queueOf] at hd
      obtain ⟨x, hx, rfl⟩ := List.mem_map.mp hd
      exact ⟨x, State.mem_allPassages.mpr (.inl ⟨d, hx⟩), rfl⟩
    · obtain ⟨y, hy, rfl⟩ := List.mem_map.mp hb
      obtain ⟨x, hx, rfl⟩ := List.mem_map.mp hpb
      exact ⟨x, State.mem_allPassages.mpr (.inr ⟨y, hy, hx⟩), rfl⟩

theorem State.queuesFit_lowerAllSkips {s : State} (limit : Nat) (hl : s.traffic.skipLimit = limit)
    (h : ∀ d, queueSorted (s.queueOf d)) : (s.lowerAllSkips limit).retainedOf.queuesFit := by
  rw [State.queuesFit_iff]
  have hlower : ∀ p, (lowerSkips limit p).skips ≤ (s.lowerAllSkips limit).traffic.skipLimit := fun p =>
    (Nat.min_le_left _ _).trans_eq hl.symm
  refine ⟨fun d => ?_, fun p hp => ?_⟩
  · rw [State.lowerAllSkips_queueOf]
    exact (h d).map _ fun _ _ _ _ hab => hab
  · rcases State.mem_allPassages.mp hp with ⟨d, hd⟩ | ⟨b, hb, hpb⟩
    · rw [State.lowerAllSkips_queueOf] at hd
      obtain ⟨x, -, rfl⟩ := List.mem_map.mp hd
      exact hlower x
    · obtain ⟨y, -, rfl⟩ := List.mem_map.mp hb
      obtain ⟨x, -, rfl⟩ := List.mem_map.mp hpb
      exact hlower x

/-- One queue takes a new form of records held, or of new ones with no skips; the table loses batches. -/
theorem State.queuesFit_withQueue {s t : State} (h : s.retainedOf.queuesFit) (d : Direction) (q : List Passage)
    (hlimit : t.traffic.skipLimit = s.traffic.skipLimit)
    (hq : ∀ e, t.queueOf e = if e = d then q else s.queueOf e) (hsorted : queueSorted q)
    (hskips : ∀ p ∈ q, p.skips = 0 ∨ ∃ x ∈ s.allPassages, p.skips = x.skips)
    (hb : ∀ b ∈ t.traffic.batches, b ∈ s.traffic.batches) : t.retainedOf.queuesFit := by
  refine State.queuesFit_of h hlimit (fun e => ?_) fun p hp => ?_
  · rw [hq]
    split
    · exact hsorted
    · exact State.queuesFit_sorted h e
  · rcases State.mem_allPassages.mp hp with ⟨e, he⟩ | ⟨b, hbt, hpb⟩
    · rw [hq] at he
      split at he
      · exact (hskips p he).imp_left fun h0 : p.skips = 0 => h0.trans_le (Nat.zero_le _)
      · exact .inr ⟨p, State.mem_allPassages.mpr (.inl ⟨e, he⟩), rfl⟩
    · exact .inr ⟨p, State.mem_allPassages.mpr (.inr ⟨b, hb b hbt, hpb⟩), rfl⟩

theorem State.queueOf_added (s : State) (p : Passage) (e : Direction) :
    (s.setTraffic (s.addedTraffic p)).queueOf e =
      if e = p.direction then placePassage p (s.queueOf p.direction) else s.queueOf e :=
  s.queueOf_withQueue p.direction e _

theorem State.queueOf_withdrawn (s : State) (n : Nat) (p : Passage) (e : Direction) :
    (s.setTraffic (s.withdrawnTraffic n p)).queueOf e =
      if e = p.direction then (s.queueOf p.direction).filter (fun q => q.number != p.number) else s.queueOf e :=
  s.queueOf_withQueue p.direction e _

theorem State.queueOf_abandoned (s : State) (n : Nat) (b : Batch) (e : Direction) :
    ((s.setAccount (s.abandonAccount b)).setTraffic (s.abandonedTraffic n b)).queueOf e =
      if e = b.direction then b.members.foldl (fun q p => placePassage (returned p) q) (s.queueOf b.direction)
      else s.queueOf e :=
  s.queueOf_withQueue b.direction e _

theorem OwnEdit.queuesFit {s t : State} (ho : OwnEdit s t) (h : s.retainedOf.queuesFit) : t.retainedOf.queuesFit := by
  cases ho with
  | renumber => exact State.queuesFit_renumber h
  | register a d p hm hq =>
    refine State.queuesFit_withQueue h d _ rfl (s.queueOf_added (s.newPassage a d p))
      ((State.queuesFit_sorted h d).place _) (fun x hx => ?_) fun b hb => hb
    rcases List.mem_cons.mp ((placePassage_perm _ _).mem_iff.mp hx) with rfl | hx
    · exact .inl rfl
    · exact .inr ⟨x, State.mem_allPassages.mpr (.inl ⟨d, hx⟩), rfl⟩
  | withdraw n p hp =>
    exact State.queuesFit_withQueue h p.direction _ rfl (s.queueOf_withdrawn n p)
      ((State.queuesFit_sorted h _).sublist List.filter_sublist)
      (fun x hx => .inr ⟨x, State.mem_allPassages.mpr (.inl ⟨_, (List.mem_filter.mp hx).1⟩), rfl⟩) fun b hb => hb
  | queueLimits m l =>
    exact State.queuesFit_lowerAllSkips _ rfl fun d => State.queuesFit_sorted (s := s) h d
  | abandon n b hb he =>
    refine State.queuesFit_withQueue h b.direction _ rfl (s.queueOf_abandoned n b)
      ((State.queuesFit_sorted h _).returnAll _) (fun x hx => .inr ?_) fun b hb => (List.mem_filter.mp hb).1
    rcases List.mem_append.mp ((returnAll_perm _ _).mem_iff.mp hx) with hx | hx
    · obtain ⟨y, hy, rfl⟩ := List.mem_map.mp hx
      exact ⟨y, State.mem_allPassages.mpr (.inr ⟨b, s.batch_mem hb, hy⟩), rfl⟩
    · exact ⟨x, State.mem_allPassages.mpr (.inl ⟨_, hx⟩), rfl⟩
  | resume n b hb hs => exact State.queuesFit_modBatch h _ _ fun b p hp => ⟨p, hp, rfl⟩
  | _ => exact h

theorem queuesFit_invariant : StepInvariant (fun s => s.retainedOf.queuesFit) Retained.queuesFit where
  turn s t ht h := by
    cases ht with
    | edit he => exact he.queuesFit h
    | halt c => exact h
    | cancel => exact h
  own s t ho h := ho.queuesFit h
  confirm s n b g _ _ _ h := State.queuesFit_modBatch h _ _ fun b p hp => by
    obtain ⟨x, hx, rfl⟩ := List.mem_map.mp hp
    exact ⟨x, hx, rfl⟩
  clock _ _ _ h := h
  release _ _ _ _ _ h := h
  same s t hst h := by
    obtain ⟨c, st, pw, n, q, -, rfl⟩ := hst
    exact h
  retained _ h := h
  defaults := ⟨List.Pairwise.nil, List.Pairwise.nil, fun _ hp => (defaults_no_passage hp).elim⟩
  fresh r clock now store stretch start pending hr _ := by
    refine ⟨_, State.startUpBatches_edits _, ?_⟩
    rw [State.queuesFit_iff]
    exact ⟨fun d => by cases d; exacts [hr.1, hr.2.1], hr.2.2⟩

end Sys2Proof.Machine
end

section
/-! THE PLACE OF EVERY PASSAGE: each record stands in one queue or one batch, and says so (O10). -/

namespace Sys2Proof.Machine

/-! ### Passages, queues and batches -/

/-- R104: the members a queue of a direction still waits for in a table. -/
def waitingIn (bs : List Batch) (d : Direction) : Nat :=
  natSum ((bs.filter fun b => b.direction == d && !b.entered).map fun b => b.members.length)

/-- R99: a member of a batch says so, with its entry position. -/
def memberStands (b : Batch) (x : Passage × Nat) : Prop :=
  x.1.direction = b.direction ∧ x.1.state ≠ .queued ∧ x.1.location ≠ .queue ∧ x.1.batch = some (b.number, x.2 + 1)

/-- R99: a record of a queue says so. -/
def queuedIn (d : Direction) (p : Passage) : Prop :=
  p.state = .queued ∧ p.location = .queue ∧ p.batch = none ∧ p.direction = d

/-- R99, R101, R104: the first part of the fifth law, of two queues and a table. -/
structure PassagesStand (Q : Direction → List Passage) (bs : List Batch) : Prop where
  numbers : ((Q .up ++ Q .down ++ bs.flatMap (·.members)).map (·.number)).Nodup
  queued : ∀ d, ∀ p ∈ Q d, queuedIn d p
  members : ∀ b ∈ bs, ∀ x ∈ b.members.zipIdx, memberStands b x
  room : ∀ d, (Q d).length + waitingIn bs d ≤ 24

theorem Retained.passagesFit_iff (r : Retained) {Q : Direction → List Passage} (hup : Q .up = r.up)
    (hdown : Q .down = r.down) : r.passagesFit ↔ PassagesStand Q r.batches := by
  constructor
  · rintro ⟨hnum, hqueued, hu, hd, hmembers, hru, hrd⟩
    refine ⟨by rw [hup, hdown]; exact hnum, fun d p hp => ?_, hmembers, fun d => ?_⟩
    · cases d
      · rw [hup] at hp
        obtain ⟨h1, h2, h3⟩ := hqueued p (List.mem_append_left _ hp)
        exact ⟨h1, h2, h3, hu p hp⟩
      · rw [hdown] at hp
        obtain ⟨h1, h2, h3⟩ := hqueued p (List.mem_append_right _ hp)
        exact ⟨h1, h2, h3, hd p hp⟩
    · cases d
      · rw [hup]
        exact hru
      · rw [hdown]
        exact hrd
  · rintro ⟨hnum, hqueued, hmembers, hroom⟩
    have hu := hqueued .up
    have hd := hqueued .down
    have hru := hroom .up
    have hrd := hroom .down
    rw [hup] at hu hru
    rw [hdown] at hd hrd
    rw [hup, hdown] at hnum
    refine ⟨hnum, fun p hp => ?_, fun p hp => (hu p hp).2.2.2, fun p hp => (hd p hp).2.2.2, hmembers, hru, hrd⟩
    rcases List.mem_append.mp hp with hp | hp
    · exact ⟨(hu p hp).1, (hu p hp).2.1, (hu p hp).2.2.1⟩
    · exact ⟨(hd p hp).1, (hd p hp).2.1, (hd p hp).2.2.1⟩

/-- A batch's step record is no part of its passages' places. -/
theorem PassagesStand.retained_iff (Q : Direction → List Passage) (bs : List Batch) :
    PassagesStand Q (bs.map Batch.retained) ↔ PassagesStand Q bs := by
  have hall : (bs.map Batch.retained).flatMap (·.members) = bs.flatMap (·.members) := by
    rw [List.flatMap_map]
    rfl
  have hwait : ∀ d, waitingIn (bs.map Batch.retained) d = waitingIn bs d := fun d => by
    simp [waitingIn, List.filter_map, Function.comp_def, Batch.retained]
  have hmem : (∀ b ∈ bs.map Batch.retained, ∀ x ∈ b.members.zipIdx, memberStands b x) ↔
      ∀ b ∈ bs, ∀ x ∈ b.members.zipIdx, memberStands b x := List.forall_mem_map
  constructor
  · rintro ⟨hnum, hqueued, hmembers, hroom⟩
    exact ⟨hall ▸ hnum, hqueued, hmem.mp hmembers, fun d => hwait d ▸ hroom d⟩
  · rintro ⟨hnum, hqueued, hmembers, hroom⟩
    exact ⟨hall.symm ▸ hnum, hqueued, hmem.mpr hmembers, fun d => (hwait d).symm ▸ hroom d⟩

theorem State.passagesFit_iff (s : State) :
    s.retainedOf.passagesFit ↔ PassagesStand s.queueOf s.traffic.batches :=
  (s.retainedOf.passagesFit_iff rfl rfl).trans (PassagesStand.retained_iff _ _)

theorem PassagesStand.congr {Q Q' : Direction → List Passage} {bs : List Batch} (h : PassagesStand Q bs)
    (hq : ∀ d, Q' d = Q d) : PassagesStand Q' bs := by
  rwa [funext hq]

/-- The records of a queue and the table, beside those of the other queue. -/
theorem numbers_perm (Q : Direction → List Passage) (bs : List Batch) (d : Direction) :
    (Q .up ++ Q .down ++ bs.flatMap (·.members)).Perm (Q (otherDirection d) ++ (Q d ++ bs.flatMap (·.members))) := by
  cases d
  · rw [← List.append_assoc]
    exact List.Perm.append_right _ List.perm_append_comm
  · rw [← List.append_assoc]
    exact .refl _

theorem eq_or_otherDirection (c d : Direction) : c = d ∨ c = otherDirection d := by
  cases c <;> cases d <;> simp [otherDirection]

/-- A change of one queue and the table keeps every record in one place. -/
theorem PassagesStand.change {Q Q' : Direction → List Passage} {bs bs' : List Batch} (h : PassagesStand Q bs)
    (d : Direction) (hother : Q' (otherDirection d) = Q (otherDirection d))
    (hnum : List.Subperm ((Q' d ++ bs'.flatMap (·.members)).map (·.number))
      ((Q d ++ bs.flatMap (·.members)).map (·.number)))
    (hq : ∀ p ∈ Q' d, queuedIn d p) (hm : ∀ b ∈ bs', ∀ x ∈ b.members.zipIdx, memberStands b x)
    (hd : (Q' d).length + waitingIn bs' d ≤ 24)
    (ho : waitingIn bs' (otherDirection d) ≤ waitingIn bs (otherDirection d)) : PassagesStand Q' bs' := by
  refine ⟨?_, fun c => ?_, hm, fun c => ?_⟩
  · have hold := ((numbers_perm Q bs d).map (·.number)).nodup_iff.mp h.numbers
    refine ((numbers_perm Q' bs' d).map (·.number)).nodup_iff.mpr ?_
    rw [List.map_append, hother]
    rw [List.map_append] at hold
    obtain ⟨l, hperm, hsub⟩ := (List.subperm_append_left (Q (otherDirection d) |>.map (·.number))).mpr hnum
    exact hperm.nodup_iff.mp (hold.sublist hsub)
  · rcases eq_or_otherDirection c d with rfl | rfl
    · exact hq
    · rw [hother]
      exact h.queued _
  · rcases eq_or_otherDirection c d with rfl | rfl
    · exact hd
    · rw [hother]
      exact (Nat.add_le_add_left ho _).trans (h.room _)

/-- Changing the records without moving them keeps every record in one place. -/
theorem PassagesStand.map {Q Q' : Direction → List Passage} {bs : List Batch} (h : PassagesStand Q bs)
    (f : Passage → Passage) (hQ : ∀ d, Q' d = (Q d).map f)
    (hf : ∀ p, (f p).number = p.number ∧ (f p).state = p.state ∧ (f p).location = p.location ∧
      (f p).batch = p.batch ∧ (f p).direction = p.direction) :
    PassagesStand Q' (bs.map fun b => { b with members := b.members.map f }) := by
  have hmembers : (bs.map fun b => { b with members := b.members.map f }).flatMap (·.members) =
      (bs.flatMap (·.members)).map f := by
    rw [List.flatMap_map, List.map_flatMap]
  have hwait : ∀ d, waitingIn (bs.map fun b => { b with members := b.members.map f }) d = waitingIn bs d := fun d =>
    congrArg natSum (waiting_map _ d bs fun b => ⟨rfl, rfl, List.length_map _⟩)
  refine ⟨?_, fun d p hp => ?_, fun b hb x hx => ?_, fun d => ?_⟩
  · have hcomp : (fun p : Passage => p.number) ∘ f = fun p => p.number := funext fun p => (hf p).1
    rw [hmembers, hQ, hQ, ← List.map_append, ← List.map_append, List.map_map, hcomp]
    exact h.numbers
  · rw [hQ] at hp
    obtain ⟨y, hy, rfl⟩ := List.mem_map.mp hp
    obtain ⟨h1, h2, h3, h4⟩ := h.queued d y hy
    obtain ⟨-, hs, hl, hbt, hd⟩ := hf y
    exact ⟨hs.trans h1, hl.trans h2, hbt.trans h3, hd.trans h4⟩
  · obtain ⟨y, hy, rfl⟩ := List.mem_map.mp hb
    change x ∈ (y.members.map f).zipIdx at hx
    rw [List.zipIdx_map] at hx
    obtain ⟨z, hz, rfl⟩ := List.mem_map.mp hx
    obtain ⟨h1, h2, h3, h4⟩ := h.members y hy z hz
    obtain ⟨-, hs, hl, hbt, hd⟩ := hf z.1
    exact ⟨hd.trans h1, hs ▸ h2, hl ▸ h3, hbt.trans h4⟩
  · rw [hQ, List.length_map, hwait]
    exact h.room d

theorem waitingIn_sublist {bs bs' : List Batch} (h : bs'.Sublist bs) (d : Direction) : waitingIn bs' d ≤ waitingIn bs d :=
  List.Sublist.sum_le_sum ((h.filter _).map _) fun _ _ => Nat.zero_le _

theorem waitingIn_append (bs cs : List Batch) (d : Direction) : waitingIn (bs ++ cs) d = waitingIn bs d + waitingIn cs d := by
  rw [waitingIn, List.filter_append, List.map_append, natSum_append]
  rfl

theorem waitingIn_cons (b : Batch) (bs : List Batch) (d : Direction) : waitingIn (b :: bs) d =
    (if b.direction = d ∧ b.entered = false then b.members.length else 0) + waitingIn bs d := by
  rw [waitingIn, List.filter_cons]
  by_cases h : b.direction = d ∧ b.entered = false
  · rw [if_pos (by simp [h.1, h.2]), if_pos h]
    rfl
  · rw [if_neg (by simpa using h), if_neg h, Nat.zero_add]
    rfl

/-- A batch that may enter, but keeps its direction and the number of its members, is waited for no more. -/
theorem waitingIn_map_le {bs : List Batch} (f : Batch → Batch) (d : Direction)
    (hf : ∀ b ∈ bs, (f b).direction = b.direction ∧ (f b).members.length = b.members.length ∧
      (b.entered = true → (f b).entered = true)) : waitingIn (bs.map f) d ≤ waitingIn bs d := by
  induction bs with
  | nil => exact Nat.le_refl _
  | cons b bs ih =>
    obtain ⟨hd, hm, he⟩ := hf b List.mem_cons_self
    have hrest := ih fun x hx => hf x (List.mem_cons_of_mem b hx)
    rw [List.map_cons, waitingIn_cons, waitingIn_cons, hd, hm]
    refine Nat.add_le_add ?_ hrest
    split_ifs with h1 h2
    · exact Nat.le_refl _
    · refine absurd ⟨h1.1, ?_⟩ h2
      by_contra hne
      exact absurd (he (by simpa using hne)) (by simp [h1.2])
    · exact Nat.zero_le _
    · exact Nat.le_refl _

/-- A change of the table alone that loses records, or lets batches enter. -/
theorem PassagesStand.table {Q : Direction → List Passage} {bs bs' : List Batch} (h : PassagesStand Q bs)
    (hnum : ((bs'.flatMap (·.members)).map (·.number)).Sublist ((bs.flatMap (·.members)).map (·.number)))
    (hm : ∀ b ∈ bs', ∀ x ∈ b.members.zipIdx, memberStands b x) (hw : ∀ d, waitingIn bs' d ≤ waitingIn bs d) :
    PassagesStand Q bs' := by
  refine h.change .up rfl (List.Sublist.subperm ?_) (h.queued .up) hm
    ((Nat.add_le_add_left (hw .up) _).trans (h.room .up)) (hw _)
  rw [List.map_append, List.map_append]
  exact hnum.append_left _

theorem PassagesStand.mapBatches {Q : Direction → List Passage} {bs : List Batch} (h : PassagesStand Q bs)
    (f : Batch → Batch) (hf : ∀ b ∈ bs, (f b).number = b.number ∧ (f b).direction = b.direction ∧
      (f b).members = b.members ∧ (b.entered = true → (f b).entered = true)) : PassagesStand Q (bs.map f) := by
  refine h.table ?_ (fun b hb x hx => ?_) fun d => waitingIn_map_le f d fun b hb => ?_
  · have hsame : (bs.map f).flatMap (·.members) = bs.flatMap (·.members) := by
      rw [List.flatMap_map]
      exact List.flatMap_congr fun b hb => (hf b hb).2.2.1
    rw [hsame]
  · obtain ⟨y, hy, rfl⟩ := List.mem_map.mp hb
    obtain ⟨hn, hd, hm, -⟩ := hf y hy
    rw [hm] at hx
    rw [memberStands, hn, hd]
    exact h.members y hy x hx
  · obtain ⟨-, hd, hm, he⟩ := hf b hb
    exact ⟨hd, congrArg List.length hm, he⟩

theorem PassagesStand.fewerBatches {Q : Direction → List Passage} {bs bs' : List Batch} (h : PassagesStand Q bs)
    (hs : bs'.Sublist bs) : PassagesStand Q bs' :=
  h.table ((hs.flatMap _).map _) (fun b hb => h.members b (hs.subset hb)) fun d => waitingIn_sublist hs d

/-- A new record joins a queue that has room, under a number none has. -/
theorem PassagesStand.register {Q Q' : Direction → List Passage} {bs : List Batch} (h : PassagesStand Q bs)
    {d : Direction} {p : Passage} (hother : Q' (otherDirection d) = Q (otherDirection d))
    (hperm : (Q' d).Perm (p :: Q d)) (hp : queuedIn d p)
    (hfree : p.number ∉ (Q .up ++ Q .down ++ bs.flatMap (·.members)).map (·.number))
    (hroom : (Q d).length + waitingIn bs d < 24) : PassagesStand Q' bs := by
  refine ⟨?_, fun c => ?_, h.members, fun c => ?_⟩
  · have hold := ((numbers_perm Q bs d).map (·.number)).nodup_iff.mp h.numbers
    rw [((numbers_perm Q bs d).map (·.number)).mem_iff] at hfree
    have hnew : (Q (otherDirection d) ++ (Q' d ++ bs.flatMap (·.members))).Perm
        (p :: (Q (otherDirection d) ++ (Q d ++ bs.flatMap (·.members)))) :=
      ((hperm.append_right _).append_left _).trans List.perm_middle
    rw [((numbers_perm Q' bs d).map (·.number)).nodup_iff, hother, (hnew.map (·.number)).nodup_iff]
    exact List.nodup_cons.mpr ⟨hfree, hold⟩
  · rcases eq_or_otherDirection c d with rfl | rfl
    · intro x hx
      rcases List.mem_cons.mp (hperm.mem_iff.mp hx) with rfl | hx
      · exact hp
      · exact h.queued c x hx
    · rw [hother]
      exact h.queued _
  · rcases eq_or_otherDirection c d with rfl | rfl
    · rw [hperm.length_eq, List.length_cons]
      omega
    · rw [hother]
      exact h.room _

end Sys2Proof.Machine
end

section
/-! THE PLACE OF EVERY PASSAGE THROUGH A STEP: what an order names, what an admission moves, and the invariant of
O10. -/

namespace Sys2Proof.Machine

/-! ### Orders -/

theorem noRepeats_iff (ns : List Nat) : noRepeats ns = true ↔ ns.Nodup := by
  induction ns with
  | nil => simp [noRepeats]
  | cons n ns ih => simp [noRepeats, ih]

section

variable {s : State}

/-- When every number named is of a queued record, the records named stand in the order named. -/
theorem State.orderRecords_eq {ns : List Nat} (h : ∀ n ∈ ns, (s.queued? n).isSome = true) :
    ns.map s.queued? = (s.orderRecords ns).map some := by
  induction ns with
  | nil => rfl
  | cons n ns ih =>
    obtain ⟨p, hp⟩ := Option.isSome_iff_exists.mp (h n List.mem_cons_self)
    rw [State.orderRecords, List.map_cons, List.filterMap_cons_some hp, List.map_cons, hp,
      ih fun m hm => h m (List.mem_cons_of_mem n hm)]
    rfl

theorem State.orderRecords_numbers {ns : List Nat} (h : ∀ n ∈ ns, (s.queued? n).isSome = true) :
    (s.orderRecords ns).map (·.number) = ns := by
  induction ns with
  | nil => rfl
  | cons n ns ih =>
    obtain ⟨p, hp⟩ := Option.isSome_iff_exists.mp (h n List.mem_cons_self)
    rw [State.orderRecords, List.filterMap_cons_some hp, List.map_cons, (State.queued?_some hp).1]
    exact congrArg (n :: ·) (ih fun m hm => h m (List.mem_cons_of_mem n hm))

theorem State.queued?_isSome_iff {n : Nat} : (s.queued? n).isSome = true ↔ ∃ d, ∃ p ∈ s.queueOf d, p.number = n := by
  rw [State.queued?, List.find?_isSome]
  constructor
  · rintro ⟨p, hp, hn⟩
    obtain ⟨d, hd⟩ := State.mem_queueOf.mp hp
    exact ⟨d, p, hd, beq_iff_eq.mp hn⟩
  · rintro ⟨d, p, hp, hn⟩
    exact ⟨p, State.mem_queueOf.mpr ⟨d, hp⟩, beq_iff_eq.mpr hn⟩

/-- What an order that is not refused has met (R122). -/
structure State.OrderTaken (s : State) (ns : List Nat) : Prop where
  sized : 1 ≤ ns.length ∧ ns.length ≤ 4
  nodup : ns.Nodup
  mode : s.traffic.mode = .keeper
  tariff : s.toll.current.isSome = true
  dims : s.flightDims.isSome = true
  noOrder : s.traffic.order = none
  queued : ∀ n ∈ ns, (s.queued? n).isSome = true
  oneQueue : ∀ p ∈ s.orderRecords ns, ∀ q ∈ s.orderRecords ns, p.direction = q.direction
  fits : s.orderFits ns = true
  free : ns.length ≤ s.freeSlots

theorem oneDirection_of_not_both {ps : List Passage}
    (h : ¬((ps.any fun p => p.direction == .up) && ps.any fun p => p.direction == .down) = true) :
    ∀ p ∈ ps, ∀ q ∈ ps, p.direction = q.direction := by
  simp only [Bool.and_eq_true, List.any_eq_true, beq_iff_eq, not_and, not_exists] at h
  intro p hp q hq
  cases hdp : p.direction <;> cases hdq : q.direction
  · rfl
  · exact absurd hdq (h ⟨p, hp, hdp⟩ q hq)
  · exact absurd hdp (h ⟨q, hq, hdq⟩ p hp)
  · rfl

theorem State.orderTaken_of_refusal {ns : List Nat} (h : s.orderRefusal ns = none) : s.OrderTaken ns := by
  have hsized := State.orderRefusal_sized h
  unfold State.orderRefusal at h
  dsimp only at h
  split_ifs at h with hbad hmode hconf hpend hheld hqueued hboth hfit hfree
  simp only [Bool.or_eq_true, not_or, Bool.not_eq_true', Bool.not_eq_false] at hbad
  simp only [Bool.or_eq_true, not_or, Bool.not_eq_true, Option.isNone_eq_false_iff] at hconf
  refine ⟨hsized, (noRepeats_iff ns).mp hbad.2, not_not.mp hmode, hconf.1, hconf.2, ?_, ?_,
    oneDirection_of_not_both hboth, by simpa using hfit, Nat.le_of_not_lt hfree⟩
  · simpa using hpend
  · simpa [Option.isSome_iff_ne_none] using hqueued

theorem State.orderDirection_eq {ns : List Nat} (h : ∀ p ∈ s.orderRecords ns, ∀ q ∈ s.orderRecords ns,
    p.direction = q.direction) : ∀ p ∈ s.orderRecords ns, p.direction = s.orderDirection ns := by
  intro p hp
  unfold State.orderDirection
  split
  · rename_i q rest hq
    exact h p hp q (hq ▸ List.mem_cons_self)
  · rename_i hq
    exact absurd (hq ▸ hp) List.not_mem_nil

theorem State.orderRecords_length_le (ns : List Nat) : (s.orderRecords ns).length ≤ ns.length :=
  List.length_filterMap_le _ _

theorem State.queued_of_length {ns : List Nat} (h : (s.orderRecords ns).length = ns.length) :
    ∀ n ∈ ns, (s.queued? n).isSome = true := by
  induction ns with
  | nil => exact fun n hn => absurd hn List.not_mem_nil
  | cons m ns ih =>
    cases hm : s.queued? m with
    | none =>
      rw [State.orderRecords, List.filterMap_cons_none hm] at h
      have hle := s.orderRecords_length_le ns
      rw [State.orderRecords, h, List.length_cons] at hle
      omega
    | some p =>
      rw [State.orderRecords, List.filterMap_cons_some hm] at h
      intro n hn
      rcases List.mem_cons.mp hn with rfl | hn
      · rw [hm]
        rfl
      · exact ih (Nat.succ.inj h) n hn

end

/-! ### What an admission moves -/

section

variable {s u : State} {d : Direction} {ms : List Passage}

theorem PassagesStand.queue_numbers {Q : Direction → List Passage} {bs : List Batch} (h : PassagesStand Q bs)
    (d : Direction) : ((Q d).map (·.number)).Nodup := by
  have hnum := ((numbers_perm Q bs d).map (·.number)).nodup_iff.mp h.numbers
  rw [List.map_append, List.map_append] at hnum
  exact hnum.of_append_right.of_append_left

theorem PassagesStand.eq_of_number {Q : Direction → List Passage} {bs : List Batch} (h : PassagesStand Q bs)
    {c d : Direction} {p q : Passage} (hp : p ∈ Q c) (hq : q ∈ Q d) (hn : p.number = q.number) : p = q := by
  have hnum := h.numbers
  rw [List.map_append] at hnum
  have hinj := List.inj_on_of_nodup_map hnum.of_append_left
  have hmem : ∀ {e : Direction} {x : Passage}, x ∈ Q e → x ∈ Q .up ++ Q .down := by
    intro e x hx
    cases e
    · exact List.mem_append_left _ hx
    · exact List.mem_append_right _ hx
  exact hinj (hmem hp) (hmem hq) hn

/-- An admission takes records of its own queue, none twice. -/
theorem Admits.members (ha : Admits s u d ms) (h : PassagesStand s.queueOf s.traffic.batches) (ho : s.orderStands) :
    (∀ p ∈ ms, p ∈ s.queueOf d) ∧ (ms.map (·.number)).Nodup := by
  cases ha with
  | automatic h' hm =>
    obtain ⟨rfl, -⟩ := s.automaticBatch_some h'
    have hsub := (s.pack_spec d).1
    exact ⟨fun p hp => hsub.subset hp, (h.queue_numbers d).sublist (hsub.map _)⟩
  | order o horder hf hopen =>
    obtain ⟨-, hnodup, hnames⟩ := ho o horder
    have hall := State.queued_of_length (s.orderFits_length hf)
    refine ⟨fun p hp => ?_, by rwa [State.orderRecords_numbers hall]⟩
    obtain ⟨n, hn, hq⟩ := List.mem_filterMap.mp hp
    obtain ⟨hnum, e, he⟩ := State.queued?_some hq
    obtain ⟨x, hx, hxn⟩ := hnames n hn
    rwa [h.eq_of_number he hx (hnum.trans hxn.symm)]

theorem filter_not_mem_append_perm {N M : List Nat} (hN : N.Nodup) (hM : M.Nodup) (hsub : ∀ n ∈ M, n ∈ N) :
    (N.filter (fun n => !M.contains n) ++ M).Perm N := by
  have hmem : ∀ n, n ∈ N.filter (fun n => !M.contains n) ↔ n ∈ N ∧ n ∉ M := by simp
  refine (List.perm_ext_iff_of_nodup ?_ hN).mpr fun n => ?_
  · exact (hN.filter _).append hM fun n hn hm => ((hmem n).mp hn).2 hm
  · rw [List.mem_append, hmem]
    constructor
    · rintro (⟨hn, -⟩ | hn)
      · exact hn
      · exact hsub n hn
    · intro hn
      by_cases hm : n ∈ M
      · exact .inr hm
      · exact .inl ⟨hn, hm⟩

theorem leftBehind_numbers (limit : Nat) (names : List Nat) (q : List Passage) :
    (leftBehind limit names q).map (·.number) = (q.map (·.number)).filter fun n => !names.contains n := by
  rw [leftBehind, ← skipAhead_map (limit := limit) (fun p => p.number) (fun _ => rfl) names q, List.filter_map]
  rfl

theorem admitAll_numbers (n : Nat) (ms : List Passage) :
    ∀ pos, (admitAll n pos ms).map (·.number) = ms.map (·.number) := by
  induction ms with
  | nil => exact fun _ => rfl
  | cons p ps ih => exact fun pos => congrArg (p.number :: ·) (ih (pos + 1))

theorem admitted_stands {d : Direction} {b : Batch} {ms : List Passage} (hb : b.members = admitAll b.number 1 ms)
    (hd : b.direction = d) (hms : ∀ p ∈ ms, p.direction = d) : ∀ x ∈ b.members.zipIdx, memberStands b x := by
  rw [hb, admitAll_eq b.number ms 0]
  intro x hx
  obtain ⟨hlt, hx1⟩ := List.mem_zipIdx' hx
  rw [List.getElem_map, List.getElem_zipIdx] at hx1
  rw [List.length_map, List.length_zipIdx] at hlt
  rw [memberStands, hx1, hd]
  refine ⟨hms ms[x.2] (List.getElem_mem hlt), (nomatch ·), (nomatch ·), ?_⟩
  simp [admitted]

theorem PassagesStand.admitted {Q Q' : Direction → List Passage} {bs : List Batch} {limit : Nat} {b : Batch}
    (h : PassagesStand Q bs) (hother : Q' (otherDirection b.direction) = Q (otherDirection b.direction))
    (hQ : Q' b.direction = leftBehind limit (ms.map (·.number)) (Q b.direction))
    (hms : ∀ p ∈ ms, p ∈ Q b.direction) (hnum : (ms.map (·.number)).Nodup)
    (hb : b.members = admitAll b.number 1 ms) (he : b.entered = false) : PassagesStand Q' (bs ++ [b]) := by
  have hperm := filter_not_mem_append_perm (h.queue_numbers b.direction) hnum fun n hn => by
    obtain ⟨p, hp, rfl⟩ := List.mem_map.mp hn
    exact List.mem_map.mpr ⟨p, hms p hp, rfl⟩
  rw [← leftBehind_numbers limit, ← hQ] at hperm
  have hlen : (Q' b.direction).length + ms.length = (Q b.direction).length := by
    simpa using hperm.length_eq
  have hmem : b.members.length = ms.length := by rw [hb, admitAll_length]
  have hwait : ∀ c, waitingIn [b] c = if b.direction = c then ms.length else 0 := fun c => by
    rw [waitingIn_cons, he, hmem]
    simp [waitingIn, natSum]
  refine h.change b.direction hother (List.Perm.subperm ?_) (fun p hp => ?_) (fun x hx => ?_) ?_ ?_
  · rw [List.flatMap_append, List.flatMap_singleton, List.map_append, List.map_append, List.map_append, hb,
      admitAll_numbers]
    exact (((List.perm_append_comm).append_left _).trans (by rw [List.append_assoc])).trans (hperm.append_right _)
  · rw [hQ] at hp
    obtain ⟨x, hx, rfl | rfl⟩ := mem_leftBehind hp
    · exact h.queued _ p hx
    · exact h.queued _ x hx
  · rcases List.mem_append.mp hx with hx | hx
    · exact h.members x hx
    · rw [List.mem_singleton.mp hx]
      exact admitted_stands hb rfl fun p hp => (h.queued _ p (hms p hp)).2.2.2
  · rw [waitingIn_append, hwait, if_pos rfl]
    have := h.room b.direction
    omega
  · rw [waitingIn_append, hwait, if_neg (by cases b.direction <;> exact fun h => nomatch h)]
    exact Nat.le_refl _

end

/-! ### The invariant (O10) -/

/-- The second invariant of O10, with what it needs of the table. -/
def State.placesFit (s : State) : Prop :=
  tableShape s.traffic.batches ∧ (∀ b ∈ s.traffic.batches, b.entered = true → b.members.length ≤ 4) ∧
    PassagesStand s.queueOf s.traffic.batches ∧ s.orderStands

section

variable {s t : State}

theorem State.orderStands_none (h : s.traffic.order = none) : s.orderStands := fun _ ho => nomatch h.symm.trans ho

/-- An order stands while the mode is kept and no record it names leaves its queue. -/
theorem State.orderStands.keep (h : s.orderStands) (ho : t.traffic.order = s.traffic.order)
    (hm : t.traffic.mode = s.traffic.mode)
    (hq : ∀ d, ∀ p ∈ s.queueOf d, ∃ x ∈ t.queueOf d, x.number = p.number) : t.orderStands := by
  intro o hto
  obtain ⟨hmode, hnodup, hnames⟩ := h o (ho.symm.trans hto)
  refine ⟨hm.trans hmode, hnodup, fun n hn => ?_⟩
  obtain ⟨p, hp, rfl⟩ := hnames n hn
  exact hq _ p hp

theorem State.placesFit_batches (h : s.placesFit) (f : Batch → Batch)
    (hf : ∀ b ∈ s.traffic.batches, (f b).number = b.number ∧ (f b).direction = b.direction ∧
      (f b).members = b.members ∧ (f b).entered = b.entered) :
    (s.setBatches (s.traffic.batches.map f)).placesFit := by
  obtain ⟨hshape, hentered, hplaces, horder⟩ := h
  refine ⟨hshape.map (fun b hb => (hf b hb).1) fun b hb => (hf b hb).2.1, fun x hx he => ?_,
    PassagesStand.congr (hplaces.mapBatches f fun b hb => ?_) fun _ => rfl, horder⟩
  · obtain ⟨b, hb, rfl⟩ := List.mem_map.mp hx
    obtain ⟨-, -, hm, hen⟩ := hf b hb
    rw [hm]
    exact hentered b hb (hen.symm.trans he)
  · obtain ⟨hn, hd, hm, hen⟩ := hf b hb
    exact ⟨hn, hd, hm, fun he => hen.trans he⟩

theorem State.placesFit_modBatch (h : s.placesFit) (n : Nat) (f : Batch → Batch)
    (hf : ∀ b, (f b).number = b.number ∧ (f b).direction = b.direction ∧ (f b).members = b.members ∧
      (f b).entered = b.entered) : (s.modBatch n f).placesFit :=
  State.placesFit_batches h _ fun b _ => by
    split
    · exact hf b
    · exact ⟨rfl, rfl, rfl, rfl⟩

theorem Admits.placesFit {u : State} {d : Direction} {ms : List Passage} (ha : Admits s u d ms) (e : Edition)
    (ns : List Notice) (h : s.placesFit) :
    (({ u with traffic := u.admittedTraffic d e ms } : State).withNotices ns).placesFit := by
  obtain ⟨-, hentered, hplaces, horder⟩ := h
  obtain ⟨hms, hnum⟩ := ha.members hplaces horder
  have hQ : u.queueOf = s.queueOf := by
    rcases ha.state with rfl | rfl <;> rfl
  have hqueue : ∀ c, (({ u with traffic := u.admittedTraffic d e ms } : State).withNotices ns).queueOf c =
      if c = d then leftBehind u.traffic.skipLimit (ms.map (·.number)) (s.queueOf d) else s.queueOf c := by
    intro c
    rw [← hQ]
    exact u.queueOf_withQueue d c _
  refine ⟨ha.tableShape e, fun x hx he => ?_, ?_, State.orderStands_none ?_⟩
  · rcases List.mem_append.mp hx with hx | hx
    · exact hentered x (ha.batches_eq ▸ hx) he
    · rw [List.mem_singleton.mp hx] at he
      exact nomatch he
  · have hgoal : PassagesStand (({ u with traffic := u.admittedTraffic d e ms } : State).withNotices ns).queueOf
        (s.traffic.batches ++ [u.newBatch d e ms]) :=
      hplaces.admitted (b := u.newBatch d e ms) ((hqueue _).trans (if_neg (by cases d <;> exact fun h => nomatch h)))
        ((hqueue d).trans (if_pos rfl)) hms hnum rfl rfl
    rw [← ha.batches_eq] at hgoal
    exact hgoal
  · cases ha with
    | automatic h hm =>
      cases ho : s.traffic.order with
      | none => exact ho
      | some o => exact absurd ((horder o ho).1.symm.trans hm) (fun h => nomatch h)
    | order o h hf ho => rfl

theorem Edit.placesFit (he : Edit s t) (h : s.placesFit) : t.placesFit := by
  cases he with
  | batches f hf =>
    exact State.placesFit_batches h f fun b hb => ⟨(hf b hb).number, (hf b hb).direction, (hf b hb).members, (hf b hb).entered⟩
  | claim b hb => exact State.placesFit_modBatch h _ _ fun b => ⟨rfl, rfl, rfl, rfl⟩
  | admission ha he ns => exact ha.placesFit _ ns h
  | discardOrder =>
    obtain ⟨hshape, hentered, hplaces, -⟩ := h
    exact ⟨hshape, hentered, hplaces, State.orderStands_none rfl⟩
  | complete b hb =>
    obtain ⟨hshape, hentered, hplaces, horder⟩ := h
    exact ⟨hshape.of_sublist List.filter_sublist, fun x hx => hentered x (List.mem_filter.mp hx).1,
      hplaces.fewerBatches List.filter_sublist, horder⟩
  | _ => exact h

/-- Changing the records of every queue and batch without moving them. -/
theorem State.placesFit_map {t : State} (h : s.placesFit) (f : Passage → Passage)
    (hf : ∀ p, (f p).number = p.number ∧ (f p).state = p.state ∧ (f p).location = p.location ∧
      (f p).batch = p.batch ∧ (f p).direction = p.direction)
    (hq : ∀ d, t.queueOf d = (s.queueOf d).map f)
    (hb : t.traffic.batches = s.traffic.batches.map fun b => { b with members := b.members.map f })
    (ho : t.traffic.order = s.traffic.order) (hm : t.traffic.mode = s.traffic.mode) : t.placesFit := by
  obtain ⟨hshape, hentered, hplaces, horder⟩ := h
  refine ⟨hb ▸ hshape.map (fun _ _ => rfl) fun _ _ => rfl, fun x hx he => ?_, hb ▸ hplaces.map f hq hf,
    horder.keep ho hm fun d p hp => ⟨f p, hq d ▸ List.mem_map_of_mem hp, (hf p).1⟩⟩
  rw [hb] at hx
  obtain ⟨b, hb, rfl⟩ := List.mem_map.mp hx
  exact (List.length_map _).trans_le (hentered b hb he)

end

end Sys2Proof.Machine
end

section
/-! THE PLACE OF EVERY PASSAGE THROUGH A COMMAND: what a command does itself to the queues and the table (O10). -/

namespace Sys2Proof.Machine

/-- With distinct numbers a table is one of its batches and those of other numbers. -/
theorem table_perm {bs : List Batch} (h : (bs.map (·.number)).Nodup) {b : Batch} (hb : b ∈ bs) :
    bs.Perm (b :: bs.filter fun x => x.number != b.number) := by
  induction bs with
  | nil => exact absurd hb List.not_mem_nil
  | cons x bs ih =>
    rw [List.map_cons, List.nodup_cons] at h
    rcases List.mem_cons.mp hb with rfl | hb
    · rw [List.filter_cons_of_neg (by simp), List.filter_eq_self.mpr fun y hy => ?_]
      exact bne_iff_ne.mpr fun hyb => h.1 (List.mem_map.mpr ⟨y, hy, hyb⟩)
    · have hne : x.number ≠ b.number := fun hxb => h.1 (List.mem_map.mpr ⟨b, hb, hxb.symm⟩)
      rw [List.filter_cons_of_pos (p := fun y : Batch => y.number != b.number) (bne_iff_ne.mpr hne)]
      exact ((ih h.2 hb).cons x).trans (.swap b x _)

theorem waitingIn_perm {bs bs' : List Batch} (h : bs.Perm bs') (d : Direction) : waitingIn bs d = waitingIn bs' d :=
  ((h.filter _).map _).sum_eq

/-- With at most two batches that have entered, each of at most 4 members, few passages are held in all. -/
theorem members_le {bs : List Batch} (h : ∀ b ∈ bs, b.entered = true → b.members.length ≤ 4) :
    (bs.flatMap (·.members)).length ≤ waitingIn bs .up + waitingIn bs .down + 4 * bs.length := by
  induction bs with
  | nil => exact Nat.le_refl _
  | cons b bs ih =>
    have hrest := ih fun x hx => h x (List.mem_cons_of_mem b hx)
    have hb := h b List.mem_cons_self
    rw [List.flatMap_cons, List.length_append, waitingIn_cons, waitingIn_cons, List.length_cons]
    cases he : b.entered
    · cases hd : b.direction
      · simp only [and_self, reduceIte]
        omega
      · simp only [and_self, reduceIte]
        omega
    · have := hb he
      omega

section

variable {s : State}

theorem State.allPassages_le (h : s.placesFit) : s.allPassages.length ≤ 56 := by
  obtain ⟨⟨hlen, -, -⟩, hentered, hplaces, -⟩ := h
  have hmem := members_le hentered
  have hup : s.traffic.up.length + waitingIn s.traffic.batches .up ≤ 24 := hplaces.room .up
  have hdown : s.traffic.down.length + waitingIn s.traffic.batches .down ≤ 24 := hplaces.room .down
  rw [State.allPassages, List.length_append, List.length_append]
  omega

theorem State.newPassage_number (h : s.placesFit) (a : VesselArgs) (d : Direction) (p : Priority) :
    (s.newPassage a d p).number ∉ s.allPassages.map (·.number) :=
  freeNumber_not_mem (by rw [List.length_map]; exact (State.allPassages_le h).trans (by decide)) (by decide)

theorem State.charge_waiting (s : State) (d : Direction) :
    s.charge d = (s.queueOf d).length + waitingIn s.traffic.batches d := by
  rw [State.charge, foldl_add_eq_natSum]
  rfl

theorem State.placesFit_register (h : s.placesFit) (a : VesselArgs) (d : Direction) (p : Priority)
    (hq : s.charge d < 24) : (s.setTraffic (s.addedTraffic (s.newPassage a d p))).placesFit := by
  have hfree := State.newPassage_number h a d p
  obtain ⟨hshape, hentered, hplaces, horder⟩ := h
  rw [s.charge_waiting] at hq
  have hqueue := s.queueOf_added (s.newPassage a d p)
  have hperm := placePassage_perm (s.newPassage a d p) (s.queueOf d)
  have hd : (s.setTraffic (s.addedTraffic (s.newPassage a d p))).queueOf d =
      placePassage (s.newPassage a d p) (s.queueOf d) := (hqueue d).trans (if_pos rfl)
  refine ⟨hshape, hentered, hplaces.register (d := d) (p := s.newPassage a d p) ?_ ?_ ⟨rfl, rfl, rfl, rfl⟩ hfree hq,
    horder.keep rfl rfl fun c x hx => ⟨x, ?_, rfl⟩⟩
  · exact (hqueue _).trans (if_neg (by cases d <;> exact fun h => nomatch h))
  · rw [hd]
    exact hperm
  · rw [hqueue]
    split
    · rename_i hc
      obtain rfl : c = d := hc
      exact hperm.mem_iff.mpr (List.mem_cons_of_mem _ hx)
    · exact hx

theorem State.placesFit_withdraw (h : s.placesFit) {n : Nat} {p : Passage} (hp : s.queued? n = some p) :
    (s.setTraffic (s.withdrawnTraffic n p)).placesFit := by
  obtain ⟨hshape, hentered, hplaces, horder⟩ := h
  have hqueue := s.queueOf_withdrawn n p
  have hd : (s.setTraffic (s.withdrawnTraffic n p)).queueOf p.direction =
      (s.queueOf p.direction).filter fun q => q.number != p.number := (hqueue _).trans (if_pos rfl)
  have hsub : ((s.queueOf p.direction).filter fun q => q.number != p.number).Sublist (s.queueOf p.direction) :=
    List.filter_sublist
  refine ⟨hshape, hentered, hplaces.change p.direction ?_ ?_ ?_ hplaces.members ?_ (Nat.le_refl _), ?_⟩
  · exact (hqueue _).trans (if_neg (by cases p.direction <;> exact fun h => nomatch h))
  · rw [hd]
    exact ((hsub.append_right _).map _).subperm
  · rw [hd]
    exact fun x hx => hplaces.queued _ x (hsub.subset hx)
  · rw [hd]
    exact (Nat.add_le_add_right hsub.length_le _).trans (hplaces.room _)
  · intro o ho
    have horder' : (if s.orderHolds n then none else s.traffic.order) = some o := ho
    split at horder'
    · exact nomatch horder'
    · rename_i hholds
      obtain ⟨hmode, hnodup, hnames⟩ := horder o horder'
      refine ⟨hmode, hnodup, fun m hm => ?_⟩
      obtain ⟨x, hx, rfl⟩ := hnames m hm
      refine ⟨x, ?_, rfl⟩
      rw [hqueue]
      split
      · rename_i hc
        rw [hc] at hx
        refine List.mem_filter.mpr ⟨hx, bne_iff_ne.mpr fun hxp => hholds ?_⟩
        rw [State.orderHolds, horder']
        exact List.contains_iff_mem.mpr ((hxp.trans (State.queued?_some hp).1) ▸ hm)
      · exact hx

theorem State.placesFit_abandon (h : s.placesFit) {n : Nat} {b : Batch} (hb : s.batch? n = some b)
    (he : b.entered = false) :
    ((s.setAccount (s.abandonAccount b)).setTraffic (s.abandonedTraffic n b)).placesFit := by
  obtain ⟨hshape, hentered, hplaces, horder⟩ := h
  have hmem := s.batch_mem hb
  obtain rfl : b.number = n := beq_iff_eq.mp (List.find?_some (p := fun x : Batch => x.number == n) hb)
  have htable := table_perm hshape.2.2 hmem
  have hqueue := s.queueOf_abandoned b.number b
  have hd := (hqueue b.direction).trans (if_pos rfl)
  have hperm := returnAll_perm b.members (s.queueOf b.direction)
  have hsub : (s.traffic.batches.filter fun x => x.number != b.number).Sublist s.traffic.batches := List.filter_sublist
  have hreturned : (b.members.map returned).map (·.number) = b.members.map (·.number) := List.map_map
  have hwait : waitingIn s.traffic.batches b.direction = b.members.length +
      waitingIn (s.traffic.batches.filter fun x => x.number != b.number) b.direction := by
    rw [waitingIn_perm htable, waitingIn_cons, if_pos ⟨rfl, he⟩]
  have hmembers : ∀ x ∈ b.members, x.direction = b.direction := by
    intro x hx
    obtain ⟨i, hi, rfl⟩ := List.getElem_of_mem hx
    exact (hplaces.members b hmem (b.members[i], i) (List.mk_mem_zipIdx_iff_getElem?.mpr (by simp [hi]))).1
  refine ⟨hshape.of_sublist hsub, fun x hx => hentered x (hsub.subset hx),
    hplaces.change b.direction ?_ (List.Perm.subperm ?_) ?_ (fun x hx => hplaces.members x (hsub.subset hx)) ?_
      (waitingIn_sublist hsub _), horder.keep rfl rfl fun c x hx => ⟨x, ?_, rfl⟩⟩
  · exact (hqueue _).trans (if_neg (by cases b.direction <;> exact fun h => nomatch h))
  · have hall : (s.traffic.batches.flatMap (·.members)).Perm
        (b.members ++ (s.traffic.batches.filter fun x => x.number != b.number).flatMap (·.members)) :=
      htable.flatMap_right _
    rw [hd, List.map_append, List.map_append]
    refine ((hperm.map (·.number)).append_right _).trans ?_
    rw [List.map_append, hreturned]
    refine List.Perm.trans ?_ (((hall.map (·.number)).symm).append_left _)
    rw [List.map_append, ← List.append_assoc]
    exact List.perm_append_comm.append_right _
  · rw [hd]
    intro x hx
    rcases List.mem_append.mp (hperm.mem_iff.mp hx) with hx | hx
    · obtain ⟨y, hy, rfl⟩ := List.mem_map.mp hx
      exact ⟨rfl, rfl, rfl, hmembers y hy⟩
    · exact hplaces.queued _ x hx
  · have hroom := hplaces.room b.direction
    rw [hd, hperm.length_eq, List.length_append, List.length_map]
    change _ + waitingIn (s.traffic.batches.filter fun x => x.number != b.number) b.direction ≤ 24
    omega
  · rw [hqueue]
    split
    · rename_i hc
      rw [hc] at hx
      exact hperm.mem_iff.mpr (List.mem_append_right _ hx)
    · exact hx

/-- A confirmed batch keeps its members in their places, and is waited for no more. -/
theorem confirm_stands {b : Batch} (g : Station) (h : ∀ x ∈ b.members.zipIdx, memberStands b x) :
    ∀ x ∈ (b.confirm g).members.zipIdx, memberStands (b.confirm g) x := by
  intro x hx
  change x ∈ (b.members.map (movedMember (destination b.direction g))).zipIdx at hx
  rw [List.zipIdx_map] at hx
  obtain ⟨z, hz, rfl⟩ := List.mem_map.mp hx
  obtain ⟨h1, -, h3, h4⟩ := h z hz
  refine ⟨h1, (nomatch ·), ?_, h4⟩
  change (match destination b.direction g with | some c => .chamber c | none => z.1.location) ≠ Location.queue
  split
  · exact (nomatch ·)
  · exact h3

theorem State.placesFit_confirm (h : s.placesFit) (hs : tableSized s.traffic.batches) (b : Batch) (g : Station) :
    (s.confirmed b g).placesFit := by
  obtain ⟨hshape, -, hplaces, horder⟩ := h
  have hpart : ∀ x : Batch, ∀ y, y = (if x.number = b.number then x.confirm g else x) →
      y.number = x.number ∧ y.direction = x.direction ∧ y.members.length = x.members.length ∧
        y.members.map (·.number) = x.members.map (·.number) ∧ (x.entered = true → y.entered = true) := by
    rintro x y rfl
    split
    · refine ⟨rfl, rfl, List.length_map _, List.map_map, fun he => ?_⟩
      change (x.entered || _) = true
      rw [he, Bool.true_or]
    · exact ⟨rfl, rfl, rfl, rfl, id⟩
  refine ⟨hshape.map (fun x _ => (hpart x _ rfl).1) fun x _ => (hpart x _ rfl).2.1, fun x hx _ => ?_,
    hplaces.table ?_ (fun x hx => ?_) fun d => waitingIn_map_le _ d fun x _ => ?_, horder⟩
  · obtain ⟨y, hy, rfl⟩ := List.mem_map.mp hx
    rw [(hpart y _ rfl).2.2.1]
    exact (hs y hy).2.1
  · have hsame : ((s.confirmed b g).traffic.batches.flatMap (·.members)).map (·.number) =
        (s.traffic.batches.flatMap (·.members)).map (·.number) := by
      change ((s.traffic.batches.map fun x => if x.number = b.number then x.confirm g else x).flatMap
        (·.members)).map (·.number) = _
      rw [List.flatMap_map, List.map_flatMap, List.map_flatMap]
      exact List.flatMap_congr fun x _ => (hpart x _ rfl).2.2.2.1
    exact hsame ▸ List.Sublist.refl _
  · obtain ⟨y, hy, rfl⟩ := List.mem_map.mp hx
    split
    · exact confirm_stands g (hplaces.members y hy)
    · exact hplaces.members y hy
  · obtain ⟨-, hd, hlen, -, hent⟩ := hpart x _ rfl
    exact ⟨hd, hlen, hent⟩

theorem State.placesFit_order (h : s.placesFit) {ns : List Nat} (hr : s.orderRefusal ns = none) :
    (s.setTraffic { s.traffic with
      order := some { passages := ns, direction := s.orderDirection ns } }).placesFit := by
  have htaken := State.orderTaken_of_refusal hr
  obtain ⟨hshape, hentered, hplaces, -⟩ := h
  refine ⟨hshape, hentered, hplaces, fun o ho => ?_⟩
  obtain rfl := Option.some.inj ho
  refine ⟨htaken.mode, htaken.nodup, fun n hn => ?_⟩
  obtain ⟨p, hp⟩ := Option.isSome_iff_exists.mp (htaken.queued n hn)
  obtain ⟨hnum, d, hd⟩ := State.queued?_some hp
  have hdir := State.orderDirection_eq htaken.oneQueue p (List.mem_filterMap.mpr ⟨n, hn, hp⟩)
  rw [(hplaces.queued d p hd).2.2.2] at hdir
  exact ⟨p, hdir ▸ hd, hnum⟩

end

theorem OwnEdit.placesFit {s t : State} (ho : OwnEdit s t) (h : s.placesFit) : t.placesFit := by
  cases ho with
  | renumber =>
    exact State.placesFit_map h (fun p => { p with stamp := s.stampRank p }) (fun _ => ⟨rfl, rfl, rfl, rfl, rfl⟩)
      s.renumber_queueOf rfl rfl rfl
  | register a d p hm hq => exact State.placesFit_register h a d p hq
  | withdraw n p hp => exact State.placesFit_withdraw h hp
  | queueLimits m l =>
    exact State.placesFit_map h (lowerSkips (clampSkipLimit l)) (fun _ => ⟨rfl, rfl, rfl, rfl, rfl⟩)
      (fun d => State.lowerAllSkips_queueOf _ _ d) rfl rfl rfl
  | mode m hm =>
    obtain ⟨hshape, hentered, hplaces, horder⟩ := h
    refine ⟨hshape, hentered, hplaces, State.orderStands_none ?_⟩
    change (if s.traffic.mode = .keeper then none else s.traffic.order) = none
    split
    · rfl
    · cases hord : s.traffic.order with
      | none => rfl
      | some o => exact absurd (horder o hord).1 ‹_›
  | order ns hr => exact State.placesFit_order h hr
  | abandon n b hb he => exact State.placesFit_abandon h hb he
  | resume n b hb hs => exact State.placesFit_modBatch h _ _ fun b => ⟨rfl, rfl, rfl, rfl⟩
  | _ => exact h

/-- What the invariant says of the retained state, with what it needs of the table. -/
def Retained.placesFit (r : Retained) : Prop :=
  tableShape r.batches ∧ (∀ b ∈ r.batches, b.entered = true → b.members.length ≤ 4) ∧ r.passagesFit

theorem Retained.placesFit_of {r : Retained} (h : r.tableFits ∧ r.passagesFit) : r.placesFit :=
  have ht := (Retained.tableFits_iff r).mp h.1
  ⟨ht.1, fun b hb _ => (ht.2 b hb).2.1, h.2⟩

theorem State.retained_placesFit (s : State) : s.retainedOf.placesFit ↔
    tableShape s.traffic.batches ∧ (∀ b ∈ s.traffic.batches, b.entered = true → b.members.length ≤ 4) ∧
      PassagesStand s.queueOf s.traffic.batches := by
  refine and_congr (tableShape_retained _) (and_congr ?_ s.passagesFit_iff)
  exact List.forall_mem_map

theorem placesFit_invariant : StepInvariant State.placesFit Retained.placesFit tableSized where
  turn s t ht h := by
    cases ht with
    | edit he => exact he.placesFit h
    | halt c => exact h
    | cancel => exact h
  own s t ho h := ho.placesFit h
  confirm s n b g _ _ hs h := State.placesFit_confirm h hs b g
  clock _ _ _ h := h
  release _ _ _ _ _ h := h
  same s t hst h := by
    obtain ⟨c, st, pw, n, q, -, rfl⟩ := hst
    exact h
  retained s h := s.retained_placesFit.mpr ⟨h.1, h.2.1, h.2.2.1⟩
  defaults := ⟨⟨by decide, fun _ hb => absurd hb List.not_mem_nil, List.nodup_nil⟩,
    fun _ hb => absurd hb List.not_mem_nil, defaults_passagesFit⟩
  fresh r clock now store stretch start pending hr _ := by
    obtain ⟨hshape, hentered, hpass⟩ := hr
    exact ⟨_, State.startUpBatches_edits _, hshape, hentered, (r.passagesFit_iff rfl rfl).mp hpass,
      State.orderStands_none rfl⟩

/-- Settles O10: an admission moves records from a queue into a batch and an abandonment back; what joins a queue is
placed by its group and stamp. -/
theorem queuesStayInOrder : Obligations.QueuesStayInOrder := by
  refine ⟨fun s t h hst => queuesFit_invariant.step trivial h.1 h.2 hst, ?_⟩
  rintro s t ⟨⟨hret, hupd, hA, hB⟩, horder⟩ hst
  obtain ⟨h1, h2, h3⟩ := s.retained_placesFit.mp (Retained.placesFit_of hret)
  obtain ⟨ht, hstore⟩ := placesFit_invariant.step (s.tableFits_iff.mp hret.1).2 ⟨h1, h2, h3, horder⟩
    ⟨fun r hr => Retained.placesFit_of (hupd r hr), fun i hi => Retained.placesFit_of (hA i hi),
      fun i hi => Retained.placesFit_of (hB i hi)⟩ hst
  exact ⟨⟨t.passagesFit_iff.mpr ht.2.2.1, fun r hr => (hstore.1 r hr).2.2, fun i hi => (hstore.2.1 i hi).2.2,
    fun i hi => (hstore.2.2 i hi).2.2⟩, ht.2.2.2⟩

end Sys2Proof.Machine
end

section
/-! WATER SHARES AND RECEIPTS: the split of a water charge by remainders, the receipts of a batch, and what a
completion writes (O55). -/

namespace Sys2Proof.Machine

/-! ### Shares (R161) -/

theorem natSum_range (f : Nat → Nat) (n : Nat) : natSum ((List.range n).map f) = ∑ i ∈ Finset.range n, f i := by
  induction n with
  | zero => rfl
  | succ n ih =>
    rw [List.range_succ, List.map_append, natSum_append, ih, Finset.sum_range_succ]
    rfl

theorem length_filter_range (p : Nat → Prop) [DecidablePred p] (n : Nat) :
    ((List.range n).filter fun i => decide (p i)).length = ((Finset.range n).filter p).card := rfl

theorem map_getD_range (ls : List Nat) : (List.range ls.length).map (fun i => ls.getD i 0) = ls := by
  refine List.ext_getElem (by simp) fun i h1 h2 => ?_
  simp [h2]

/-- R161: a sharer stands before another by a greater remainder numerator, or by entry position. -/
def ranksBefore (rem : Nat → Nat) (j i : Nat) : Prop := rem i < rem j ∨ (rem j = rem i ∧ j < i)

theorem shareRank_eq (rem : Nat → Nat) (n i : Nat) :
    shareRank rem n i = ((Finset.range n).filter fun j => rem i < rem j ∨ (rem j = rem i ∧ j < i)).card := by
  rw [shareRank, ← length_filter_range]
  simp only [Bool.decide_or, Bool.decide_and]

/-- Who stands before another has the smaller rank. -/
theorem shareRank_lt {rem : Nat → Nat} {n i j : Nat} (hi : i < n) (h : ranksBefore rem i j) :
    shareRank rem n i < shareRank rem n j := by
  rw [shareRank_eq, shareRank_eq]
  refine Finset.card_lt_card (Finset.ssubset_iff_of_subset (fun k hk => ?_) |>.mpr ⟨i, ?_, ?_⟩)
  · rw [Finset.mem_filter] at hk ⊢
    refine ⟨hk.1, ?_⟩
    unfold ranksBefore at h
    omega
  · exact Finset.mem_filter.mpr ⟨Finset.mem_range.mpr hi, h⟩
  · rw [Finset.mem_filter]
    omega

theorem shareRank_lt_length {rem : Nat → Nat} {n i : Nat} (hi : i < n) : shareRank rem n i < n := by
  rw [shareRank_eq]
  refine (Finset.card_lt_card (Finset.ssubset_iff_of_subset (Finset.filter_subset _ _) |>.mpr ⟨i, ?_, ?_⟩)).trans_eq
    (Finset.card_range n)
  · exact Finset.mem_range.mpr hi
  · rw [Finset.mem_filter]
    omega

theorem shareRank_injective {rem : Nat → Nat} {n i j : Nat} (hi : i < n) (hj : j < n)
    (h : shareRank rem n i = shareRank rem n j) : i = j := by
  by_contra hne
  have hbefore : ranksBefore rem i j ∨ ranksBefore rem j i := by
    unfold ranksBefore
    omega
  rcases hbefore with hb | hb
  · exact absurd h (shareRank_lt hi hb).ne
  · exact absurd h (shareRank_lt hj hb).ne'

/-- Exactly as many sharers have a rank below a bound as the bound says. -/
theorem card_shareRank_lt {rem : Nat → Nat} {n m : Nat} (hm : m ≤ n) :
    ((Finset.range n).filter fun i => shareRank rem n i < m).card = m := by
  have hinj : Set.InjOn (shareRank rem n) (Finset.range n) := fun i hi j hj h =>
    shareRank_injective (Finset.mem_range.mp hi) (Finset.mem_range.mp hj) h
  have himage : (Finset.range n).image (shareRank rem n) = Finset.range n := by
    refine Finset.eq_of_subset_of_card_le (fun r hr => ?_) (Finset.card_image_of_injOn hinj).ge
    obtain ⟨i, hi, rfl⟩ := Finset.mem_image.mp hr
    exact Finset.mem_range.mpr (shareRank_lt_length (Finset.mem_range.mp hi))
  have hbelow : ((Finset.range n).filter fun i => shareRank rem n i < m).image (shareRank rem n) = Finset.range m := by
    refine (Finset.filter_image (p := fun r => r < m)).symm.trans ?_
    rw [himage]
    ext r
    simp only [Finset.mem_filter, Finset.mem_range]
    omega
  rw [← Finset.card_image_of_injOn (hinj.mono (Finset.filter_subset _ _)), hbelow, Finset.card_range]

section

variable (cw : Nat) (ls : List Nat)

/-- R161: the floor of a sharer's part, and the numerator of what remains of it. -/
def shareFloor (i : Nat) : Nat := cw * ls.getD i 0 / natSum ls
def shareRem (i : Nat) : Nat := cw * ls.getD i 0 % natSum ls
def shareLeftover : Nat := cw - ∑ i ∈ Finset.range ls.length, shareFloor cw ls i

theorem waterShares_eq : waterShares cw ls = (List.range ls.length).map fun i =>
    shareFloor cw ls i + if shareRank (shareRem cw ls) ls.length i < shareLeftover cw ls then 1 else 0 := by
  rw [waterShares, shareLeftover, ← natSum_range]
  rfl

theorem waterShares_length : (waterShares cw ls).length = ls.length := by
  rw [waterShares_eq, List.length_map, List.length_range]

theorem waterShares_getD {i : Nat} (hi : i < ls.length) : (waterShares cw ls).getD i 0 =
    shareFloor cw ls i + if shareRank (shareRem cw ls) ls.length i < shareLeftover cw ls then 1 else 0 := by
  rw [waterShares_eq, List.getD_eq_getElem?_getD, List.getElem?_map, List.getElem?_range hi]
  rfl

variable {ls}

/-- The floors and the remainders make up the charge. -/
theorem shareFloor_sum : natSum ls * (∑ i ∈ Finset.range ls.length, shareFloor cw ls i) +
    ∑ i ∈ Finset.range ls.length, shareRem cw ls i = natSum ls * cw := by
  have hsum : ∑ i ∈ Finset.range ls.length, ls.getD i 0 = natSum ls := by
    rw [← natSum_range, map_getD_range]
  rw [Finset.mul_sum, ← Finset.sum_add_distrib]
  calc ∑ i ∈ Finset.range ls.length, (natSum ls * shareFloor cw ls i + shareRem cw ls i)
      = ∑ i ∈ Finset.range ls.length, cw * ls.getD i 0 :=
        Finset.sum_congr rfl fun i _ => Nat.div_add_mod (cw * ls.getD i 0) (natSum ls)
    _ = natSum ls * cw := by rw [← Finset.mul_sum, hsum, Nat.mul_comm]

theorem shareFloor_le (h : 0 < natSum ls) : ∑ i ∈ Finset.range ls.length, shareFloor cw ls i ≤ cw :=
  Nat.le_of_mul_le_mul_left ((Nat.le_add_right _ _).trans_eq (shareFloor_sum cw)) h

theorem shareLeftover_le (h : 0 < natSum ls) : shareLeftover cw ls ≤ ls.length := by
  have hrem : ∑ i ∈ Finset.range ls.length, shareRem cw ls i ≤ natSum ls * ls.length := by
    calc ∑ i ∈ Finset.range ls.length, shareRem cw ls i
        ≤ ∑ _i ∈ Finset.range ls.length, natSum ls := Finset.sum_le_sum fun i _ => (Nat.mod_lt _ h).le
      _ = natSum ls * ls.length := by rw [Finset.sum_const, Finset.card_range, smul_eq_mul, Nat.mul_comm]
  have hsum := shareFloor_sum cw (ls := ls)
  refine Nat.le_of_mul_le_mul_left ?_ h
  rw [shareLeftover, Nat.mul_sub]
  omega

theorem waterShares_sum (h : 0 < natSum ls) : natSum (waterShares cw ls) = cw := by
  rw [waterShares_eq, natSum_range, Finset.sum_add_distrib, Finset.sum_ite, Finset.sum_const_zero, Nat.add_zero,
    Finset.sum_const, smul_eq_mul, Nat.mul_one, card_shareRank_lt (shareLeftover_le cw h), shareLeftover]
  have := shareFloor_le cw h
  omega

end


/-! ### The shares of the members -/

theorem spreadShares_sharer {p : Passage} (h : isSharer p = true) (ps : List Passage) (xs : List Nat) :
    spreadShares (p :: ps) xs = some (xs.headD 0) :: spreadShares ps (xs.drop 1) := by
  cases xs <;> simp [spreadShares, h]

theorem spreadShares_service {p : Passage} (h : isSharer p = false) (ps : List Passage) (xs : List Nat) :
    spreadShares (p :: ps) xs = none :: spreadShares ps xs := by
  cases xs <;> simp [spreadShares, h]

theorem spreadShares_length (ms : List Passage) : ∀ xs, (spreadShares ms xs).length = ms.length := by
  induction ms with
  | nil => exact fun _ => rfl
  | cons p ps ih =>
    intro xs
    cases h : isSharer p
    · rw [spreadShares_service h, List.length_cons, ih, List.length_cons]
    · rw [spreadShares_sharer h, List.length_cons, ih, List.length_cons]

/-- A member has a share just when it is no SERVICE vessel. -/
theorem spreadShares_isSome (ms : List Passage) : ∀ (xs : List Nat) (j : Nat) (p : Passage), ms[j]? = some p →
    ((spreadShares ms xs).getD j none).isSome = isSharer p := by
  induction ms with
  | nil => exact fun _ _ _ h => nomatch h
  | cons q ps ih =>
    intro xs j p hj
    cases h : isSharer q
    · rw [spreadShares_service h]
      cases j with
      | zero =>
        obtain rfl : q = p := Option.some.inj hj
        exact h.symm
      | succ j => exact ih _ j p hj
    · rw [spreadShares_sharer h]
      cases j with
      | zero =>
        obtain rfl : q = p := Option.some.inj hj
        exact h.symm
      | succ j => exact ih _ j p hj

theorem spreadShares_sum (ms : List Passage) : ∀ xs : List Nat, xs.length = (ms.filter isSharer).length →
    natSum ((spreadShares ms xs).map fun x => x.getD 0) = natSum xs := by
  induction ms with
  | nil =>
    intro xs h
    rw [List.eq_nil_of_length_eq_zero h]
    rfl
  | cons p ps ih =>
    intro xs h
    cases hs : isSharer p
    · rw [List.filter_cons_of_neg (by simp [hs])] at h
      rw [spreadShares_service hs]
      exact (Nat.zero_add _).trans (ih xs h)
    · rw [List.filter_cons_of_pos hs] at h
      rw [spreadShares_sharer hs]
      cases xs with
      | nil => exact nomatch h
      | cons x xs => exact congrArg (x + ·) (ih xs (Nat.succ.inj h))

/-- R161: the members' shares make up the charge where a member is no SERVICE vessel. -/
theorem memberShares_sum (cw : Nat) {ms : List Passage} (hs : ∃ p ∈ ms, isSharer p = true)
    (hl : ∀ p ∈ ms, 1 ≤ p.length) : natSum ((memberShares cw ms).map fun x => x.getD 0) = cw := by
  obtain ⟨p, hp, hsharer⟩ := hs
  have hmem : p.length ∈ (ms.filter isSharer).map (·.length) :=
    List.mem_map.mpr ⟨p, List.mem_filter.mpr ⟨hp, hsharer⟩, rfl⟩
  have hpos : 0 < natSum ((ms.filter isSharer).map (·.length)) :=
    (hl p hp).trans (List.single_le_sum (fun _ _ => Nat.zero_le _) _ hmem)
  rw [memberShares, spreadShares_sum _ _ ((waterShares_length _ _).trans (List.length_map _)),
    waterShares_sum cw hpos]

theorem memberShares_none (cw : Nat) {ms : List Passage} (hs : ¬∃ p ∈ ms, isSharer p = true) :
    natSum ((memberShares cw ms).map fun x => x.getD 0) = 0 := by
  have hnil : ms.filter isSharer = [] := List.filter_eq_nil_iff.mpr fun p hp h => hs ⟨p, hp, h⟩
  rw [memberShares, hnil]
  exact spreadShares_sum ms (waterShares cw []) (by rw [waterShares_length, hnil]; rfl)

/-! ### Receipts (R162, R167) -/

section

variable (e : Edition) (b : Batch) (w : Water) (day : Nat)

theorem receiptsFor_getElem? (ms : List Passage) : ∀ (n : Nat) (shares : List (Option Nat)) (j : Nat) (p : Passage),
    ms[j]? = some p →
      (receiptsFor e b w day n ms shares)[j]? = some (receiptFor e b w day (n + j) p (shares.getD j none)) := by
  induction ms with
  | nil => exact fun _ _ _ _ h => nomatch h
  | cons q ps ih =>
    intro n shares j p hj
    cases j with
    | zero =>
      obtain rfl : q = p := Option.some.inj hj
      cases shares <;> rfl
    | succ j =>
      have hnext := ih (n + 1) (shares.drop 1) j p hj
      have hshare : (shares.drop 1).getD j none = shares.getD (j + 1) none := by cases shares <;> rfl
      rw [hshare, show n + 1 + j = n + (j + 1) by omega] at hnext
      exact hnext

theorem receiptsFor_shares (ms : List Passage) : ∀ (n : Nat) (shares : List (Option Nat)), shares.length = ms.length →
    (receiptsFor e b w day n ms shares).map (·.share) = shares := by
  induction ms with
  | nil => exact fun _ _ h => (List.eq_nil_of_length_eq_zero h).symm
  | cons p ps ih =>
    intro n shares h
    cases shares with
    | nil => exact nomatch h
    | cons x xs => exact congrArg (x :: ·) (ih (n + 1) xs (Nat.succ.inj h))

theorem receiptsFor_fees (ms : List Passage) : ∀ (n : Nat) (shares : List (Option Nat)),
    natSum ((receiptsFor e b w day n ms shares).map (·.fee)) =
      natSum ((receiptsFor e b w day n ms shares).map (·.dues)) +
        natSum ((receiptsFor e b w day n ms shares).map fun r => r.share.getD 0) := by
  induction ms with
  | nil => exact fun _ _ => rfl
  | cons p ps ih =>
    intro n shares
    have hrest := ih (n + 1) (shares.drop 1)
    have hhead : (receiptFor e b w day n p (shares.headD none)).fee =
        (receiptFor e b w day n p (shares.headD none)).dues +
          (receiptFor e b w day n p (shares.headD none)).share.getD 0 := rfl
    rw [receiptsFor, List.map_cons, List.map_cons, List.map_cons, hhead]
    change (_ + _ : Nat) + natSum _ = (_ + natSum _) + (_ + natSum _)
    omega

end

theorem duesFor_service (e : Edition) (l dw c : Nat) (night : Bool) : (duesFor e l dw c .service night).dues = 0 := rfl

section

variable (s : State) (b : Batch)

theorem State.batchReceipts_length : (s.batchReceipts b).length = b.members.length := receiptsFor_length _ _ _ _ _ _ _

theorem State.batchReceipts_shares : (s.batchReceipts b).map (·.share) = memberShares (s.batchWater b).charge b.members :=
  receiptsFor_shares _ _ _ _ _ _ _ (spreadShares_length _ _)

theorem State.batchReceipts_shareSum : natSum ((s.batchReceipts b).map fun r => r.share.getD 0) =
    natSum ((memberShares (s.batchWater b).charge b.members).map fun x => x.getD 0) := by
  rw [← s.batchReceipts_shares, List.map_map]
  rfl

/-- The member a receipt is written for. -/
theorem State.batchReceipts_mem {r : Receipt} (hr : r ∈ s.batchReceipts b) : ∃ p ∈ b.members, ∃ n share,
    r = receiptFor ((s.editionOf b.edition).getD noEdition) b (s.batchWater b) s.toll.account.day n p share ∧
      share.isSome = isSharer p := by
  obtain ⟨j, hj, rfl⟩ := List.getElem_of_mem hr
  have hlt : j < b.members.length := hj.trans_eq (s.batchReceipts_length b)
  have hmember : b.members[j]? = some b.members[j] := List.getElem?_eq_getElem hlt
  have hat := receiptsFor_getElem? ((s.editionOf b.edition).getD noEdition) b (s.batchWater b) s.toll.account.day
    b.members (s.toll.account.issued + 1) (memberShares (s.batchWater b).charge b.members) j _ hmember
  exact ⟨_, List.getElem_mem hlt, _, _, Option.some.inj ((List.getElem?_eq_getElem hj).symm.trans hat),
    spreadShares_isSome _ _ j _ hmember⟩

end

/-! ### The charge (R160) and the dues (R156 to R159) -/

theorem divHalfUp_eq (n d : Nat) (hd : 0 < d) : divHalfUp n (2 * d) = (2 * n + 2 * d) / (4 * d) := by
  rw [divHalfUp, show 2 * d / 2 = d by omega, show 2 * n + 2 * d = 2 * (n + d) by omega,
    show 4 * d = 2 * (2 * d) by omega, Nat.mul_div_mul_left _ _ (by decide)]

theorem State.batchWater_eq {s : State} {b : Batch} {e : Edition} {g : ChamberConfig}
    (he : s.editionOf b.edition = some e) (hg : (s.chamber .c1).config = some g) :
    s.batchWater b =
      { volume := (2 * (g.area * b.meter.rise) + 1000) / 2000
        charge := min 9999999 ((2 * ((2 * (g.area * b.meter.rise) + 1000) / 2000 * e.waterRate) + 100) / 200)
        capped := decide (9999999 < (2 * ((2 * (g.area * b.meter.rise) + 1000) / 2000 * e.waterRate) + 100) / 200) } := by
  have harea : s.areaC1 = g.area := by
    rw [State.areaC1, hg]
  rw [State.batchWater, harea, he]
  have h1000 := divHalfUp_eq (g.area * b.meter.rise) 500 (by decide)
  have h100 := divHalfUp_eq (divHalfUp (g.area * b.meter.rise) 1000 * e.waterRate) 50 (by decide)
  rw [waterFor, chargeFor]
  simp only [Nat.reduceMul] at h1000 h100
  rw [h1000] at h100 ⊢
  rw [h100, Nat.min_comm]
  rfl

theorem surcharged_ge (d percent : Nat) : d ≤ surcharged d percent := by
  rw [surcharged, divHalfUp, Nat.le_div_iff_mul_le (by decide), Nat.mul_add]
  omega

theorem recordedSurcharge_eq {base total : Nat} (h : base ≤ total) (d : Dues) (hd : d.surcharge = some (total - base)) :
    recordedSurcharge d = if total = base then none else some (total - base) := by
  rw [recordedSurcharge, hd]
  split
  · rename_i heq
    simp [heq]
  · rw [Option.filter_some, if_pos (by simp; omega)]

theorem clampDues_eq (e : Edition) (h : e.minDues ≤ e.maxDues) (d : Nat) :
    (clampDues e d).1 = max e.minDues (min e.maxDues d) := by
  unfold clampDues
  split_ifs <;> omega

/-! ### Completion (R144, R162, R167) -/

section

variable (s : State) (b : Batch)

/-- What a completion leaves of the tolls, the table and the receipts held. -/
theorem State.completeBatch_fields : (s.completeBatch b).toll = (s.assess b).toll ∧
    (s.completeBatch b).traffic.batches = s.traffic.batches.filter (fun x => x.number != b.number) ∧
    (s.completeBatch b).receipts.queue = s.receipts.queue ++ s.batchReceipts b := by
  obtain ⟨ns, hns⟩ := ((s.assess b).removeBatch b.number).evaluateReceipts_spec
  unfold State.completeBatch
  dsimp only
  rw [hns, State.noticeComplete, State.notify_withNotices]
  exact ⟨rfl, rfl, rfl⟩

/-- R156 to R159, R162: the receipt of a member under an edition. -/
theorem receiptFor_service (e : Edition) (w : Water) (day n : Nat) {p : Passage} (share : Option Nat)
    (h : p.priority = .service) : (receiptFor e b w day n p share).dues = 0 ∧
      (receiptFor e b w day n p share).surcharge = none ∧ (receiptFor e b w day n p share).clamp = none := by
  unfold receiptFor
  rw [h]
  exact ⟨rfl, rfl, rfl⟩

theorem receiptFor_charged {e : Edition} (he : e.minDues ≤ e.maxDues) (w : Water) (day n : Nat) {p : Passage}
    (share : Option Nat) (h : p.priority ≠ .service) :
    let dues1 := surcharged (baseCharge e p.length + tonnageCharge e p.deadweight p.cargo)
      (surchargePercent e p.priority b.night)
    (receiptFor e b w day n p share).dues = max e.minDues (min e.maxDues dues1) ∧
      (receiptFor e b w day n p share).surcharge =
        if dues1 = baseCharge e p.length + tonnageCharge e p.deadweight p.cargo then none
        else some (dues1 - (baseCharge e p.length + tonnageCharge e p.deadweight p.cargo)) := by
  intro dues1
  have hdues : duesFor e p.length p.deadweight p.cargo p.priority b.night =
      { base := baseCharge e p.length, tonnage := tonnageCharge e p.deadweight p.cargo
        surcharge := some (dues1 - (baseCharge e p.length + tonnageCharge e p.deadweight p.cargo))
        clamp := (clampDues e dues1).2, dues := (clampDues e dues1).1 } := if_neg h
  unfold receiptFor
  rw [hdues]
  refine ⟨clampDues_eq e he dues1, ?_⟩
  dsimp only
  exact recordedSurcharge_eq (surcharged_ge _ _) _ rfl

theorem isSharer_iff (p : Passage) : isSharer p = true ↔ p.priority ≠ .service := bne_iff_ne

theorem anySharer_iff (ms : List Passage) : ms.any isSharer = true ↔ ∃ p ∈ ms, p.priority ≠ .service := by
  simp only [List.any_eq_true, isSharer_iff]

theorem receiptFor_base (e : Edition) (w : Water) (day n : Nat) (p : Passage) (share : Option Nat) :
    (receiptFor e b w day n p share).base = baseCharge e p.length ∧
      (receiptFor e b w day n p share).tonnage = tonnageCharge e p.deadweight p.cargo := by
  unfold receiptFor duesFor
  split <;> exact ⟨rfl, rfl⟩

end

/-- Settles O55: the leftover cents go to the sharers of the smallest ranks, and a rank below the leftover is had by
exactly that many; a completion writes a receipt for each member and hands their sums to the account. -/
theorem waterSharesAddUp : Obligations.WaterSharesAddUp := by
  refine ⟨fun cw ls h => ⟨waterShares_sum cw h, waterShares_length cw ls, fun i hi => ?_, fun i j hi hj hb => ?_⟩,
    ?_, ?_⟩
  · rw [waterShares_getD cw ls hi]
    refine ⟨Nat.le_add_right _ _, Nat.add_le_add_left ?_ _⟩
    split
    · exact Nat.le_refl 1
    · exact Nat.zero_le 1
  · rw [waterShares_getD cw ls hi, waterShares_getD cw ls hj]
    change shareFloor cw ls j + _ = shareFloor cw ls j + 1 → shareFloor cw ls i + _ = shareFloor cw ls i + 1
    intro hextra
    have hj' : shareRank (shareRem cw ls) ls.length j < shareLeftover cw ls := by
      by_contra hn
      rw [if_neg hn] at hextra
      omega
    have hbefore : ranksBefore (shareRem cw ls) i j := hb.imp_right fun h => ⟨h.1.symm, h.2⟩
    rw [if_pos ((shareRank_lt hi hbefore).trans hj')]
  · rintro b e g v c s he hg rfl rfl
    exact s.batchWater_eq he hg
  · intro b e s he hbounds hlen
    obtain ⟨htoll, hbatches, hqueue⟩ := s.completeBatch_fields b
    have hedition : (s.editionOf b.edition).getD noEdition = e := by
      rw [he]
      rfl
    have hshares := s.batchReceipts_shareSum b
    refine ⟨_, _, s.batchReceipts b, rfl, rfl, hbatches, hqueue, s.batchReceipts_length b, fun j p hj => ?_,
      fun hs => ?_, ?_⟩
    · have hat := receiptsFor_getElem? e b (s.batchWater b) s.toll.account.day b.members (s.toll.account.issued + 1)
        (memberShares (s.batchWater b).charge b.members) j p hj
      have hshare := spreadShares_isSome b.members
        (waterShares (s.batchWater b).charge ((b.members.filter isSharer).map (·.length))) j p hj
      rw [← hedition] at hat
      refine ⟨_, hat, rfl, rfl, rfl, rfl, rfl, rfl, rfl, rfl, ?_, ?_, fun hp => ?_, fun hp => ?_, rfl, rfl, rfl, rfl,
        rfl⟩
      · rw [hedition]
        exact (receiptFor_base b e _ _ _ p _).1
      · rw [hedition]
        exact (receiptFor_base b e _ _ _ p _).2
      · rw [hedition]
        obtain ⟨hdues, hsur⟩ := receiptFor_charged b hbounds (s.batchWater b) s.toll.account.day
          (s.toll.account.issued + 1 + j) ((memberShares (s.batchWater b).charge b.members).getD j none) hp
        obtain ⟨hbase, hton⟩ := receiptFor_base b e (s.batchWater b) s.toll.account.day
          (s.toll.account.issued + 1 + j) p ((memberShares (s.batchWater b).charge b.members).getD j none)
        rw [hbase, hton]
        refine ⟨?_, ?_, hshare.trans ((isSharer_iff p).mpr hp), hdues, hsur⟩
        · rw [hdues]
          exact Nat.le_max_left _ _
        · rw [hdues]
          exact Nat.max_le.mpr ⟨hbounds, Nat.min_le_left _ _⟩
      · obtain ⟨hdues, hsur, hclamp⟩ := receiptFor_service b ((s.editionOf b.edition).getD noEdition) (s.batchWater b)
          s.toll.account.day (s.toll.account.issued + 1 + j)
          ((memberShares (s.batchWater b).charge b.members).getD j none) hp
        refine ⟨hdues, ?_, hsur, hclamp⟩
        rw [show isSharer p = false by simp [isSharer, hp]] at hshare
        exact Option.not_isSome_iff_eq_none.mp (Bool.eq_false_iff.mp hshare)
    · rw [hshares]
      obtain ⟨p, hp, hpr⟩ := hs
      exact memberShares_sum _ ⟨p, hp, (isSharer_iff p).mpr hpr⟩ hlen
    · have hun : (if b.members.any isSharer then 0 else (s.batchWater b).charge) =
          if ∃ p ∈ b.members, p.priority ≠ .service then 0 else (s.batchWater b).charge := by
        simp only [anySharer_iff]
      rw [htoll, ← hun]
      refine ⟨rfl, rfl, rfl, rfl, rfl, rfl, rfl, fun hd => ?_, fun hd => ?_⟩
      · simp [State.assess, State.setAccount, addAccount, totalsOf, addSat, hd, Config.countLimit]
      · simp [State.assess, State.setAccount, addAccount, totalsOf, addSat, hd, Config.countLimit]

end Sys2Proof.Machine
end

section
/-! THE ACCOUNTS: fees are dues and water allocated, and the water charges balance (O6). -/

namespace Sys2Proof.Machine

/-! ### Where the lengths of passages come from -/

/-- Every passage held has the length of one held before. -/
def State.lengthsFrom (s t : State) : Prop := ∀ p ∈ t.allPassages, ∃ x ∈ s.allPassages, p.length = x.length

theorem State.lengthsFrom_refl (s : State) : s.lengthsFrom s := fun p hp => ⟨p, hp, rfl⟩

section

variable {s t : State}

theorem State.lengthsFrom_batches (f : Batch → Batch)
    (hf : ∀ b ∈ s.traffic.batches, ∀ p ∈ (f b).members, ∃ x ∈ b.members, p.length = x.length) :
    s.lengthsFrom (s.setBatches (s.traffic.batches.map f)) := by
  intro p hp
  rcases State.mem_allPassages.mp hp with hq | ⟨y, hy, hpy⟩
  · exact ⟨p, State.mem_allPassages.mpr (.inl hq), rfl⟩
  · obtain ⟨b, hb, rfl⟩ := List.mem_map.mp hy
    obtain ⟨x, hx, hlen⟩ := hf b hb p hpy
    exact ⟨x, State.mem_allPassages.mpr (.inr ⟨b, hb, hx⟩), hlen⟩

theorem State.lengthsFrom_modBatch (n : Nat) (f : Batch → Batch)
    (hf : ∀ b, ∀ p ∈ (f b).members, ∃ x ∈ b.members, p.length = x.length) : s.lengthsFrom (s.modBatch n f) :=
  State.lengthsFrom_batches _ fun b _ => by
    split
    · exact hf b
    · exact fun p hp => ⟨p, hp, rfl⟩

theorem Admits.lengthsFrom {u : State} {d : Direction} {ms : List Passage} (ha : Admits s u d ms) (e : Edition)
    (ns : List Notice) :
    s.lengthsFrom (({ u with traffic := u.admittedTraffic d e ms } : State).withNotices ns) := by
  have hQ : u.queueOf = s.queueOf := by
    rcases ha.state with rfl | rfl <;> rfl
  have hqueue : ∀ c, (({ u with traffic := u.admittedTraffic d e ms } : State).withNotices ns).queueOf c =
      if c = d then leftBehind u.traffic.skipLimit (ms.map (·.number)) (s.queueOf d) else s.queueOf c := by
    intro c
    rw [← hQ]
    exact u.queueOf_withQueue d c _
  intro p hp
  rcases State.mem_allPassages.mp hp with ⟨c, hc⟩ | ⟨b, hb, hpb⟩
  · rw [hqueue] at hc
    split at hc
    · obtain ⟨x, hx, rfl | rfl⟩ := mem_leftBehind hc
      · exact ⟨p, State.mem_allPassages.mpr (.inl ⟨d, hx⟩), rfl⟩
      · exact ⟨x, State.mem_allPassages.mpr (.inl ⟨d, hx⟩), rfl⟩
    · exact ⟨p, State.mem_allPassages.mpr (.inl ⟨c, hc⟩), rfl⟩
  · rcases List.mem_append.mp hb with hb | hb
    · exact ⟨p, State.mem_allPassages.mpr (.inr ⟨b, ha.batches_eq ▸ hb, hpb⟩), rfl⟩
    · rw [List.mem_singleton.mp hb] at hpb
      obtain ⟨x, hx, i, rfl⟩ := mem_admitAll hpb
      exact ⟨x, State.mem_allPassages.mpr (.inl (ha.mem_queues x hx)), rfl⟩

theorem Edit.lengthsFrom (he : Edit s t) : s.lengthsFrom t := by
  cases he with
  | batches f hf => exact State.lengthsFrom_batches f fun b hb p hp => ⟨p, (hf b hb).members ▸ hp, rfl⟩
  | claim b hb => exact State.lengthsFrom_modBatch _ _ fun b p hp => ⟨p, hp, rfl⟩
  | admission ha he ns => exact ha.lengthsFrom _ ns
  | complete b hb =>
    exact fun p hp => ⟨p, State.mem_allPassages.mpr ((State.mem_allPassages.mp hp).imp_right
      fun ⟨x, hx, hpx⟩ => ⟨x, (List.mem_filter.mp hx).1, hpx⟩), rfl⟩
  | _ => exact s.lengthsFrom_refl

/-- Changing the records of every queue and batch, but not their lengths. -/
theorem State.lengthsFrom_map (f : Passage → Passage) (hf : ∀ p, (f p).length = p.length)
    (hq : ∀ d, t.queueOf d = (s.queueOf d).map f)
    (hb : t.traffic.batches = s.traffic.batches.map fun b => { b with members := b.members.map f }) :
    s.lengthsFrom t := by
  intro p hp
  rcases State.mem_allPassages.mp hp with ⟨d, hd⟩ | ⟨b, hbt, hpb⟩
  · rw [hq] at hd
    obtain ⟨x, hx, rfl⟩ := List.mem_map.mp hd
    exact ⟨x, State.mem_allPassages.mpr (.inl ⟨d, hx⟩), hf x⟩
  · rw [hb] at hbt
    obtain ⟨y, hy, rfl⟩ := List.mem_map.mp hbt
    obtain ⟨x, hx, rfl⟩ := List.mem_map.mp hpb
    exact ⟨x, State.mem_allPassages.mpr (.inr ⟨y, hy, hx⟩), hf x⟩

theorem OwnEdit.lengths (ho : OwnEdit s t) (h : ∀ p ∈ s.allPassages, 1 ≤ p.length) :
    ∀ p ∈ t.allPassages, 1 ≤ p.length := by
  have hfrom : s.lengthsFrom t → ∀ p ∈ t.allPassages, 1 ≤ p.length := fun hst p hp => by
    obtain ⟨x, hx, hlen⟩ := hst p hp
    exact hlen ▸ h x hx
  cases ho with
  | renumber =>
    exact hfrom (State.lengthsFrom_map (fun p => { p with stamp := s.stampRank p }) (fun _ => rfl)
      s.renumber_queueOf rfl)
  | queueLimits m l =>
    exact hfrom (State.lengthsFrom_map (lowerSkips (clampSkipLimit l)) (fun _ => rfl)
      (fun d => State.lowerAllSkips_queueOf _ _ d) rfl)
  | register a d p hm hq =>
    intro x hx
    rcases State.mem_allPassages.mp hx with ⟨c, hc⟩ | hb
    · rw [State.queueOf_added] at hc
      split at hc
      · rcases List.mem_cons.mp ((placePassage_perm _ _).mem_iff.mp hc) with rfl | hc
        · simp only [measuresValid, between, Bool.and_eq_true, decide_eq_true_eq] at hm
          change 1 ≤ a.length
          omega
        · exact h x (State.mem_allPassages.mpr (.inl ⟨_, hc⟩))
      · exact h x (State.mem_allPassages.mpr (.inl ⟨c, hc⟩))
    · exact h x (State.mem_allPassages.mpr (.inr hb))
  | withdraw n p hp =>
    refine hfrom fun x hx => ⟨x, State.mem_allPassages.mpr ?_, rfl⟩
    refine (State.mem_allPassages.mp hx).imp_left fun ⟨c, hc⟩ => ?_
    rw [State.queueOf_withdrawn] at hc
    split at hc
    · exact ⟨_, (List.mem_filter.mp hc).1⟩
    · exact ⟨c, hc⟩
  | abandon n b hb he =>
    refine hfrom fun x hx => ?_
    rcases State.mem_allPassages.mp hx with ⟨c, hc⟩ | ⟨y, hy, hxy⟩
    · rw [State.queueOf_abandoned] at hc
      split at hc
      · rcases List.mem_append.mp ((returnAll_perm _ _).mem_iff.mp hc) with hc | hc
        · obtain ⟨y, hy, rfl⟩ := List.mem_map.mp hc
          exact ⟨y, State.mem_allPassages.mpr (.inr ⟨b, s.batch_mem hb, hy⟩), rfl⟩
        · exact ⟨x, State.mem_allPassages.mpr (.inl ⟨_, hc⟩), rfl⟩
      · exact ⟨x, State.mem_allPassages.mpr (.inl ⟨c, hc⟩), rfl⟩
    · exact ⟨x, State.mem_allPassages.mpr (.inr ⟨y, (List.mem_filter.mp hy).1, hxy⟩), rfl⟩
  | resume n b hb hs => exact hfrom (State.lengthsFrom_modBatch _ _ fun b p hp => ⟨p, hp, rfl⟩)
  | _ => exact h

end

/-! ### The account -/

/-- R171: the eighth law of an account. -/
def DayAccount.balances (a : DayAccount) : Prop :=
  a.fees = a.dues + a.waterAllocated ∧ (a.capped = false → a.waterCharges = a.waterAllocated + a.unallocated)

theorem addSat_exact {limit a b : Nat} (h : (addSat limit a b).2 = false) : (addSat limit a b).1 = a + b :=
  Nat.min_eq_right (Nat.le_of_not_lt (of_decide_eq_false h))

/-- A hand-over that balances keeps the account balanced. -/
theorem DayAccount.balances_add {a : DayAccount} (ha : a.balances) {h : HandOver} (hf : h.fees = h.dues + h.allocated)
    (hc : h.charge = h.allocated + h.unallocated) : (addAccount a h).balances := by
  obtain ⟨hfees, hwater⟩ := ha
  refine ⟨?_, fun hcap => ?_⟩
  · change a.fees + h.fees = a.dues + h.dues + (a.waterAllocated + h.allocated)
    omega
  · simp only [addAccount, Bool.or_eq_false_iff] at hcap ⊢
    obtain ⟨⟨⟨⟨⟨⟨⟨hold, hch⟩, hun⟩, -⟩, -⟩, -⟩, -⟩, -⟩ := hcap
    rw [addSat_exact hch, addSat_exact hun, hwater hold, hc]
    omega

/-- The invariant of O6, with the passages as they stand. -/
def State.booksFit (s : State) : Prop :=
  s.toll.account.balances ∧ (∀ x ∈ s.receipts.queue, x.fits) ∧ ∀ p ∈ s.allPassages, 1 ≤ p.length

theorem State.booksFit_iff (s : State) : s.booksFit ↔ s.retainedOf.accountFits ∧ s.retainedOf.waterFits := by
  rw [Retained.waterFits, s.retained_passages]
  exact ⟨fun ⟨⟨h1, h2⟩, h3, h4⟩ => ⟨⟨h1, h3⟩, h4, h2⟩, fun ⟨⟨h1, h3⟩, h4, h2⟩ => ⟨⟨h1, h2⟩, h3, h4⟩⟩

theorem receiptFor_fits (e : Edition) (b : Batch) (w : Water) (day n : Nat) {p : Passage} {share : Option Nat}
    (hs : share.isSome = isSharer p) : (receiptFor e b w day n p share).fits := by
  refine ⟨rfl, fun h => (receiptFor_service b e w day n share h).1, ?_⟩
  change share = none ↔ p.priority = .service
  rw [← Option.not_isSome_iff_eq_none, hs, isSharer_iff, not_not]

/-- R144, R162: what a completion hands to the account balances. -/
theorem totalsOf_balances (s : State) (b : Batch) (h : ∀ p ∈ b.members, 1 ≤ p.length) :
    (totalsOf b (s.batchWater b) (s.batchReceipts b)).charge =
      (totalsOf b (s.batchWater b) (s.batchReceipts b)).allocated +
        (totalsOf b (s.batchWater b) (s.batchReceipts b)).unallocated := by
  change (s.batchWater b).charge = natSum ((s.batchReceipts b).map fun r => r.share.getD 0) +
    if b.members.any isSharer then 0 else (s.batchWater b).charge
  rw [s.batchReceipts_shareSum b]
  by_cases hany : b.members.any isSharer = true
  · rw [if_pos hany, memberShares_sum _ (List.any_eq_true.mp hany) h]
    rfl
  · rw [if_neg hany, memberShares_none _ fun hex => hany (List.any_eq_true.mpr hex)]
    exact (Nat.zero_add _).symm

theorem Edit.booksFit {s t : State} (he : Edit s t) (h : s.booksFit) : t.booksFit := by
  have hlen : ∀ p ∈ t.allPassages, 1 ≤ p.length := fun p hp => by
    obtain ⟨x, hx, heq⟩ := he.lengthsFrom p hp
    exact heq ▸ h.2.2 x hx
  obtain ⟨hacc, hrec, hpass⟩ := h
  cases he with
  | admission ha he ns =>
    cases ha <;> exact ⟨hacc, hrec, hlen⟩
  | complete b hb =>
    obtain ⟨x, hx, -, hm⟩ := hb
    refine ⟨DayAccount.balances_add hacc (receiptsFor_fees _ _ _ _ _ _ _) (totalsOf_balances s b fun p hp => ?_), fun r hr => ?_,
      hlen⟩
    · exact hpass p (State.mem_allPassages.mpr (.inr ⟨x, hx, hm ▸ hp⟩))
    · rcases List.mem_append.mp hr with hr | hr
      · exact hrec r hr
      · obtain ⟨p, -, n, share, rfl, hs⟩ := s.batchReceipts_mem b hr
        exact receiptFor_fits _ _ _ _ _ hs
  | _ => exact ⟨hacc, hrec, hlen⟩

theorem OwnEdit.booksFit {s t : State} (ho : OwnEdit s t) (h : s.booksFit) : t.booksFit := by
  have hlen := ho.lengths h.2.2
  obtain ⟨hacc, hrec, -⟩ := h
  cases ho with
  | abandon n b hb he => exact ⟨DayAccount.balances_add hacc rfl (Nat.zero_add _).symm, hrec, hlen⟩
  | openDay => exact ⟨⟨rfl, fun _ => rfl⟩, hrec, hlen⟩
  | _ => exact ⟨hacc, hrec, hlen⟩

theorem booksFit_invariant : StepInvariant State.booksFit fun r => r.accountFits ∧ r.waterFits where
  turn s t ht h := by
    cases ht with
    | edit he => exact he.booksFit h
    | halt c => exact h
    | cancel => exact h
  own s t ho h := ho.booksFit h
  confirm s n b g _ _ _ h := ⟨h.1, h.2.1, fun p hp => by
    have hfrom : s.lengthsFrom (s.confirmed b g) := State.lengthsFrom_modBatch _ _ fun x p hp => by
      obtain ⟨y, hy, rfl⟩ := List.mem_map.mp hp
      exact ⟨y, hy, rfl⟩
    obtain ⟨x, hx, heq⟩ := hfrom p hp
    exact heq ▸ h.2.2 x hx⟩
  clock _ _ _ h := h
  release _ _ _ _ hr h := ⟨h.1, fun x hx => h.2.1 x ((releaseUpTo_suffix hr).subset hx), h.2.2⟩
  same s t hst h := by
    obtain ⟨c, st, pw, n, q, -, rfl⟩ := hst
    exact h
  retained s h := s.booksFit_iff.mp h
  defaults := ⟨⟨rfl, fun _ hx => absurd hx List.not_mem_nil⟩, fun _ hp => (defaults_no_passage hp).elim, fun _ => rfl⟩
  fresh r clock now store stretch start pending hr _ := by
    obtain ⟨⟨h1, h3⟩, h4, h2⟩ := hr
    exact ⟨_, State.startUpBatches_edits _, ⟨h1, h2⟩, h3, h4⟩

/-- Settles O6: a completion hands over the sums of its receipts, whose shares make up the charge, and an abandonment
a charge that no one bears. -/
theorem accountsBalance : Obligations.AccountsBalance := fun s t h hst =>
  have ⟨ht, hstore⟩ := booksFit_invariant.step trivial (s.booksFit_iff.mpr h.1) h.2 hst
  ⟨t.booksFit_iff.mp ht, hstore⟩

end Sys2Proof.Machine
end

section
/-! NOTHING MOVES UNLESS RUNNING: an entry into HALTED empties the queues and drops the movements, and the end of a
step derives every face; the twelfth law and the third (O4). -/

namespace Sys2Proof.Machine

/-! ### Deeds that end with the end of the step -/

/-- An invariant that edits, a command's own updates and the end of the step keep is kept by deeds. -/
theorem Deeds.keepDeeds {I : State → Prop} (he : ∀ s t, Edit s t → I s → I t) (ho : ∀ s t, OwnEdit s t → I s → I t)
    (hf : ∀ s, I s → I s.finish) {s t : State} (hst : Deeds s t) (hs : I s) : I t := by
  induction hst with
  | refl => exact hs
  | tail _ hab ih =>
    cases hab with
    | edit h => exact he _ _ h ih
    | own h => exact ho _ _ h ih
    | finish => exact hf _ ih

theorem Edits.keep {I : State → Prop} (he : ∀ s t, Edit s t → I s → I t) {s t : State} (hst : Edits s t) (hs : I s) :
    I t := by
  induction hst with
  | refl => exact hs
  | tail _ hab ih => exact he _ _ hab ih

/-- Folding a step over a list keeps what each step keeps. -/
theorem foldl_keeps {α : Type} {I : State → Prop} {f : State → α → State} (h : ∀ s a, I s → I (f s a)) (xs : List α) :
    ∀ s, I s → I (xs.foldl f s) := by
  induction xs with
  | nil => exact fun _ hs => hs
  | cons x xs ih => exact fun s hs => ih _ (h s x hs)

/-- Folding a step over a list keeps what each step leaves as it is. -/
theorem foldl_frame {α β : Type} (g : State → β) {f : State → α → State} (h : ∀ s a, g (f s a) = g s) (xs : List α)
    (s : State) : g (xs.foldl f s) = g s :=
  foldl_keeps (I := fun t => g t = g s) (fun t a ht => (h t a).trans ht) xs s rfl

section

variable (s : State)

/-! ### The line at an entry into HALTED (R83) -/

theorem State.notify_line (k : NoticeKind) (o : Nat) (p : List Field) : (s.notify k o p).line = s.line := by
  rw [State.notify_withNotices]
  rfl

theorem State.changeFault_line (old new : FaultRec) : (s.changeFault old new).line = s.line := by
  unfold State.changeFault
  split
  · rfl
  · exact State.notify_line _ _ _ _

theorem State.stationUnsynced_line (k : Station) : (s.stationUnsynced k).line = s.line := by
  have hreadings : (s.loseReadings k).line = s.line := by
    unfold State.loseReadings
    dsimp only
    split <;> split <;> rfl
  have hpositions : ∀ t : State, (t.forgetPositions k).line = t.line :=
    fun t => foldl_frame (f := fun u i => u.setItem i { u.item i with position := none }) (·.line) (fun _ _ => rfl) _ t
  have hinputs : ∀ t : State, (t.loseInputs k).line = t.line := fun t =>
    foldl_frame (·.line) (fun u r => u.changeFault_line r _) _ _
  exact (hinputs _).trans ((hpositions _).trans hreadings)

theorem State.enterStation_unsynced_line (k : Station) :
    (s.enterStation k .unsynced 0).line = (s.setStation k { s.station k with state := .unsynced, failed := 0 }).line := by
  unfold State.enterStation
  dsimp only
  split
  · rfl
  · exact (State.notify_line _ _ _ _).trans (State.stationUnsynced_line _ k)

theorem State.unsyncAll_queue (k : Station) : (s.unsyncAll.station k).queue = (s.station k).queue := by
  refine foldl_frame (fun t => (t.station k).queue) (fun t j => ?_) _ s
  split
  · rfl
  · have hline : (t.enterStation j .unsynced 0).station k =
        (t.setStation j { t.station j with state := .unsynced, failed := 0 }).station k :=
      congrArg (fun l => l.stations.get k) (t.enterStation_unsynced_line j)
    rw [hline, State.station_setStation]
    split
    · rename_i h
      rw [h]
    · rfl

/-- Every queue of the line is empty. -/
def State.queuesEmpty : Prop := ∀ k, (s.station k).queue = []

theorem State.emptyQueues_queuesEmpty : s.emptyQueues.queuesEmpty := by
  intro k
  unfold State.emptyQueues allStations
  simp only [List.foldl_cons, List.foldl_nil]
  cases k <;> rfl

variable {s}

theorem State.queuesEmpty.abortRound (h : s.queuesEmpty) : s.abortRound.queuesEmpty := by
  intro k
  unfold State.abortRound
  split
  · rename_i p _
    have hnone : polledEntry (((s.setPoll none).station p.station).queue) = none := by
      rw [show ((s.setPoll none).station p.station).queue = [] from h p.station]
      rfl
    rw [State.failCarried, hnone]
    exact h k
  · exact h k

theorem State.queuesEmpty.changeRate (h : s.queuesEmpty) (r : LineRate) : (s.changeRate r).queuesEmpty := fun k =>
  (State.unsyncAll_queue _ k).trans (h.abortRound k)

theorem State.lineHalted_queuesEmpty (s : State) (c : HaltCause) : (s.lineHalted c).queuesEmpty := by
  unfold State.lineHalted
  dsimp only
  generalize (if c = .lineHalt then s else s.abortRound.setLine { s.abortRound.line with pulse := true }) = t
  split
  · exact (State.emptyQueues_queuesEmpty _).changeRate .slow
  · exact State.emptyQueues_queuesEmpty _

/-! ### Nothing is moved (R40) -/

/-- The twelfth law but for the faces: while not RUNNING no movement stands and no queue moves anything. -/
def State.unmoved (s : State) : Prop :=
  s.halt.state ≠ .running → (∀ i, (s.item i).movement = none) ∧ ∀ k, ∀ e ∈ (s.station k).queue, e.command.moves = false

theorem mem_placeEntry {c : Command} {q : List QueueEntry} {e : QueueEntry} (h : e ∈ placeEntry c q) :
    e.command = c ∨ e ∈ q := by
  induction q with
  | nil => exact .inl (List.mem_singleton.mp h ▸ rfl)
  | cons x rest ih =>
    rw [placeEntry] at h
    split at h
    · split at h
      · rcases List.mem_append.mp h with h | h
        · exact .inr (List.mem_cons_of_mem x h)
        · exact .inl (List.mem_singleton.mp h ▸ rfl)
      · rcases List.mem_cons.mp h with rfl | h
        · exact .inl rfl
        · exact .inr (List.mem_cons_of_mem x h)
    · rcases List.mem_cons.mp h with rfl | h
      · exact .inr List.mem_cons_self
      · exact (ih h).imp_right fun hr => List.mem_cons_of_mem x hr

/-- No edit of a queue brings a move where no move is allowed. -/
theorem QueueEdit.unmoved {ok : Command → Prop} {q q' : List QueueEntry} (hq : QueueEdit ok q q')
    (hok : ∀ c, ok c → c.moves = false) (h : ∀ e ∈ q, e.command.moves = false) :
    ∀ e ∈ q', e.command.moves = false := by
  intro e he
  cases hq with
  | stop i =>
    obtain ⟨x, heq, hc, -⟩ := placeStop_eq i q
    rw [heq] at he
    rcases List.mem_cons.mp he with rfl | he
    · rw [hc]
      rfl
    · exact h e (mem_removeSlot.mp he).1
  | place c hc =>
    rcases mem_placeEntry he with rfl | he
    · exact hok _ hc
    · exact h e he
  | reset =>
    unfold placeReset at he
    split at he
    · exact h e he
    · rcases List.mem_append.mp he with he | he
      · exact h e he
      · rw [List.mem_singleton.mp he]
        rfl
  | fewer hs => exact h e (hs.subset he)
  | marks hm =>
    have hmem : e.command ∈ q.map (·.command) := hm ▸ List.mem_map_of_mem he
    obtain ⟨x, hx, hxe⟩ := List.mem_map.mp hmem
    exact hxe ▸ h x hx

end

section

variable {s t : State}

theorem State.unmoved_setItem (h : s.unmoved) (i : Item) {r : ItemRec}
    (hr : s.halt.state ≠ .running → r.movement = none) : (s.setItem i r).unmoved := by
  intro hn
  obtain ⟨hm, hq⟩ := h hn
  refine ⟨fun j => ?_, hq⟩
  rw [State.item_setItem]
  split
  · exact hr hn
  · exact hm j

theorem State.unmoved_setQueue (h : s.unmoved) (k : Station) {q : List QueueEntry}
    (hq : s.halt.state ≠ .running → ∀ e ∈ q, e.command.moves = false) : (s.setQueue k q).unmoved := by
  intro hn
  obtain ⟨hm, hqs⟩ := h hn
  refine ⟨hm, fun j e he => ?_⟩
  rw [State.station_setQueue] at he
  split at he
  · exact hq hn e he
  · exact hqs j e he

theorem Edit.unmoved (he : Edit s t) (h : s.unmoved) : t.unmoved := by
  cases he with
  | position i p => exact State.unmoved_setItem h i fun hn => (h hn).1 i
  | dropMovement i => exact State.unmoved_setItem h i fun _ => rfl
  | move i m hg =>
    refine State.unmoved_setItem h i fun hn => ?_
    rcases hg with hg | hg
    · exact absurd hg hn
    · exact absurd ((h hn).1 i) hg
  | command i c => exact State.unmoved_setItem h i fun hn => (h hn).1 i
  | queue k hq =>
    refine State.unmoved_setQueue h k fun hn => hq.unmoved (fun c hc => ?_) ((h hn).2 k)
    by_contra hm
    rcases hc (by simpa using hm) with hrun | ⟨i, hi⟩
    · exact hn hrun
    · exact hi ((h hn).1 i)
  | station k st n hf =>
    intro hn
    refine ⟨(h hn).1, fun j e he => (h hn).2 j e ?_⟩
    rw [State.station_setStation] at he
    split at he
    · rename_i hj
      exact hj ▸ he
    · exact he
  | line l hl =>
    intro hn
    refine ⟨(h hn).1, fun j e he => (h hn).2 j e ?_⟩
    have hj : (s.setLine l).station j = s.station j := congrArg (Quad.get · j) hl
    rwa [hj] at he
  | admission ha => cases ha <;> exact h
  | _ => exact h

theorem Edits.unmoved (he : Edits s t) (h : s.unmoved) : t.unmoved := he.keep (fun _ _ => Edit.unmoved) h

theorem State.cancelMovements_movement (s : State) (i : Item) : (s.cancelMovements.item i).movement = none := by
  cases i with
  | gate k => cases k <;> rfl
  | sluice k => cases k <;> rfl
  | byWash w => cases w <;> rfl

/-- Whatever stood before, an entry into HALTED leaves nothing that moves. -/
theorem State.enterHalt_unmoved (s : State) (c : HaltCause) : (s.enterHalt c).unmoved := by
  rw [State.enterHalt_eq]
  refine (State.haltTail_edits _).unmoved fun _ => ⟨State.cancelMovements_movement _, fun k e he => ?_⟩
  have hempty : (((s.haltedBy c).lineHalted c).cancelMovements.station k).queue = [] :=
    (s.haltedBy c).lineHalted_queuesEmpty c k
  rw [hempty] at he
  exact absurd he List.not_mem_nil

theorem State.takeCause_unmoved (h : s.unmoved) (c : HaltCause) : (s.takeCause c).unmoved := by
  unfold State.takeCause
  split
  · rename_i hh
    split
    · exact h
    · exact ((Edit.causes _ hh).once.trans (State.noticeHalt_edits _)).unmoved h
  · exact s.enterHalt_unmoved c

theorem State.takeCauses_unmoved (h : s.unmoved) : s.takeCauses.unmoved :=
  foldl_keeps (I := State.unmoved) (f := fun t c => t.takeCause c) (fun _ c hu => State.takeCause_unmoved hu c) s.hand.toHalt
    { s with hand := { s.hand with toHalt := [] } } ((Edit.hand { s.hand with toHalt := [] }).unmoved h)

theorem State.finish_unmoved (h : s.unmoved) : s.finish.unmoved := by
  have h1 := State.takeCauses_unmoved ((State.settleLoop_edits settleFuel s).unmoved h)
  have h2 := State.takeCauses_unmoved ((State.settleLoop_edits settleFuel _).unmoved h1)
  exact ((State.deriveFaces_edits _).trans (State.indications_edits _)).unmoved h2

/-! ### The faces at the end of a step (R60, R61) -/

/-- A face shows PROCEED only while RUNNING, at an OPEN gate. -/
def State.faceFits (s : State) (f : Face) : Prop := (s.face f).commanded = .proceed →
  s.halt.state = .running ∧ (s.item (.gate f.gate)).position = some .opened

theorem State.faceFits_of_aspect {f : Face} (h : s.aspectFor f = .proceed) :
    s.halt.state = .running ∧ (s.item (.gate f.gate)).position = some .opened := by
  have hg := s.proceedGranted_of_aspect h
  simp only [State.proceedGranted, State.mayProceed, State.reported, isRunning, Bool.and_eq_true, Bool.or_eq_true,
    beq_iff_eq, decide_eq_true_eq] at hg
  rcases hg.2 with ⟨⟨-, hrun⟩, hpos⟩ | ⟨⟨⟨⟨hrun, hpos⟩, -⟩, -⟩, -⟩
  · exact ⟨hrun, hpos⟩
  · exact ⟨hrun, hpos⟩

theorem State.deriveFace_eq (s : State) (f : Face) : s.deriveFace f = s ∧ (s.face f).commanded = s.aspectFor f ∨
    s.deriveFace f = (s.setFace f { s.face f with commanded := s.aspectFor f }).placeFace f (s.aspectFor f) := by
  unfold State.deriveFace
  dsimp only
  split
  · exact .inl ⟨rfl, ‹_›⟩
  · exact .inr rfl

theorem State.deriveFace_frame (s : State) (f : Face) :
    (s.deriveFace f).halt = s.halt ∧ (s.deriveFace f).mach = s.mach := by
  rcases s.deriveFace_eq f with ⟨h, -⟩ | h <;> rw [h] <;> exact ⟨rfl, rfl⟩

theorem State.deriveFace_commanded (s : State) (f g : Face) :
    ((s.deriveFace f).face g).commanded = if g = f then s.aspectFor f else (s.face g).commanded := by
  rcases s.deriveFace_eq f with ⟨h, hc⟩ | h
  · rw [h]
    split
    · rename_i hg
      rw [hg, hc]
    · rfl
  · rw [h]
    change ((s.setFace f { s.face f with commanded := s.aspectFor f }).face g).commanded = _
    rw [State.face_setFace]
    split <;> rfl

theorem State.deriveFace_faceFits (s : State) (f g : Face) (h : g = f ∨ s.faceFits g) : (s.deriveFace f).faceFits g := by
  intro hc
  obtain ⟨hhalt, hmach⟩ := s.deriveFace_frame f
  have hitem : (s.deriveFace f).item (.gate g.gate) = s.item (.gate g.gate) :=
    congrArg (fun m => m.items.get (.gate g.gate)) hmach
  rw [hhalt, hitem]
  rw [State.deriveFace_commanded] at hc
  split at hc
  · rename_i hg
    exact hg ▸ State.faceFits_of_aspect hc
  · rename_i hg
    exact (h.resolve_left hg) hc

theorem State.deriveFaces_faceFits (s : State) (g : Face) (hg : g ∈ allFaces) : s.deriveFaces.faceFits g := by
  have hall : ∀ (fs : List Face) (u : State), g ∈ fs ∨ u.faceFits g →
      (fs.foldl (fun s f => s.deriveFace f) u).faceFits g := by
    intro fs
    induction fs with
    | nil => exact fun u h => h.resolve_left List.not_mem_nil
    | cons f fs ih =>
      intro u h
      refine ih _ ?_
      rcases h with h | h
      · rcases List.mem_cons.mp h with rfl | h
        · exact .inr (u.deriveFace_faceFits g g (.inl rfl))
        · exact .inl h
      · exact .inr (u.deriveFace_faceFits f g (.inr h))
  exact hall allFaces s (.inl hg)

theorem mem_allFaces (f : Face) : f ∈ allFaces := by
  obtain ⟨k, x⟩ := f
  cases k <;> cases x <;> decide

theorem State.indications_frame (s : State) : s.indications.halt = s.halt ∧ s.indications.mach = s.mach ∧
    s.indications.signal = s.signal := by
  unfold State.indications
  obtain ⟨n1, h1⟩ := s.evaluateQueue_spec .up
  obtain ⟨n2, h2⟩ := (s.evaluateQueue .up).evaluateQueue_spec .down
  obtain ⟨n3, h3⟩ := ((s.evaluateQueue .up).evaluateQueue .down).evaluateHold_spec
  rw [h3, h2, h1]
  exact ⟨rfl, rfl, rfl⟩

theorem State.finish_faceFits (s : State) (f : Face) : s.finish.faceFits f := by
  unfold State.finish
  dsimp only
  generalize (State.settleLoop settleFuel (State.settleLoop settleFuel s).takeCauses).takeCauses = t
  have hd := t.deriveFaces_faceFits f (mem_allFaces f)
  obtain ⟨hhalt, hmach, hsignal⟩ := t.deriveFaces.indications_frame
  unfold State.faceFits State.item State.face at hd ⊢
  rw [hhalt, hmach, hsignal]
  exact hd

/-! ### The twelfth law through a step (O4) -/

theorem State.finish_still (h : s.unmoved) : s.finish.still := fun hn =>
  have ⟨hm, hq⟩ := State.finish_unmoved h hn
  ⟨hm, fun f hc => hn (s.finish_faceFits f hc).1, hq⟩

theorem State.still.unmoved (h : s.still) : s.unmoved := fun hn => ⟨(h hn).1, (h hn).2.2⟩

theorem State.still_of_unmoved (h : s.unmoved) (hf : s.halt.state ≠ .running → ∀ f, (s.face f).commanded ≠ .proceed) :
    s.still := fun hn => ⟨(h hn).1, hf hn, (h hn).2⟩

theorem Edit.faces_not_proceed (he : Edit s t) (h : s.halt.state ≠ .running → ∀ f, (s.face f).commanded ≠ .proceed) :
    t.halt.state ≠ .running → ∀ f, (t.face f).commanded ≠ .proceed := by
  cases he with
  | face f r hr =>
    intro hn g
    rw [State.face_setFace]
    split
    · rw [hr]
      exact h hn f
    · exact h hn g
  | commanded f a ha =>
    intro hn g
    rw [State.face_setFace]
    split
    · exact fun hp => hn (ha hp).1
    · exact h hn g
  | admission ha => cases ha <;> exact h
  | _ => exact h

theorem Edit.still (he : Edit s t) (h : s.still) : t.still :=
  State.still_of_unmoved (he.unmoved h.unmoved) (he.faces_not_proceed fun hn => (h hn).2.1)

theorem OwnEdit.still (ho : OwnEdit s t) (h : s.still) : t.still := by
  cases ho with
  | face f =>
    refine State.still_of_unmoved (State.unmoved_setQueue h.unmoved _ fun hn e he => ?_) fun hn => (h hn).2.1
    rcases mem_placeEntry he with hc | he
    · rw [hc]
      have hnot := (h hn).2.1 f
      generalize (s.face f).commanded = a at hnot
      cases a with
      | proceed => exact absurd rfl hnot
      | _ => rfl
    · exact (h hn).2.2 _ e he
  | clearHalt hh => exact fun _ => h fun hr => nomatch hh.symm.trans hr
  | running hr => exact fun hn => absurd rfl hn
  | _ => exact h

theorem Deeds.still (hd : Deeds s t) (h : s.still) : t.still :=
  hd.keepDeeds (fun _ _ he hs => he.still hs) (fun _ _ ho hs => ho.still hs) (fun _ hs => State.finish_still hs.unmoved) h

theorem fresh_still (r : Retained) (clock now : Nat) (store : Store) (stretch : Option Bool) (start : StartRecord)
    (pending : List Instr) : (State.fresh r clock now store stretch start pending).still := by
  refine fun _ => ⟨fun i => congrArg ItemRec.movement (Ten.get_const i _), fun f => ?_, fun k e he => ?_⟩
  · have hface : (State.fresh r clock now store stretch start pending).face f = freshFaces.get f := rfl
    rw [hface, freshFaces_get]
    dsimp only
    split <;> decide
  · have hk : (State.fresh r clock now store stretch start pending).station k =
        { state := .unsynced, failed := 0, queue := [] } := by cases k <;> rfl
    rw [hk] at he
    exact absurd he List.not_mem_nil

theorem still_invariant : CommandInvariant State.still fun _ => True where
  acted c act s hc h := (eventAct_deeds hc s).still h
  granted c s t hg _ h := by
    obtain ⟨u, hu, hd⟩ := hg.deeds
    refine hd.still ?_
    cases hu <;> exact h
  ticked s h := h
  stretched s v h := h
  same s t hst h := by
    obtain ⟨c, st, pw, n, q, -, rfl⟩ := hst
    exact h
  retained _ _ := trivial
  defaults := trivial
  started r clock now store stretch start pending _ _ := by
    obtain ⟨u, hu, he⟩ := State.startUp_deeds r clock now store stretch start pending
    have hstill := hu.still (fresh_still r clock now store stretch start pending)
    rw [he, State.commit_eq]
    exact hstill

/-! ### The third law through a step (O4) -/

/-- Of the third law: never both faces of a gate. -/
def State.facesApart (s : State) : Prop :=
  ∀ f, (s.face f).commanded = .proceed → (s.face (farFace f)).commanded ≠ .proceed

theorem farFace_farFace (f : Face) : farFace (farFace f) = f := by
  obtain ⟨k, x⟩ := f
  cases x <;> rfl

theorem farFace_ne (f : Face) : farFace f ≠ f := by
  obtain ⟨k, x⟩ := f
  cases x <;> exact fun h => nomatch h

theorem State.facesApart_set (h : s.facesApart) (f : Face) {r : FaceRec}
    (hr : r.commanded = .proceed → (s.face (farFace f)).commanded ≠ .proceed) : (s.setFace f r).facesApart := by
  intro g hg
  rw [State.face_setFace] at hg ⊢
  split at hg
  · rename_i hgf
    rw [hgf, if_neg (farFace_ne f)]
    exact hr hg
  · split
    · rename_i hfar
      intro hp
      refine hr hp ?_
      rw [← hfar, farFace_farFace]
      exact hg
    · exact h g hg

theorem Turn.facesApart (ht : Turn s t) (h : s.facesApart) : t.facesApart := by
  cases ht with
  | edit he =>
    cases he with
    | face f r hr => exact State.facesApart_set h f fun hp => h f (hr ▸ hp)
    | commanded f a ha => exact State.facesApart_set h f fun hp => (ha hp).2
    | admission ha => cases ha <;> exact h
    | _ => exact h
  | halt c => exact h
  | cancel => exact h

theorem OwnEdit.facesApart (ho : OwnEdit s t) (h : s.facesApart) : t.facesApart := by
  cases ho <;> exact h

/-- The end of a step derives every face, so that the law holds at its end whatever its report has moved. -/
theorem Deeds.signalsFit_finish (hd : Deeds s t) (h : s.signalsFit) : t.finish.signalsFit := by
  have hapart : t.finish.facesApart := Deeds.keep (I := State.facesApart) (fun _ _ ht hs => ht.facesApart hs)
    (fun _ _ ho hs => ho.facesApart hs) hd.finish fun f hf => (h f hf).2
  exact fun f hf => ⟨(t.finish_faceFits f hf).2, hapart f hf⟩

/-- The items and the faces of two states agree. -/
def State.sameSignals (s t : State) : Prop := t.mach.items = s.mach.items ∧ t.signal.faces = s.signal.faces

theorem State.sameSignals.trans {u : State} (h : s.sameSignals t) (h' : t.sameSignals u) : s.sameSignals u :=
  ⟨h'.1.trans h.1, h'.2.trans h.2⟩

theorem State.signalsFit.of_same (h : s.signalsFit) (hst : s.sameSignals t) : t.signalsFit := by
  obtain ⟨hi, hf⟩ := hst
  intro f
  unfold State.face State.item
  rw [hi, hf]
  exact h f

theorem State.notify_sameSignals (s : State) (k : NoticeKind) (o : Nat) (p : List Field) :
    s.sameSignals (s.notify k o p) := by
  rw [State.notify_withNotices]
  exact ⟨rfl, rfl⟩

theorem State.evaluateReceipts_sameSignals (s : State) : s.sameSignals s.evaluateReceipts := by
  obtain ⟨ns, h⟩ := s.evaluateReceipts_spec
  rw [h]
  exact ⟨rfl, rfl⟩

theorem State.evaluateHold_sameSignals (s : State) : s.sameSignals s.evaluateHold := by
  obtain ⟨ns, h⟩ := s.evaluateHold_spec
  rw [h]
  exact ⟨rfl, rfl⟩

end

end Sys2Proof.Machine
end

section
/-! THE THIRD LAW THROUGH A COMMAND: a command derives every face at its end, or moves no item and no face (O4). -/

namespace Sys2Proof.Machine

/-- A command leaves every item and face as it is, or as the end of a step leaves them. -/
def State.endsTo (s t : State) : Prop := s.sameSignals t ∨ ∃ u : State, u.finish.sameSignals t

theorem State.sameSignals_refl (s : State) : s.sameSignals s := ⟨rfl, rfl⟩

theorem State.endsTo_refl (s : State) : s.endsTo s := .inl s.sameSignals_refl

theorem State.endsTo_finish (s u : State) : s.endsTo u.finish := .inr ⟨u, u.finish.sameSignals_refl⟩

theorem State.signalsFit.endsTo {s t : State} (h : s.signalsFit) (he : s.endsTo t) (ha : t.facesApart) :
    t.signalsFit := by
  rcases he with hs | ⟨u, hu⟩
  · exact h.of_same hs
  · intro f hf
    have hfits := u.finish_faceFits f
    obtain ⟨hi, hfc⟩ := hu
    unfold State.faceFits State.face State.item at hfits
    rw [← hi, ← hfc] at hfits
    exact ⟨(hfits hf).2, ha f hf⟩

section

variable (s : State)

theorem ite_endsTo {p : Prop} [Decidable p] {t : State} (h : s.endsTo t) : s.endsTo (if p then t else s) := by
  split
  · exact h
  · exact s.endsTo_refl

theorem State.hear_endsTo (k : Station) : s.endsTo (s.hear k) := by
  unfold State.hear
  split
  · dsimp only
    generalize (if (s.halt.awaited.get k).isSome = true then s.halt.awaited.set k (some true)
      else s.halt.awaited) = q
    split
    · exact s.endsTo_finish _
    · exact .inl ⟨rfl, rfl⟩
  · exact s.endsTo_refl

theorem State.endsTo.after_finish {s u t : State} (h : u.finish.endsTo t) : s.endsTo t :=
  .inr (h.elim (fun hs => ⟨u, hs⟩) fun hu => hu)

theorem State.answered_endsTo (k : Station) (a : Answer) : s.endsTo (s.answered k a) := by
  unfold State.answered
  split
  · exact s.endsTo_refl
  · split
    · exact (State.hear_endsTo _ k).after_finish
    · exact s.endsTo_finish _

theorem State.frameArrives_endsTo (os : List Octet) : s.endsTo (s.frameArrives os) := by
  unfold State.frameArrives
  split
  · exact s.endsTo_refl
  · split
    · exact s.endsTo_finish _
    · split
      · exact .inl ⟨rfl, rfl⟩
      · exact s.endsTo_refl

theorem State.alarmArrives_endsTo (k : Station) (r : StationReport) : s.endsTo (s.alarmArrives k r) := by
  unfold State.alarmArrives
  split
  · exact s.endsTo_finish _
  · split
    · exact .inl ⟨rfl, rfl⟩
    · exact s.endsTo_refl

theorem State.beginPoll_sameSignals (k : Station) : s.sameSignals (s.beginPoll k) := by
  unfold State.beginPoll
  dsimp only
  split <;> exact ⟨rfl, rfl⟩

theorem State.endSurge_sameSignals (c : Chamber) : s.sameSignals (s.endSurge c) := by
  unfold State.endSurge
  split <;> exact ⟨rfl, rfl⟩

theorem State.endChangeover_endsTo (c : Chamber) : s.endsTo (s.endChangeover c) := by
  unfold State.endChangeover
  split
  · split
    · exact s.endsTo_finish _
    · exact s.endsTo_refl
  · exact s.endsTo_refl

theorem State.endMoveWait_sameSignals (n : Nat) : s.sameSignals (s.endMoveWait n) := by
  unfold State.endMoveWait
  split
  · exact s.sameSignals_refl
  · split
    · exact s.sameSignals_refl
    · rename_i e _
      dsimp only
      split
      · exact ⟨rfl, rfl⟩
      · exact State.sameSignals.trans ⟨rfl, rfl⟩ (State.notify_sameSignals _ _ _ _)

theorem State.intervalElapsed_endsTo (f : Face) : s.endsTo (s.intervalElapsed f) := by
  unfold State.intervalElapsed
  split
  · split
    · exact s.endsTo_finish _
    · exact s.endsTo_refl
  · exact s.endsTo_refl

theorem State.endReceiptsRepeat_sameSignals : s.sameSignals s.endReceiptsRepeat := by
  unfold State.endReceiptsRepeat
  split
  · exact s.sameSignals_refl
  · exact State.sameSignals.trans ⟨rfl, rfl⟩ (State.notify_sameSignals _ _ _ _)

theorem State.changeTrust_sameSignals (c : Chamber) (v : Trust) : s.sameSignals (s.changeTrust c v) := by
  unfold State.changeTrust
  dsimp only
  have hset : ∀ l, s.sameSignals ((s.setChamber c
      { s.chamber c with trust := v, dispute := 0, targetCount := 0, condition := l }).clearEqual c) := fun l =>
    ⟨rfl, rfl⟩
  split
  · exact (hset _).trans (State.notify_sameSignals _ _ _ _)
  · exact hset _

theorem State.ceaseOff_sameSignals (k : Station) (m : InputModes) : s.sameSignals (s.ceaseOff k m) := by
  refine foldl_keeps (I := s.sameSignals) (fun u i hu => ?_) _ s s.sameSignals_refl
  split
  · exact hu.trans ⟨rfl, rfl⟩
  · exact hu

end

theorem eventAct_endsTo {c : Instr} {act : State → State} (h : eventAct c = some act) (s : State) :
    s.endsTo (act s) := by
  cases c <;> simp only [eventAct, reduceCtorEq, Option.some.injEq] at h <;> subst h
  case consoleFrameComplete os => exact .inl ⟨rfl, rfl⟩
  case consoleFrameGap os => exact .inl ⟨rfl, rfl⟩
  case frameLengthOutOfRange os => exact .inl ⟨rfl, rfl⟩
  case pollSlotStart k => exact ite_endsTo s (.inl (s.beginPoll_sameSignals k))
  case goodAnswer k a => exact s.answered_endsTo k a
  case pollFailed k => exact ite_endsTo s (s.endsTo_finish _)
  case alarmFrame k r => exact s.alarmArrives_endsTo k r
  case stationFrameDiscarded os => exact s.frameArrives_endsTo os
  case roundEnd => exact ite_endsTo s (s.endsTo_finish _)
  case haltPulseEnd => exact ite_endsTo s (.inl ⟨rfl, rfl⟩)
  case lineHalt => exact ite_endsTo s (s.endsTo_finish _)
  case surgeBlankExpiry c => exact .inl (s.endSurge_sameSignals c)
  case changeoverTimerExpiry c => exact s.endChangeover_endsTo c
  case startLimitExpiry i => exact ite_endsTo s (s.endsTo_finish _)
  case travelLimitExpiry i => exact ite_endsTo s (s.endsTo_finish _)
  case overloadBlankExpiry k => exact ite_endsTo s (s.endsTo_finish _)
  case resumeDelayExpiry n => exact ite_endsTo s (s.endsTo_finish _)
  case waterStepLimitExpiry n => exact ite_endsTo s (s.endsTo_finish _)
  case moveWaitExpiry n => exact .inl (s.endMoveWait_sameSignals n)
  case allStopIntervalElapsed f => exact s.intervalElapsed_endsTo f
  case receiptsRepeatExpiry => exact .inl s.endReceiptsRepeat_sameSignals

theorem Granted.endsTo {s t : State} (h : Granted s t) : s.endsTo t := by
  cases h with
  | levelSettings | limits | timing | resetStation | cancelOrder | runLimits | tariff | notices => exact .inl ⟨rfl, rfl⟩
  | trust c v => exact .inl (s.changeTrust_sameSignals c v)
  | inputModes k m => exact .inl (State.sameSignals.trans ⟨rfl, rfl⟩ (State.ceaseOff_sameSignals _ k m))
  | clearHalt =>
    unfold State.clearHalt
    split
    · exact .inl ⟨rfl, rfl⟩
    · exact s.endsTo_refl
  | vessel a d p hm hq =>
    unfold acceptVessel accept
    dsimp only
    exact s.endsTo_finish _
  | mode m hm =>
    unfold State.changeMode
    exact s.endsTo_finish _
  | switch hr =>
    unfold State.switchTariff
    dsimp only
    split
    · exact s.endsTo_finish _
    · exact .inl ⟨rfl, rfl⟩
  | receiptMargin n => exact .inl (State.sameSignals.trans ⟨rfl, rfl⟩ (State.evaluateReceipts_sameSignals _))
  | closeDay =>
    split
    · exact s.endsTo_finish _
    · exact .inl (State.sameSignals.trans ⟨rfl, rfl⟩ (State.evaluateHold_sameSignals _))
  | chamber | clearFault | interval | lineRate | allStop | withdraw | queueLimits | admissionSettings | order | abandon
  | confirm | suspend | resume => exact s.endsTo_finish _

theorem GrantedBy.endsTo {c : Instr} {s t : State} (h : GrantedBy s c t) : s.endsTo t := by
  cases h with
  | plain hg => exact hg.endsTo
  | release => exact s.endsTo_finish _
  | clock => exact .inl ⟨rfl, rfl⟩

theorem Deeds.facesApart {s t : State} (hd : Deeds s t) (h : s.facesApart) : t.facesApart :=
  Deeds.keep (I := State.facesApart) (fun _ _ ht hs => ht.facesApart hs) (fun _ _ ho hs => ho.facesApart hs) hd h

theorem State.signalsFit.apart {s : State} (h : s.signalsFit) : s.facesApart := fun f hf => (h f hf).2

theorem signalsFit_invariant : CommandInvariant State.signalsFit fun _ => True where
  acted c act s hc h := h.endsTo (eventAct_endsTo hc s) ((eventAct_deeds hc s).facesApart h.apart)
  granted c s t hg _ h := by
    obtain ⟨u, hu, hd⟩ := hg.deeds
    refine h.endsTo hg.endsTo (hd.facesApart ?_)
    cases hu <;> exact h.apart
  ticked s h := h
  stretched s v h := h
  same s t hst h := by
    obtain ⟨c, st, pw, n, q, -, rfl⟩ := hst
    exact h
  retained _ _ := trivial
  defaults := trivial
  started r clock now store stretch start pending _ _ := by
    intro f hf
    obtain ⟨-, -, -, -, -, -, -, -, -, -, -, -, -, -, hface, -⟩ :=
      State.startUp_startedAfresh (r := r) (clock := clock) (now := now) (store := store) (stretch := stretch)
        (start := start) (pending := pending) rfl
    rw [hface f] at hf
    dsimp only at hf
    split at hf <;> exact nomatch hf

/-- Settles O4: only RUNNING, or for a movement that stands, is a move placed, and an entry into HALTED drops them all;
a face is given PROCEED only beside a face that has none, and the end of the step derives it from its gate. -/
theorem nothingMovesUnlessRunning : Obligations.NothingMovesUnlessRunning :=
  ⟨fun _ _ h hst => (still_invariant.step trivial h ⟨fun _ _ => trivial, fun _ _ => trivial, fun _ _ => trivial⟩ hst).1,
    fun _ _ h hst =>
      (signalsFit_invariant.step trivial h ⟨fun _ _ => trivial, fun _ _ => trivial, fun _ _ => trivial⟩ hst).1⟩

end Sys2Proof.Machine
end

section
/-! TARIFFS AND THE DAY: SWITCH TARIFF and CLOSE DAY, by the state their owner leaves and what the end of the step
follows it with. -/

namespace Sys2Proof.Machine

/-! ### What an accepted request leaves -/

/-- An accepted request: the reply with its data, and the state its owner leaves but for what the answer writes. -/
theorem exec_request_accepted {c : Instr} {tag kind : Octet} (hc : requestHeader c = some (tag, kind)) {s : State}
    (ht : s.takesRequest c = true) (hr : asksRestart c = false) {u : State} {data : List Field}
    (hact : requestAct c s.popRequest = accept data u) :
    ∃ t, exec c s = .next t ∧ t.fixed = u.fixed ∧ t.replyIs tag (kind ||| 0x80#8) none data ∧ u.settlesTo t := by
  have hfixed := s.answerRequest_fixed tag kind false (requestAct c)
  have hreply := s.answerRequest_reply tag kind (requestAct c)
  have hsettles := s.settlesTo_answerRequest tag kind false (requestAct c)
  rw [hact] at hfixed hreply hsettles
  exact ⟨_, by rw [exec_request_taken hc ht, hr], hfixed, hreply, hsettles⟩

/-- An accepted request that ends the step: with nothing to hand over, the state it ends is followed by the faces and
the indications alone. -/
theorem exec_request_finished {c : Instr} {tag kind : Octet} (hc : requestHeader c = some (tag, kind)) {s : State}
    (ht : s.takesRequest c = true) (hr : asksRestart c = false) {u : State} {data : List Field}
    (hact : requestAct c s.popRequest = accept data u.finish) :
    ∃ t, exec c s = .next t ∧ t.fixed = u.fixed ∧ t.replyIs tag (kind ||| 0x80#8) none data ∧
      u.finish.settlesTo t ∧ (u.quiet → u.emptied.settlesTo t) := by
  obtain ⟨t, hexec, hfixed, hreply, hsettles⟩ := exec_request_accepted hc ht hr hact
  exact ⟨t, hexec, hfixed.trans u.finish_fixed, hreply, hsettles,
    fun hq => State.settlesTo_trans (u.settlesTo_finish hq) hsettles⟩

/-! ### Calm states -/

theorem State.admitsNothing_congr {s t : State} (hmode : t.traffic.mode = s.traffic.mode)
    (horder : t.traffic.order = s.traffic.order) (hopen : t.admissionOpen = s.admissionOpen)
    (h : s.admitsNothing) : t.admitsNothing := by
  unfold State.admitsNothing at h ⊢
  rwa [hmode, horder, hopen]

/-- A state that came from a calm one with nothing to hand over but a mark for an evaluation that admits nothing. -/
theorem State.quiet_of_calm {s t : State} (hcalm : s.calm) (hhand : t.hand = { s.hand with evaluate := t.hand.evaluate })
    (hbatches : ∀ b ∈ t.traffic.batches, b.suspended = true ∨ b.phase? ≠ some .claiming) (hadm : t.admitsNothing) :
    t.quiet := by
  obtain ⟨hs, -⟩ := hcalm
  rw [hs] at hhand
  refine ⟨by rw [hhand], by rw [hhand], by rw [hhand], fun _ => hadm, hbatches⟩

theorem State.emptied_of_calm {s t : State} (hcalm : s.calm) (hhand : t.hand = s.hand) : t.emptied = t := by
  obtain ⟨hs, -⟩ := hcalm
  rw [hs] at hhand
  unfold State.emptied
  rw [← hhand]

/-! ### SWITCH TARIFF (R154) -/

theorem slotIs_iff (slot : Option Edition) (n : Nat) : slotIs slot n = true ↔ ∃ e, slot = some e ∧ e.number = n := by
  cases slot <;> simp [slotIs]

theorem slotIs_eq_false {slot : Option Edition} {n : Nat} (h : ∀ e, slot = some e → e.number ≠ n) :
    slotIs slot n = false := by
  rw [Bool.eq_false_iff, ne_eq, slotIs_iff]
  rintro ⟨e, he, hn⟩
  exact h e he hn

theorem State.batchesUnder_eq_zero {s : State} {n : Nat} :
    s.batchesUnder n = 0 ↔ ∀ b ∈ s.traffic.batches, b.edition ≠ n := by
  simp [State.batchesUnder]

theorem State.switchRefusal_popRequest (s : State) : s.popRequest.switchRefusal = s.switchRefusal := rfl

theorem switchRequest_refused {s : State} {c : RefuseCode} (h : s.switchRefusal = some c) :
    switchRequest s.popRequest = refuse c s.popRequest := by
  simp only [switchRequest, s.switchRefusal_popRequest, h]

theorem switchRequest_taken {s : State} {p : Edition} (hp : s.toll.pending = some p) (h : s.switchRefusal = none) :
    switchRequest s.popRequest =
      accept [num 2 p.number, opt 3 (s.toll.current.map (·.number))] s.popRequest.switchTariff := by
  have hpop : s.popRequest.toll = s.toll := rfl
  simp only [switchRequest, s.switchRefusal_popRequest, h, hpop, hp]
  rfl

/-- Settles O52: the rows of the refusal in their order, and the slots after the switch. -/
theorem switchMovesTheEditions : Obligations.SwitchMovesTheEditions := by
  intro tag s ht
  have hrefused : ∀ c, s.switchRefusal = some c →
      exec (.switchTariff tag) s = .next (s.replied tag 0xB9#8 (some c) []) := fun c h =>
    exec_request_replied rfl ht (some c) [] rfl (switchRequest_refused h)
  refine ⟨fun hp => hrefused _ ?_, fun p e hp he hn => hrefused _ ?_, fun p q hp he hq hb => hrefused _ ?_,
    fun p hp he hq => ?_⟩
  · simp [State.switchRefusal, hp]
  · have hsame : slotIs s.toll.current p.number = true := (slotIs_iff _ _).2 ⟨e, he, hn⟩
    simp [State.switchRefusal, hp, hsame]
  · have huse : s.batchesUnder q.number ≠ 0 := fun h0 => by
      obtain ⟨b, hb, hn⟩ := hb
      exact State.batchesUnder_eq_zero.1 h0 b hb hn
    simp [State.switchRefusal, hp, slotIs_eq_false he, hq, huse]
  · have hnone : s.switchRefusal = none := by
      simp only [State.switchRefusal, hp, slotIs_eq_false he, Bool.false_eq_true, if_false]
      cases hprev : s.toll.previous with
      | none => rfl
      | some q => exact if_pos (State.batchesUnder_eq_zero.2 (hq q hprev))
    have hact := switchRequest_taken hp hnone
    obtain ⟨t, hexec, hfixed, hreply, -⟩ := exec_request_accepted rfl ht rfl hact
    have hslots : (s.popRequest.switchTariff).fixed = { s.fixed with
        order := s.console.order.drop 1, current := some p, previous := s.toll.current, loaded := none } := by
      simp only [State.switchTariff, ← hp]
      split
      · exact State.finish_fixed _
      · rfl
    refine ⟨t, hexec, hfixed.trans hslots, hreply, fun hcur => ?_⟩
    have hwhole : s.popRequest.switchTariff = State.popRequest { s with toll := { s.toll with
        current := some p, previous := s.toll.current, pending := none } } := by
      have hsome : s.popRequest.toll.current.isNone = false := by
        rw [← Option.not_isSome, Bool.not_eq_false']
        exact hcur
      simp only [State.switchTariff, hsome, Bool.false_eq_true, if_false, ← hp]
      rfl
    rw [hwhole] at hact
    exact Host.Outcome.next.inj (hexec.symm.trans (exec_request_answering rfl ht _ none _ rfl hact rfl rfl))

/-! ### CLOSE DAY (R172) -/

theorem any_day_iff (rs : List Receipt) (n : Nat) : (rs.any fun r => r.day == n) = true ↔ ∃ r ∈ rs, r.day = n := by
  simp

/-- The day the account opens next, as the statement writes it. -/
theorem nextNumber_day (n : Nat) : nextNumber 9999 n = if 9999 ≤ n then 1 else n + 1 := rfl

/-- The account of the new day replaces the old one, before the indications follow it. -/
def State.dayOpened (s : State) : State := s.setAccount (openDay s.toll.account s.toll.clock)

theorem closeDayRequest_refused {s : State} (h : ∃ r ∈ s.receipts.queue, r.day = nextNumber 9999 s.toll.account.day) :
    closeDayRequest s = refuse .inUse s := by
  simp only [closeDayRequest, (any_day_iff _ _).2 h, if_true]

theorem closeDayRequest_taken {s : State} (h : ∀ r ∈ s.receipts.queue, r.day ≠ nextNumber 9999 s.toll.account.day) :
    closeDayRequest s = accept (accountFields s.toll.account ++ [num 3 s.toll.clock])
      (if s.freeSlots < s.dayOpened.evaluateHold.freeSlots then s.dayOpened.evaluateHold.markAdmit.finish
        else s.dayOpened.evaluateHold) := by
  have hno : (s.receipts.queue.any fun r => r.day == nextNumber 9999 s.toll.account.day) = false := by
    rw [Bool.eq_false_iff, ne_eq, any_day_iff]
    rintro ⟨r, hr, hd⟩
    exact h r hr hd
  simp only [closeDayRequest, hno, Bool.false_eq_true, if_false]
  rfl

theorem State.evaluateHold_eq (s : State) : ∃ h n, s.evaluateHold =
    { s with receipts := { s.receipts with hold := h }, console := { s.console with notices := n } } := by
  unfold State.evaluateHold
  dsimp only
  split
  · exact ⟨_, _, rfl⟩
  · rw [State.notify_eq]
    exact ⟨_, _, rfl⟩

/-- Settles O54: refused while a receipt carries the next day's number; otherwise the account of the new day, with the
hold following it. -/
theorem closeDayOpensTheNext : Obligations.CloseDayOpensTheNext := by
  intro tag next s ht hnext
  rw [← nextNumber_day] at hnext
  subst hnext
  refine ⟨fun hr => exec_request_replied rfl ht (some .inUse) [] rfl (closeDayRequest_refused hr), fun hr => ?_⟩
  obtain ⟨t, hexec, hfixed, hreply, hsettles⟩ :=
    exec_request_accepted (c := .closeDay tag) rfl ht rfl (closeDayRequest_taken (s := s.popRequest) hr)
  have hkept : s.popRequest.dayOpened.evaluateHold.fixed = { s.fixed with
      order := s.console.order.drop 1, day := nextNumber 9999 s.toll.account.day, opened := s.toll.clock } :=
    State.evaluateHold_fixed _
  refine ⟨t, hexec, hfixed.trans ?_, hreply, fun hcalm hadm => ⟨s.popRequest.dayOpened, rfl, ?_⟩⟩
  · split
    · exact (State.finish_fixed _).trans hkept
    · exact hkept
  · refine State.settlesTo_trans ?_ hsettles
    split
    · refine State.settlesTo_trans (State.settlesTo_evaluateHold _) ?_
      obtain ⟨h, n, heq⟩ := s.popRequest.dayOpened.evaluateHold_eq
      have hempty := State.emptied_of_calm (t := s.popRequest.dayOpened.evaluateHold) hcalm (by rw [heq]; rfl)
      have hquiet : s.popRequest.dayOpened.evaluateHold.markAdmit.quiet := by
        rw [heq]
        exact State.quiet_of_calm hcalm rfl hcalm.2 (State.admitsNothing_congr rfl rfl rfl hadm)
      have hfinish := State.settlesTo_finish _ hquiet
      rwa [show s.popRequest.dayOpened.evaluateHold.markAdmit.emptied =
        s.popRequest.dayOpened.evaluateHold from hempty] at hfinish
    · exact State.settlesTo_evaluateHold _

end Sys2Proof.Machine
end

section
/-! LEVELS: the arithmetic of predictions, the derivation of a chamber, and the requests on trust and geometry. -/

namespace Sys2Proof.Machine

/-! ### Predictions and room (R18, R20) -/

/-- The predicted level is the quotient of the volumes rounded half up. -/
theorem predictedLevel_bounds (au hu al hl : Nat) (h : 0 < al) :
    2 * (au * hu + al * hl) < (2 * predictedLevel au hu al hl + 1) * (au + al) ∧
      2 * predictedLevel au hu al hl * (au + al) ≤ 2 * (au * hu + al * hl) + (au + al) := by
  have hpos : 0 < 2 * (au + al) := by omega
  have hlow := Nat.div_mul_le_self (2 * (au * hu + al * hl) + (au + al)) (2 * (au + al))
  have hhigh := Nat.lt_div_mul_add (a := 2 * (au * hu + al * hl) + (au + al)) hpos
  unfold predictedLevel
  constructor <;> nlinarith

/-- A level whose doubled volume stays within the limit's is at most the limit. -/
theorem predictedLevel_le {limit au hu al hl : Nat} (h : 0 < al)
    (hroom : au * hu + al * hl ≤ limit * (au + al)) : predictedLevel au hu al hl ≤ limit := by
  have hpos : 0 < 2 * (au + al) := by omega
  refine Nat.lt_succ_iff.1 ((Nat.div_lt_iff_lt_mul hpos).2 ?_)
  nlinarith

/-- Settles O56: the bounds of a rounded quotient, and of the truncated one the room target is. -/
theorem roomTargetGivesRoom : Obligations.RoomTargetGivesRoom := by
  intro au hu al hl limit h
  refine ⟨predictedLevel_bounds au hu al hl h, fun hlimit hhl => predictedLevel_le h ?_⟩
  have hmul : hl * al ≤ limit * (au + al) - au * hu := (Nat.le_div_iff_mul_le h).1 hhl
  have hcomm := Nat.mul_comm al hl
  omega

/-! ### The derivation of a chamber (R7 to R11) -/

theorem apart_eq (u l : Nat) : apart u l = max u l - min u l := rfl

theorem deriveChamber_disputed {set : LevelSettings} {r : ChamberRec} (h : r.condition = .disputed)
    (u l : Option Nat) : deriveChamber set r u l = deriveDisputed set r u l := if_pos h

theorem deriveChamber_both {set : LevelSettings} {r : ChamberRec} (h : r.condition ≠ .disputed) (ht : r.trust = .both)
    (u l : Nat) : deriveChamber set r (some u) (some l) = deriveTwo set r u l := by
  simp only [deriveChamber, h, if_false, ht]

theorem deriveChamber_one {set : LevelSettings} {r : ChamberRec} (h : r.condition ≠ .disputed) {u l v : Option Nat}
    (hv : (r.trust = .both ∧ ((l = none ∧ v = u) ∨ (u = none ∧ v = l))) ∨ (r.trust = .upperOnly ∧ v = u) ∨
      (r.trust = .lowerOnly ∧ v = l)) : deriveChamber set r u l = deriveOne r v := by
  simp only [deriveChamber, h, if_false]
  rcases hv with ⟨ht, ⟨rfl, rfl⟩ | ⟨rfl, rfl⟩⟩ | ⟨ht, rfl⟩ | ⟨ht, rfl⟩ <;> rw [ht] <;>
    cases v <;> rfl

theorem near_of_le {set : LevelSettings} {u l : Nat} (h : max u l - min u l ≤ set.agreementTolerance) :
    decide (apart u l ≤ set.agreementTolerance) = true := decide_eq_true h

theorem near_of_lt {set : LevelSettings} {u l : Nat} (h : set.agreementTolerance < max u l - min u l) :
    decide (apart u l ≤ set.agreementTolerance) = false := decide_eq_false (Nat.not_le.2 h)

theorem deriveTwo_blanked {set : LevelSettings} {r : ChamberRec} {u l e : Nat} (h : r.surge = some e) :
    deriveTwo set r u l = ⟨{ r.agree (meanHalfUp u l) with condition := .normal }, false, false⟩ := by
  unfold deriveTwo
  cases decide (apart u l ≤ set.agreementTolerance) <;> simp only [h]

theorem deriveDisputed_blanked {set : LevelSettings} {r : ChamberRec} {u l e : Nat} (h : r.surge = some e) :
    deriveDisputed set r (some u) (some l) = ⟨r.agree (max u l), false, false⟩ := by
  unfold deriveDisputed
  cases decide (apart u l ≤ set.agreementTolerance) <;> simp only [h]

/-- Settles O58: the branches of the derivation, each under the conditions of its rule. -/
theorem disputesAreCounted : Obligations.DisputesAreCounted := by
  refine ⟨fun set r u l ht => ⟨?_, ?_, ?_, ?_, ?_, ?_, ?_, ?_, ?_⟩, fun set r u l trusted hc ht => ?_⟩
  · intro hc hd hs
    simp [deriveChamber_both hc ht, deriveTwo, near_of_le hd, hs, ChamberRec.agree, meanHalfUp]
  · intro hc hd hs hn
    simp [deriveChamber_both hc ht, deriveTwo, near_of_lt hd, hs, Nat.not_le.2 hn, ChamberRec.agree, meanHalfUp]
  · intro hc hd hs hn
    simp [deriveChamber_both hc ht, deriveTwo, near_of_lt hd, hs, hn, ChamberRec.agree, meanHalfUp]
  · intro hc hd hs hn
    simp [deriveChamber_disputed hc, deriveDisputed, near_of_le hd, hs, hn, ChamberRec.agree, meanHalfUp]
  · intro hc hd hs hn
    simp [deriveChamber_disputed hc, deriveDisputed, near_of_le hd, hs, Nat.not_le.2 hn, ChamberRec.agree, meanHalfUp]
  · intro hc hd hs
    simp [deriveChamber_disputed hc, deriveDisputed, near_of_lt hd, hs, ChamberRec.agree, meanHalfUp]
  · intro hs
    obtain ⟨e, he⟩ := Option.isSome_iff_exists.1 hs
    split
    · rename_i hc
      rw [deriveChamber_disputed hc, deriveDisputed_blanked he]
      rfl
    · rename_i hc
      rw [deriveChamber_both hc ht, deriveTwo_blanked he]
      rfl
  · intro hc
    exact ⟨congrArg Derived.record (deriveChamber_one (v := some u) hc (.inl ⟨ht, .inl ⟨rfl, rfl⟩⟩)),
      congrArg Derived.record (deriveChamber_one (v := some l) hc (.inl ⟨ht, .inr ⟨rfl, rfl⟩⟩)),
      congrArg Derived.record (deriveChamber_one (v := none) hc (.inl ⟨ht, .inl ⟨rfl, rfl⟩⟩))⟩
  · intro hc
    exact ⟨deriveChamber_disputed hc _ _, deriveChamber_disputed hc _ _, deriveChamber_disputed hc _ _⟩
  · rw [deriveChamber_one hc (.inr ht)]
    cases trusted <;> rfl

/-! ### SET TRUST and SET CHAMBER (R2, R6) -/

theorem noticeEnabled_dispute (m : NoticeMask) : noticeEnabled m .dispute = m.level := rfl

/-- The chambers and counters a changed trust leaves. -/
def State.trustTaken (s : State) (c : Chamber) (v : Trust) (notices : List Notice) : State :=
  { s with
    level := { s.level with
      chambers := s.level.chambers.set c
        { s.chamber c with
          trust := v, dispute := 0, targetCount := 0
          condition := if (s.chamber c).condition = .disputed then .degraded else (s.chamber c).condition }
      equal := (s.level.equal.set (upperGate c) 0).set (lowerGate c) 0 }
    console := { s.console with notices := notices } }

/-- The notices after a dispute ends, or of no dispute. -/
def State.disputeEndedNotices (s : State) (c : Chamber) : List Notice :=
  if (s.chamber c).condition = .disputed ∧ s.console.mask.level = true then
    placeNotice ⟨.dispute, chamberCode c, [num 1 (chamberCode c), flag false]⟩ s.console.notices
  else s.console.notices

theorem State.changeTrust_eq (s : State) (c : Chamber) (v : Trust) :
    s.changeTrust c v = s.trustTaken c v (s.disputeEndedNotices c) := by
  unfold State.changeTrust State.trustTaken State.disputeEndedNotices
  dsimp only
  by_cases hc : (s.chamber c).condition = .disputed
  · simp only [hc, decide_true, if_true, true_and, State.noticeDispute, State.notify]
    have hmask : noticeEnabled (State.clearEqual (s.setChamber c { s.chamber c with
        trust := v, dispute := 0, targetCount := 0, condition := .degraded }) c).console.mask .dispute =
          s.console.mask.level := rfl
    rw [hmask]
    split <;> rfl
  · simp only [hc, decide_false, if_false, Bool.false_eq_true, false_and]
    rfl

theorem trustRequest_of {n x : Nat} {c : Chamber} {v : Trust} (hc : chamberOf n = some c) (hv : trustOf x = some v)
    (s : State) : trustRequest n x s = accept [] (if (s.chamber c).trust = v then s else s.changeTrust c v) := by
  simp only [trustRequest, hc, hv]

theorem chamberRequest_of {a : ChamberArgs} {c : Chamber} (hc : chamberOf a.chamber = some c)
    (hv : chamberValid a = true) (s : State) :
    chamberRequest a s =
      if s.traffic.batches = [] then
        accept (configFields (chamberConfigOf a))
          ((s.setChamber c ((s.chamber c).configure (chamberConfigOf a))).markAdmit.finish)
      else refuse .inUse s := by
  simp only [chamberRequest, hc, hv, Bool.not_true, Bool.false_eq_true, if_false, Bool.not_eq_true',
    List.isEmpty_eq_false_iff]
  by_cases h : s.traffic.batches = [] <;> simp [h]

theorem State.setChamber_chambers_fixed (s : State) (c : Chamber) (r : ChamberRec) :
    (s.setChamber c r).fixed = { s.fixed with chambers := s.fixed.chambers.set c r.fixed } := by
  cases c <;> rfl

/-- The target counter is none of the conditions of an admission. -/
theorem State.admissionOpen_configure (s : State) (c : Chamber) (g : ChamberConfig) :
    (s.setChamber c ((s.chamber c).configure g)).admissionOpen =
      (s.setChamber c { s.chamber c with config := some g }).admissionOpen := by
  cases c <;> rfl

/-- Settles O28: the whole state after a changed trust, and the end of the step after a new geometry. -/
theorem trustAndGeometryAreSet : Obligations.TrustAndGeometryAreSet := by
  refine ⟨fun tag n x c v s hc hv hsame ht => ?_, fun tag n x c v s hc hv hnew ht => ?_,
    fun tag a c s hc hv hbatches ht => ?_, fun tag a c s hc hv hbatches ht => ?_⟩
  · refine exec_request_replied rfl ht none [] rfl ((trustRequest_of hc hv _).trans ?_)
    rw [if_pos]
    · rfl
    · exact hsame
  · have hact : trustRequest n x s.popRequest =
        accept [] (s.trustTaken c v (s.disputeEndedNotices c)).popRequest := by
      rw [trustRequest_of hc hv, if_neg (c := (s.popRequest.chamber c).trust = v) hnew, State.changeTrust_eq]
      rfl
    refine ⟨s.disputeEndedNotices c,
      exec_request_answering (c := .setTrust tag n x) rfl ht _ none [] rfl hact rfl rfl, fun hno => ?_,
      fun hdisputed hmask => if_pos ⟨hdisputed, hmask⟩⟩
    refine if_neg fun h => ?_
    rcases hno with hno | hno
    · exact hno h.1
    · exact Bool.false_ne_true (hno.symm.trans h.2)
  · have hact := (chamberRequest_of hc hv s.popRequest).trans (if_pos hbatches)
    obtain ⟨t, hexec, hfixed, hreply, -, hsettles⟩ := exec_request_finished (c := .setChamber tag a) rfl ht rfl hact
    refine ⟨t, hexec, ?_, hreply, fun hcalm hadm => ?_⟩
    · exact hfixed.trans (State.setChamber_chambers_fixed s.popRequest c _)
    have hquiet : (s.popRequest.setChamber c ((s.popRequest.chamber c).configure
        (chamberConfigOf a))).markAdmit.quiet :=
      State.quiet_of_calm hcalm rfl hcalm.2
        (State.admitsNothing_congr
          (s := s.setChamber c { s.chamber c with config := some (chamberConfigOf a) }) rfl rfl
          (s.admissionOpen_configure c _) hadm)
    have hempty := State.emptied_of_calm (t := s.popRequest.setChamber c
      { s.chamber c with config := some (chamberConfigOf a), targetCount := 0 }) hcalm rfl
    rw [← hempty]
    exact hsettles hquiet
  · refine exec_request_replied rfl ht (some .inUse) [] rfl ((chamberRequest_of hc hv _).trans (if_neg hbatches))

end Sys2Proof.Machine
end

section
/-! THE QUEUES' OWN REQUESTS: SET QUEUE LIMITS, SET MODE, SET ADMISSION SETTINGS, REGISTER VESSEL and WITHDRAW VESSEL,
where no evaluation they hand over admits a batch. -/

namespace Sys2Proof.Machine

/-! ### The state that is answered -/

/-- What an answer leaves of the state its owner leaves: all but the reply and the retained store. -/
theorem exec_request_frame {c : Instr} {tag kind : Octet} (hc : requestHeader c = some (tag, kind)) {s : State}
    (ht : s.takesRequest c = true) {u t : State} {data : List Field}
    (hact : requestAct c s.popRequest = accept data u) (hexec : exec c s = .next t) :
    t.traffic = u.traffic ∧ t.receipts = u.receipts ∧ t.toll = u.toll ∧ t.halt = u.halt ∧ t.mach = u.mach ∧
      t.level = u.level ∧ t.line = u.line ∧ t.signal = u.signal := by
  rw [exec_request_taken hc ht, State.answerRequest, hact, State.commit_eq] at hexec
  rw [← Host.Outcome.next.inj hexec]
  exact ⟨rfl, rfl, rfl, rfl, rfl, rfl, rfl, rfl⟩

/-! ### The indications that end a step -/

theorem State.indications_eq (s : State) : ∃ ns, s.indications = State.withNotices { s with
    traffic := { s.traffic with
      nearUp := decide (s.nearFullThreshold ≤ s.charge .up), nearDown := decide (s.nearFullThreshold ≤ s.charge .down) }
    receipts := { s.receipts with hold := decide (s.freeSlots = 0) } } ns := by
  unfold State.indications
  obtain ⟨n1, h1⟩ := s.evaluateQueue_spec .up
  obtain ⟨n2, h2⟩ := (s.evaluateQueue .up).evaluateQueue_spec .down
  obtain ⟨n3, h3⟩ := ((s.evaluateQueue .up).evaluateQueue .down).evaluateHold_spec
  rw [h3, h2, h1]
  exact ⟨_, rfl⟩

theorem State.finish_indications (s : State) : ∃ v : State, s.finish = v.indications := ⟨_, rfl⟩

theorem State.finish_nearFullOf (s : State) (d : Direction) :
    s.finish.nearFullOf d = decide (s.finish.nearFullThreshold ≤ s.finish.charge d) := by
  obtain ⟨v, hv⟩ := s.finish_indications
  obtain ⟨ns, hi⟩ := v.indications_eq
  rw [hv, hi]
  cases d <;> rfl

theorem State.finish_hold (s : State) : s.finish.receipts.hold = decide (s.finish.freeSlots = 0) := by
  obtain ⟨v, hv⟩ := s.finish_indications
  obtain ⟨ns, hi⟩ := v.indications_eq
  rw [hv, hi]
  rfl

/-- The charge and the indication of a queue are read off the traffic. -/
theorem State.queue_of_traffic {s t : State} (h : t.traffic = s.traffic) (d : Direction) :
    t.charge d = s.charge d ∧ t.nearFullOf d = s.nearFullOf d ∧ t.queueOf d = s.queueOf d := by
  cases d <;> simp [State.charge, State.nearFullOf, State.queueOf, h]

/-! ### An order once discarded -/

theorem Turn.order_none {s t : State} (ht : Turn s t) (h : s.traffic.order = none) : t.traffic.order = none := by
  cases ht with
  | edit he =>
    cases he with
    | admission ha =>
      cases ha with
      | automatic => exact h
      | order => rfl
    | discardOrder => rfl
    | _ => exact h
  | _ => exact h

theorem State.finish_order_none {s : State} (h : s.traffic.order = none) : s.finish.traffic.order = none := by
  have hturns := s.finish_turns
  generalize s.finish = t at hturns ⊢
  induction hturns with
  | refl => exact h
  | tail _ hab ih => exact hab.order_none ih

/-! ### Marked for an evaluation that admits nothing -/

theorem State.admissionOpen_evaluateQueue (s : State) (d : Direction) :
    (s.evaluateQueue d).admissionOpen = s.admissionOpen := by
  obtain ⟨ns, h⟩ := s.evaluateQueue_spec d
  rw [h]
  cases d <;> rfl

/-- What evaluating a queue leaves of what the end of a step looks at. -/
theorem State.evaluateQueue_frame (s : State) (d : Direction) :
    (s.evaluateQueue d).hand = s.hand ∧ (s.evaluateQueue d).traffic.batches = s.traffic.batches ∧
      (s.admitsNothing → (s.evaluateQueue d).admitsNothing) := by
  obtain ⟨ns, h⟩ := s.evaluateQueue_spec d
  refine ⟨?_, ?_, ?_⟩
  · rw [h]
    cases d <;> rfl
  · rw [h]
    cases d <;> rfl
  · refine State.admitsNothing_congr ?_ ?_ (s.admissionOpen_evaluateQueue d)
    · rw [h]
      cases d <;> rfl
    · rw [h]
      cases d <;> rfl

/-- A state marked for an evaluation, that came from a calm one with nothing else to hand over: where the evaluation
admits nothing, what ends the step ends with the state itself. -/
theorem State.settlesTo_marked {s u t : State} (hcalm : s.calm) (hhand : u.hand = s.hand)
    (hbatches : ∀ b ∈ u.traffic.batches, b.suspended = true ∨ b.phase? ≠ some .claiming) (hadm : u.admitsNothing)
    (h : u.markAdmit.quiet → u.markAdmit.emptied.settlesTo t) : u.settlesTo t := by
  have hempty : u.markAdmit.emptied = u := State.emptied_of_calm hcalm hhand
  rw [← hempty]
  exact h (State.quiet_of_calm hcalm (by rw [← hhand]; rfl) hbatches hadm)

/-! ### SET QUEUE LIMITS (R105, R109) -/

/-- The limits taken, and every skip count lowered to the new limit. -/
def State.limitsTaken (s : State) (m l : Nat) : State :=
  (s.setTraffic { s.traffic with margin := m, skipLimit := l }).lowerAllSkips l

theorem clampQueueMargin_eq (m : Nat) : clampQueueMargin m = min 23 m :=
  (clampTo_eq_max_min (by decide) m).trans (Nat.zero_max _)

theorem clampSkipLimit_eq (l : Nat) : clampSkipLimit l = max 1 (min 10 l) := clampTo_eq_max_min (by decide) l

theorem queueLimitsRequest_eq (m l : Nat) (s : State) :
    queueLimitsRequest m l s = accept [num 1 (min 23 m), num 1 (max 1 (min 10 l))]
      ((((s.limitsTaken (min 23 m) (max 1 (min 10 l))).evaluateQueue .up).evaluateQueue .down).markAdmit.finish) := by
  rw [← clampQueueMargin_eq, ← clampSkipLimit_eq]
  rfl

theorem lowerSkips_claims (l : Nat) (bs : List Batch)
    (h : ∀ b ∈ bs, b.suspended = true ∨ b.phase? ≠ some .claiming) :
    ∀ b ∈ bs.map (fun b => { b with members := b.members.map (lowerSkips l) }),
      b.suspended = true ∨ b.phase? ≠ some .claiming := by
  intro b hb
  obtain ⟨x, hx, rfl⟩ := List.mem_map.1 hb
  exact h x hx

theorem setQueueLimits_taken {tag : Octet} {m l : Nat} {s : State} (ht : s.takesRequest (.setQueueLimits tag m l) = true) :
    ∃ t, exec (.setQueueLimits tag m l) s = .next t ∧
      t.fixed = { s.fixed with
        order := s.console.order.drop 1, margin := min 23 m, skipLimit := max 1 (min 10 l) } ∧
      t.replyIs tag 0xA2#8 none [num 1 (min 23 m), num 1 (max 1 (min 10 l))] ∧
      (∀ d, t.nearFullOf d = decide (24 - min 23 m ≤ t.charge d)) ∧
      (s.calm → s.admitsNothing →
        (s.popRequest.limitsTaken (min 23 m) (max 1 (min 10 l))).settlesTo t) := by
  have hact := queueLimitsRequest_eq m l s.popRequest
  obtain ⟨t, hexec, hfixed, hreply, -, hsettles⟩ :=
    exec_request_finished (c := .setQueueLimits tag m l) rfl ht rfl hact
  obtain ⟨htraffic, -⟩ := exec_request_frame rfl ht hact hexec
  have htaken : ((((s.popRequest.limitsTaken (min 23 m) (max 1 (min 10 l))).evaluateQueue .up).evaluateQueue
      .down).markAdmit).fixed = { s.fixed with
        order := s.console.order.drop 1, margin := min 23 m, skipLimit := max 1 (min 10 l) } := by
    rw [State.markAdmit_fixed, State.evaluateQueue_fixed, State.evaluateQueue_fixed]
    rfl
  refine ⟨t, hexec, hfixed.trans htaken, hreply, fun d => ?_, fun hcalm hadm => ?_⟩
  · have hmargin : t.traffic.margin = min 23 m := congrArg Fixed.margin (hfixed.trans htaken)
    obtain ⟨hcharge, hnear, -⟩ := State.queue_of_traffic htraffic d
    have hthreshold : t.nearFullThreshold = 24 - min 23 m := congrArg (24 - ·) hmargin
    have hfinish := State.finish_nearFullOf (((s.popRequest.limitsTaken (min 23 m) (max 1 (min 10 l))).evaluateQueue
      .up).evaluateQueue .down).markAdmit d
    rw [hnear, hcharge, hfinish, ← hthreshold, State.nearFullThreshold, State.nearFullThreshold, htraffic]
  · generalize hbase : s.popRequest.limitsTaken (min 23 m) (max 1 (min 10 l)) = base at hsettles ⊢
    obtain ⟨hhand1, hb1, hadm1⟩ := base.evaluateQueue_frame .up
    obtain ⟨hhand2, hb2, hadm2⟩ := (base.evaluateQueue .up).evaluateQueue_frame .down
    have hhand : base.hand = s.hand := by
      rw [← hbase]
      rfl
    have hbatches : ∀ b ∈ base.traffic.batches, b.suspended = true ∨ b.phase? ≠ some .claiming := by
      rw [← hbase]
      exact lowerSkips_claims _ _ hcalm.2
    have hnone : base.admitsNothing := by
      rw [← hbase]
      exact State.admitsNothing_congr rfl rfl rfl hadm
    refine State.settlesTo_trans (base.settlesTo_evaluateQueue .up)
      (State.settlesTo_trans ((base.evaluateQueue .up).settlesTo_evaluateQueue .down) ?_)
    exact State.settlesTo_marked hcalm (hhand2.trans (hhand1.trans hhand)) (by rwa [hb2, hb1])
      (hadm2 (hadm1 hnone)) hsettles

/-! ### SET MODE (R110) and SET ADMISSION SETTINGS (R121) -/

/-- The mode taken, with the pending order discarded on leaving KEEPER. -/
def State.modeTaken (s : State) (m : FlightMode) : State :=
  s.setTraffic { s.traffic with mode := m, order := if s.traffic.mode = .keeper then none else s.traffic.order }

theorem State.changeMode_eq (s : State) (m : FlightMode) : s.changeMode m = (s.modeTaken m).markAdmit.finish := by
  unfold State.changeMode State.modeTaken
  by_cases h : s.traffic.mode = .keeper
  · simp only [h, if_true]
    rfl
  · simp only [h, if_false]

theorem flightModeCode_of {x : Nat} {m : FlightMode} (h : flightModeOf x = some m) : flightModeCode m = x := by
  match x, h with
  | 0, h | 1, h | 2, h =>
    obtain rfl := Option.some.inj h
    rfl
  | _ + 3, h => exact nomatch h

theorem modeRequest_eq {x : Nat} {m : FlightMode} (h : flightModeOf x = some m) (s : State) :
    modeRequest x s = if s.traffic.mode = m then accept [flag false, num 1 x] s
      else accept [flag (s.traffic.mode == .keeper && s.traffic.order.isSome), num 1 x]
        (s.modeTaken m).markAdmit.finish := by
  simp only [modeRequest, h, flightModeCode_of h, State.changeMode_eq]

theorem followOnCode_of {x : Nat} {f : Bool} (h : followOnOf x = some f) : followOnCode f = x := by
  match x, h with
  | 0, h | 1, h =>
    obtain rfl := Option.some.inj h
    rfl
  | _ + 2, h => exact nomatch h

theorem setMode_taken {tag : Octet} {x : Nat} {m : FlightMode} {s : State} (hm : flightModeOf x = some m)
    (ht : s.takesRequest (.setMode tag x) = true) (hnew : s.traffic.mode ≠ m) :
    ∃ t, exec (.setMode tag x) s = .next t ∧
        t.fixed = { s.fixed with order := s.console.order.drop 1, mode := m } ∧
        t.replyIs tag 0xA3#8 none
          [flag (s.traffic.mode == .keeper && s.traffic.order.isSome), num 1 x] ∧
        (s.traffic.mode = .keeper → t.traffic.order = none) ∧
        (s.calm → (s.modeTaken m).admitsNothing → (s.popRequest.modeTaken m).settlesTo t) := by
  have hact := (modeRequest_eq hm s.popRequest).trans (if_neg hnew)
  obtain ⟨t, hexec, hfixed, hreply, -, hsettles⟩ := exec_request_finished (c := .setMode tag x) rfl ht rfl hact
  refine ⟨t, hexec, hfixed, hreply, fun hk => ?_, fun hcalm hadm => ?_⟩
  · have hnone : (s.popRequest.modeTaken m).traffic.order = none := if_pos hk
    rw [(exec_request_frame rfl ht hact hexec).1]
    exact State.finish_order_none hnone
  · exact State.settlesTo_marked (u := s.popRequest.modeTaken m) hcalm rfl hcalm.2
      (State.admitsNothing_congr rfl rfl rfl hadm) hsettles

/-- The admission settings taken. -/
def State.admissionTaken (s : State) (q x : Nat) (f : Bool) : State :=
  s.setTraffic { s.traffic with quota := q, spacing := x, followOn := f }

theorem admissionSettingsRequest_eq {a : AdmissionArgs} {f : Bool} (h : followOnOf a.followOn = some f) (s : State) :
    admissionSettingsRequest a s =
      accept [num 1 (max 1 (min 4 a.quota)), num 1 (min 100 a.spacing), num 1 a.followOn]
        (s.admissionTaken (max 1 (min 4 a.quota)) (min 100 a.spacing) f).markAdmit.finish := by
  have hquota : max 1 (min 4 a.quota) = clampQuota a.quota := (clampTo_eq_max_min (by decide) _).symm
  have hspacing : min 100 a.spacing = clampSpacing a.spacing :=
    ((clampTo_eq_max_min (by decide) _).trans (Nat.zero_max _)).symm
  rw [hquota, hspacing, ← followOnCode_of h]
  simp only [admissionSettingsRequest, h]
  rfl

/-- Settles O45: each request's owner leaves the values taken, marked for an evaluation. -/
theorem trafficSettingsAreTaken : Obligations.TrafficSettingsAreTaken := by
  refine ⟨fun tag m l s ht => ?_, fun tag x m s hm ht hsame => ?_, fun tag x m s hm ht hnew => setMode_taken hm ht hnew,
    fun tag a f s hf ht => ?_⟩
  · exact setQueueLimits_taken ht
  · exact exec_request_replied rfl ht none _ rfl ((modeRequest_eq hm s.popRequest).trans (if_pos hsame))
  · have hact := admissionSettingsRequest_eq hf s.popRequest
    obtain ⟨t, hexec, hfixed, hreply, -, hsettles⟩ :=
      exec_request_finished (c := .setAdmissionSettings tag a) rfl ht rfl hact
    exact ⟨t, hexec, hfixed, hreply, fun hcalm hadm =>
      State.settlesTo_marked (u := s.popRequest.admissionTaken _ _ _) hcalm rfl hcalm.2
        (State.admitsNothing_congr rfl rfl rfl hadm) hsettles⟩

/-! ### REGISTER VESSEL (R102) -/

theorem State.duplicate_iff (s : State) (r : List Octet) :
    s.duplicate r = true ↔ ∃ q ∈ s.allPassages, q.reference = r := by
  simp [State.duplicate]

section

variable {a : VesselArgs} {d : Direction} {p : Priority} {s : State}

theorem registerRequest_unfit (hd : directionOf a.direction = some d) (hp : priorityOf a.priority = some p)
    (href : referenceValid a.reference = true) (hms : measuresValid a = true) (hcur : s.toll.current.isSome = true)
    {c : RefuseCode} (hc : s.unfit a.length a.beam a.draught = some c) : registerRequest a s = refuse c s := by
  have hcur' : s.toll.current.isNone = false := by rw [← Option.not_isSome, hcur, Bool.not_true]
  simp [registerRequest, hd, hp, href, hms, hcur', hc]

theorem registerRequest_fits (hd : directionOf a.direction = some d) (hp : priorityOf a.priority = some p)
    (href : referenceValid a.reference = true) (hms : measuresValid a = true) (hcur : s.toll.current.isSome = true)
    (hc : s.unfit a.length a.beam a.draught = none) :
    registerRequest a s =
      if s.duplicate a.reference then refuse .duplicate s
      else if 24 ≤ s.charge d then refuse .queueFull s
      else acceptVessel a d p s := by
  have hcur' : s.toll.current.isNone = false := by rw [← Option.not_isSome, hcur, Bool.not_true]
  simp only [registerRequest, hd, hp, href, hms, hcur', hc, Bool.not_true, Bool.or_false, Bool.false_eq_true,
    if_false]
  rfl

/-- The record of a registration whose numbers are free. -/
def State.freshPassage (s : State) (a : VesselArgs) (d : Direction) (p : Priority) : Passage :=
  { number := s.traffic.nextPassage, reference := a.reference, direction := d, length := a.length, beam := a.beam
    draught := a.draught, deadweight := a.deadweight, cargo := a.cargo, priority := p
    arrivalDay := s.toll.account.day, arrivalTime := s.toll.clock, stamp := s.traffic.nextStamp, skips := 0
    state := .queued, location := .queue, batch := none }

theorem acceptVessel_of_free (a : VesselArgs) (d : Direction) (p : Priority) (hstamp : s.traffic.nextStamp ≤ 65535)
    (hfree : ∀ q ∈ s.allPassages, q.number ≠ s.traffic.nextPassage) :
    acceptVessel a d p s = accept [num 2 s.traffic.nextPassage,
        num 1 (positionOf s.traffic.nextPassage ((s.addPassage (s.freshPassage a d p)).queueOf d))]
      (((s.addPassage (s.freshPassage a d p)).evaluateQueue d).markAdmit.finish) := by
  have hready : s.stampReady = s := if_neg (Nat.not_lt.2 hstamp)
  have hnumber : freeNumber 65535 (s.allPassages.map (·.number)) 57 s.traffic.nextPassage = s.traffic.nextPassage :=
    freeNumber_of_free (by simpa using hfree)
  have hnew : s.newPassage a d p = s.freshPassage a d p := by
    simp only [State.newPassage, hnumber]
    rfl
  simp only [acceptVessel, hready, hnew]
  rfl

end

/-- The queues are none of what the end of a step follows. -/
theorem State.settlesTo.queueOf {s t : State} (h : s.settlesTo t) (d : Direction) : t.queueOf d = s.queueOf d := by
  rw [h.1]
  cases d <;> rfl

theorem State.unfit_dims {s : State} {dims : FlightDims} (h : s.flightDims = some dims) (length beam draught : Nat) :
    s.unfit length beam draught = if dims.usable < length then some .tooLong
      else if dims.width < beam + 4 then some .tooWide
      else if dims.sill < draught + 30 then some .tooDeep else none := by
  simp only [State.unfit, h]

/-- Settles O43: the refusals in their order, and the record's place in its queue. -/
theorem registerTakesAPlaceInTheQueue : Obligations.RegisterTakesAPlaceInTheQueue := by
  intro tag a d p s hd hp href hms hcur ht
  have hrefused : ∀ c, registerRequest a s.popRequest = refuse c s.popRequest →
      exec (.registerVessel tag a) s = .next (s.replied tag 0xA0#8 (some c) []) := fun c h =>
    exec_request_replied rfl ht (some c) [] rfl h
  have hunfit : ∀ c, s.unfit a.length a.beam a.draught = some c →
      exec (.registerVessel tag a) s = .next (s.replied tag 0xA0#8 (some c) []) := fun c h =>
    hrefused c (registerRequest_unfit (s := s.popRequest) hd hp href hms hcur h)
  have hfits := fun h => registerRequest_fits (s := s.popRequest) hd hp href hms hcur h
  refine ⟨fun dims hdims hlong => hunfit _ ?_, fun dims hdims hlong hwide => hunfit _ ?_,
    fun dims hdims hlong hwide hdeep => hunfit _ ?_, fun hnone hdup => hrefused _ ?_, fun hnone hnew hfull => hrefused _ ?_,
    fun hnone hnew hroom hstamp hfree hcalm hadm => ?_⟩
  · rw [State.unfit_dims hdims, if_pos hlong]
  · rw [State.unfit_dims hdims, if_neg (Nat.not_lt.2 hlong), if_pos hwide]
  · rw [State.unfit_dims hdims, if_neg (Nat.not_lt.2 hlong), if_neg (Nat.not_lt.2 hwide), if_pos hdeep]
  · exact (hfits hnone).trans (if_pos ((State.duplicate_iff _ _).2 hdup))
  · have hdup : ¬s.popRequest.duplicate a.reference = true := fun h => by
      obtain ⟨q, hq, he⟩ := (State.duplicate_iff _ _).1 h
      exact hnew q hq he
    exact ((hfits hnone).trans (if_neg hdup)).trans (if_pos hfull)
  · have hdup : ¬s.popRequest.duplicate a.reference = true := fun h => by
      obtain ⟨q, hq, he⟩ := (State.duplicate_iff _ _).1 h
      exact hnew q hq he
    have hact := (((hfits hnone).trans (if_neg hdup)).trans (if_neg (c := 24 ≤ s.popRequest.charge d)
      (Nat.not_le.2 hroom))).trans (acceptVessel_of_free (s := s.popRequest) a d p hstamp hfree)
    obtain ⟨t, hexec, hfixed, hreply, -, hsettles⟩ := exec_request_finished (c := .registerVessel tag a) rfl ht rfl hact
    generalize hbase : s.popRequest.addPassage (s.popRequest.freshPassage a d p) = base at hfixed hreply hsettles
    obtain ⟨hhand, hb, hnone'⟩ := base.evaluateQueue_frame d
    have hfixed' : base.fixed = { s.fixed with
        order := s.console.order.drop 1
        nextPassage := if 65535 ≤ s.traffic.nextPassage then 1 else s.traffic.nextPassage + 1
        nextStamp := s.traffic.nextStamp + 1 } := by
      rw [← hbase, State.addPassage_eq]
      rfl
    have hbhand : base.hand = s.hand := by rw [← hbase, State.addPassage_eq]; rfl
    have hbb : base.traffic.batches = s.traffic.batches := by rw [← hbase, State.addPassage_eq]; rfl
    have hbadm : base.admitsNothing := by
      rw [← hbase, State.addPassage_eq]
      exact State.admitsNothing_congr rfl rfl rfl hadm
    have hsettled : base.settlesTo t := State.settlesTo_trans (base.settlesTo_evaluateQueue d)
      (State.settlesTo_marked hcalm (hhand.trans hbhand) (by rw [hb, hbb]; exact hcalm.2) (hnone' hbadm) hsettles)
    refine ⟨t, _, rfl, hexec, ?_, ?_, ?_⟩
    · rw [hfixed, State.markAdmit_fixed, State.evaluateQueue_fixed, hfixed']
    · rw [hsettled.queueOf d]
      exact hreply
    · rw [← hbase] at hsettled
      cases d <;> exact hsettled

/-! ### WITHDRAW VESSEL (R106, R107) -/

theorem withdrawRequest_missing {s : State} {n : Nat} (h : s.queued? n = none) :
    withdrawRequest n s =
      if ∃ p ∈ s.allPassages, p.number = n then refuse .inBatch s else refuse .noSuchVessel s := by
  simp [withdrawRequest, h]

theorem withdrawRequest_queued {s : State} {n : Nat} {p : Passage} (h : s.queued? n = some p) :
    withdrawRequest n s =
      accept [flag (s.orderHolds n)] (((s.withdrawn n p).evaluateQueue p.direction).markAdmit.finish) := by
  simp only [withdrawRequest, h]
  rfl

/-- Settles O44: the refusals, and the record out of its queue. -/
theorem withdrawTakesTheRecordAway : Obligations.WithdrawTakesTheRecordAway := by
  intro tag n s ht
  refine ⟨fun hno => ?_, fun hq hp => ?_, fun p hq hcalm hadm => ?_⟩
  · have hq : s.queued? n = none := by
      cases h : s.queued? n with
      | none => rfl
      | some p =>
        obtain ⟨hn, hmem⟩ := State.queued?_some h
        exact absurd hn (hno p (State.mem_allPassages.2 (.inl hmem)))
    refine exec_request_replied rfl ht (some .noSuchVessel) [] rfl
      ((withdrawRequest_missing (s := s.popRequest) hq).trans (if_neg ?_))
    rintro ⟨p, hp, hn⟩
    exact hno p hp hn
  · exact exec_request_replied rfl ht (some .inBatch) [] rfl
      ((withdrawRequest_missing (s := s.popRequest) hq).trans (if_pos hp))
  · have hact := withdrawRequest_queued (s := s.popRequest) hq
    obtain ⟨t, hexec, hfixed, hreply, -, hsettles⟩ := exec_request_finished (c := .withdrawVessel tag n) rfl ht rfl hact
    generalize hbase : s.popRequest.withdrawn n p = base at hfixed hreply hsettles
    obtain ⟨hhand, hb, hnone⟩ := base.evaluateQueue_frame p.direction
    rw [State.withdrawn_eq] at hbase
    have hbadm : base.admitsNothing := by
      rcases hadm with hadm | ⟨hmode, hholds⟩
      · rw [← hbase]
        rcases hadm with hadm | ⟨hmode, horder⟩ | hadm
        · exact .inl hadm
        · refine .inr (.inl ⟨hmode, ?_⟩)
          have hnone' : (if s.orderHolds n then none else s.traffic.order) = none := by rw [horder, ite_self]
          exact hnone'
        · exact .inr (.inr hadm)
      · refine .inr (.inl ⟨?_, ?_⟩)
        · rw [← hbase]
          exact hmode
        · rw [← hbase]
          exact if_pos hholds
    have hsettled : base.settlesTo t := State.settlesTo_trans (base.settlesTo_evaluateQueue p.direction)
      (State.settlesTo_marked hcalm (by rw [hhand, ← hbase]; rfl) (by rw [hb, ← hbase]; exact hcalm.2)
        (hnone hbadm) hsettles)
    refine ⟨t, hexec, ?_, hreply, ?_⟩
    · rw [hfixed, State.markAdmit_fixed, State.evaluateQueue_fixed, ← hbase]
      rfl
    · obtain ⟨hn, -⟩ := State.queued?_some hq
      rw [← hbase, State.withdrawnTraffic, hn] at hsettled
      generalize p.direction = d at hsettled ⊢
      cases d <;> exact hsettled

end Sys2Proof.Machine
end

section
/-! BATCHES THAT END OR MOVE BY REQUEST: ABANDON BATCH and CONFIRM MOVED, where no evaluation they hand over admits a
batch. -/

namespace Sys2Proof.Machine

/-! ### Shapes of the faces' operations -/

theorem Eight.set_get {α : Type} (e : Eight α) (f : Face) : e.set f (e.get f) = e := by
  obtain ⟨k, x⟩ := f
  cases x
  · cases k <;> rfl
  · cases k <;> rfl

theorem State.setFace_self (s : State) (f : Face) : s.setFace f (s.face f) = s := by
  have h : s.signal.faces.set f (s.face f) = s.signal.faces := Eight.set_get _ _
  unfold State.setFace
  rw [h]

theorem State.setQueue_self (s : State) (k : Station) : s.setQueue k (s.station k).queue = s := by
  have h : s.line.stations.set k { s.station k with queue := (s.station k).queue } = s.line.stations := Quad.set_get _ _
  unfold State.setQueue State.setStation
  rw [h]

/-- A face derived afresh: another commanded aspect and another queue at its station, and nothing else. -/
theorem State.deriveFace_shape (s : State) (f : Face) :
    ∃ a q, s.deriveFace f = (s.setFace f { s.face f with commanded := a }).setQueue f.gate q := by
  unfold State.deriveFace
  dsimp only
  split
  · refine ⟨(s.face f).commanded, (s.station f.gate).queue, ?_⟩
    rw [s.setFace_self, s.setQueue_self]
  · exact ⟨_, _, rfl⟩

theorem State.withdrawStopWait_shape (s : State) (f : Face) (n : Nat) :
    ∃ fs, s.withdrawStopWait f n = { s with signal := { s.signal with faces := fs } } := by
  unfold State.withdrawStopWait
  split
  · split
    · exact ⟨_, rfl⟩
    · exact ⟨s.signal.faces, rfl⟩
  · exact ⟨s.signal.faces, rfl⟩

theorem State.foldl_withdrawStopWait_shape (n : Nat) (xs : List Face) : ∀ s : State,
    ∃ fs, xs.foldl (fun s f => s.withdrawStopWait f n) s = { s with signal := { s.signal with faces := fs } } := by
  induction xs with
  | nil => exact fun s => ⟨s.signal.faces, rfl⟩
  | cons f xs ih =>
    intro s
    obtain ⟨fs, h⟩ := s.withdrawStopWait_shape f n
    obtain ⟨gs, h'⟩ := ih (s.withdrawStopWait f n)
    refine ⟨gs, ?_⟩
    rw [List.foldl_cons, h', h]

/-! ### What the end of a step looks at -/


/-- The same hand-overs and batches, and no admission where there was none. -/
def State.sameWork (s t : State) : Prop :=
  t.hand = s.hand ∧ t.traffic.batches = s.traffic.batches ∧ (s.admitsNothing → t.admitsNothing)

theorem State.sameWork.trans {s t u : State} (h : s.sameWork t) (h' : t.sameWork u) : s.sameWork u :=
  ⟨h'.1.trans h.1, h'.2.1.trans h.2.1, h'.2.2 ∘ h.2.2⟩

theorem State.evaluateQueue_sameWork (s : State) (d : Direction) : s.sameWork (s.evaluateQueue d) :=
  s.evaluateQueue_frame d

theorem State.evaluateHold_sameWork (s : State) : s.sameWork s.evaluateHold := by
  obtain ⟨ns, h⟩ := s.evaluateHold_spec
  rw [h]
  exact ⟨rfl, rfl, State.admitsNothing_congr rfl rfl rfl⟩

theorem State.notify_sameWork (s : State) (k : NoticeKind) (o : Nat) (p : List Field) : s.sameWork (s.notify k o p) := by
  rw [State.notify_withNotices]
  exact ⟨rfl, rfl, State.admitsNothing_congr rfl rfl rfl⟩

/-- The end of a step from a state marked for an evaluation that admits nothing, reached with the same work from one
that a calm state came to. -/
theorem State.settlesTo_sameWork {s base u t : State} (hcalm : s.calm) (hhand : base.hand = s.hand)
    (hbatches : ∀ b ∈ base.traffic.batches, b.suspended = true ∨ b.phase? ≠ some .claiming)
    (hadm : base.admitsNothing) (hset : base.settlesTo u) (hwork : base.sameWork u)
    (h : u.markAdmit.quiet → u.markAdmit.emptied.settlesTo t) : base.settlesTo t := by
  obtain ⟨hh, hb, ha⟩ := hwork
  exact State.settlesTo_trans hset (State.settlesTo_marked hcalm (hh.trans hhand) (hb ▸ hbatches) (ha hadm) h)

/-! ### ABANDON BATCH (R125, R126) -/

theorem State.batch?_some {s : State} {n : Nat} {b : Batch} (h : s.batch? n = some b) :
    b.number = n ∧ b ∈ s.traffic.batches :=
  ⟨beq_iff_eq.mp (List.find?_some (p := fun b : Batch => b.number == n) h), List.mem_of_find?_eq_some h⟩

/-- The batch out of the table with its account and its members' places, and no stop wait of its own. -/
def State.abandonedWith (s : State) (n : Nat) (b : Batch) (fs : Eight FaceRec) : State :=
  { (s.setAccount (s.abandonAccount b)).setTraffic (s.abandonedTraffic n b) with
    signal := { s.signal with faces := fs } }

/-- An abandonment up to the hand-overs: indications and notices follow the batch out of the table. -/
theorem State.abandon_shape (s : State) (n : Nat) (b : Batch) :
    ∃ fs u, s.abandon n b = u.markAdmit ∧ u.fixed = (s.abandonedWith n b fs).fixed ∧
      (s.abandonedWith n b fs).settlesTo u ∧ (s.abandonedWith n b fs).sameWork u := by
  obtain ⟨fs, hfs⟩ := State.foldl_withdrawStopWait_shape n allFaces (s.abandoned n b)
  rw [s.abandoned_eq] at hfs
  have hfs' : allFaces.foldl (fun s f => s.withdrawStopWait f n) (s.abandoned n b) = s.abandonedWith n b fs := by
    rw [s.abandoned_eq]
    exact hfs
  refine ⟨fs, (((s.abandonedWith n b fs).evaluateQueue b.direction).evaluateHold).notify .batchComplete n
    (abandonFields { b with meter := b.meter.close s.meterLevel } (s.abandonCharge b)), ?_, ?_, ?_, ?_⟩
  · rw [s.abandon_eq, hfs']
  · rw [State.notify_fixed, State.evaluateHold_fixed, State.evaluateQueue_fixed]
  · exact State.settlesTo_trans (State.settlesTo_evaluateQueue _ _)
      (State.settlesTo_trans (State.settlesTo_evaluateHold _) (State.settlesTo_notify _ _ _ _))
  · exact ((State.evaluateQueue_sameWork _ _).trans (State.evaluateHold_sameWork _)).trans
      (State.notify_sameWork _ _ _ _)

theorem abandonRequest_none {s : State} {n : Nat} (h : s.batch? n = none) :
    abandonRequest n s = refuse .noSuchBatch s := by
  simp only [abandonRequest, h]

theorem abandonRequest_some {s : State} {n : Nat} {b : Batch} (h : s.batch? n = some b) :
    abandonRequest n s =
      if b.entered then refuse .vesselsInside s
      else if b.suspended = false then refuse .notSuspended s
      else accept ((s.abandon n b).abandonReply b (s.abandonCharge b)) (s.abandon n b).finish := by
  simp only [abandonRequest, h, Bool.not_eq_true']

theorem addSat_fst (limit a b : Nat) : (addSat limit a b).1 = min limit (a + b) := rfl

/-- Settles O48: the refusals, and the account, the table and the queue that `State.abandon_shape` writes out. -/
theorem abandonReturnsTheMembers : Obligations.AbandonReturnsTheMembers := by
  intro tag n s ht
  refine ⟨fun h => exec_request_replied rfl ht (some .noSuchBatch) [] rfl (abandonRequest_none (s := s.popRequest) h),
    fun b h he => ?_, fun b h he hs => ?_, fun b h he hs hcalm hadm => ?_⟩
  · exact exec_request_replied rfl ht (some .vesselsInside) [] rfl
      ((abandonRequest_some (s := s.popRequest) h).trans (if_pos he))
  · refine exec_request_replied rfl ht (some .notSuspended) [] rfl ((abandonRequest_some (s := s.popRequest) h).trans ?_)
    rw [if_neg (by simp [he]), if_pos hs]
    rfl
  · have hact := (abandonRequest_some (s := s.popRequest) h).trans
      ((if_neg (by simp [he])).trans (if_neg (by simp [hs])))
    obtain ⟨fs, u, hshape, hufixed, hset, hwork⟩ := s.popRequest.abandon_shape n b
    obtain ⟨t, hexec, hfixed, hreply, -, hsettles⟩ := exec_request_finished (c := .abandonBatch tag n) rfl ht rfl hact
    rw [hshape] at hsettles
    have hclaims : ∀ x ∈ (s.popRequest.abandonedWith n b fs).traffic.batches,
        x.suspended = true ∨ x.phase? ≠ some .claiming := fun x hx => hcalm.2 x (List.mem_of_mem_filter hx)
    have hsettled : (s.popRequest.abandonedWith n b fs).settlesTo t := State.settlesTo_sameWork hcalm rfl hclaims
      (State.admitsNothing_congr rfl rfl rfl hadm) hset hwork hsettles
    have hqueues : ∀ e, t.queueOf e = if e = b.direction then
        b.members.foldl (fun q p => placePassage (returned p) q) (s.queueOf b.direction) else s.queueOf e := by
      intro e
      rw [hsettled.queueOf e]
      exact s.popRequest.queueOf_withQueue b.direction e _
    refine ⟨t, s.abandonCharge b, hexec, ?_, ?_, ?_, ?_, ?_, rfl, ?_, ?_, ?_, ?_, ?_, ?_, ?_⟩
    · rw [hfixed, hshape, State.markAdmit_fixed, hufixed]
      rfl
    · have hqueue : (s.popRequest.abandon n b).queueOf b.direction = t.queueOf b.direction := by
        rw [hshape, hsettled.queueOf, ← hset.queueOf]
        cases b.direction <;> rfl
      have hdata : (s.popRequest.abandon n b).abandonReply b (s.popRequest.abandonCharge b) =
          [num 1 1, num 1 n, num 1 b.members.length] ++ b.members.map (fun p => num 2 p.number) ++
            [num 3 (s.abandonCharge b), num 1 b.members.length] ++
            b.members.map (fun p => num 1 (positionOf p.number (t.queueOf b.direction))) := by
        rw [State.abandonReply, hqueue, ← (State.batch?_some h).1]
        simp only [abandonFields, collection, List.cons_append, List.nil_append, List.append_assoc,
          ← List.map_eq_flatMap]
        rfl
      rw [hdata] at hreply
      exact hreply
    · rw [hsettled.1]
      rfl
    · exact (hqueues _).trans (if_pos rfl)
    · exact (hqueues _).trans (if_neg (by cases b.direction <;> decide))
    all_goals
      rw [hsettled.1]

      rfl

/-! ### The table after a change of one batch -/

theorem find_map_number {n : Nat} {f : Batch → Batch} (hf : ∀ b, (f b).number = b.number) (bs : List Batch) :
    (bs.map f).find? (fun b => b.number == n) = (bs.find? fun b => b.number == n).map f := by
  induction bs with
  | nil => rfl
  | cons b bs ih =>
    by_cases h : b.number = n
    · simp [h, hf]
    · simp only [List.map_cons, List.find?_cons, hf, beq_eq_false_iff_ne.2 h, ih]

theorem State.batch?_modBatch (s : State) (n m : Nat) {f : Batch → Batch} (hf : ∀ b, (f b).number = b.number) :
    (s.modBatch m f).batch? n = if n = m then (s.batch? n).map f else s.batch? n := by
  have hmap : (s.modBatch m f).batch? n = (s.batch? n).map fun b => if b.number = m then f b else b :=
    find_map_number (fun b => by split <;> simp [hf]) _
  rw [hmap]
  cases hb : s.batch? n with
  | none => simp
  | some b =>
    obtain ⟨rfl, -⟩ := State.batch?_some hb
    by_cases h : b.number = m <;> simp [h]

theorem State.batch?_of_batches {s t : State} (h : t.traffic.batches = s.traffic.batches) (n : Nat) :
    t.batch? n = s.batch? n := by
  rw [State.batch?, h]
  rfl

/-! ### CONFIRM MOVED (R142) -/

theorem Eight.set_set {α : Type} (e : Eight α) (f : Face) (a b : α) : (e.set f a).set f b = e.set f b := by
  obtain ⟨k, x⟩ := f
  cases x
  · cases k <;> rfl
  · cases k <;> rfl

theorem State.setFace_setFace (s : State) (f : Face) (r r' : FaceRec) :
    (s.setFace f r).setFace f r' = s.setFace f r' := by
  have h : (s.signal.faces.set f r).set f r' = s.signal.faces.set f r' := Eight.set_set _ _ _ _
  unfold State.setFace
  dsimp only
  rw [h]

theorem State.answerStopWait_unstopped {s : State} {f : Face} (h : (s.face f).stopped = false) :
    s.answerStopWait f = s := by
  unfold State.answerStopWait
  split
  · rw [h, Bool.false_and, if_neg Bool.false_ne_true]
  · rfl

/-- A STOP asked of a face that is not reported stopped waits for the report. -/
theorem State.requestFaceStop_unstopped {s : State} {f : Face} (h : (s.face f).stopped = false) (n : Nat) (st : Step) :
    ∃ a q, s.requestFaceStop f n st =
      (s.setFace f { s.face f with request := none, commanded := a, stopWait := some (n, st) }).setQueue f.gate q := by
  obtain ⟨a, q, hshape⟩ := (s.setFace f { s.face f with request := none }).deriveFace_shape f
  rw [State.face_setFace_self, State.setFace_setFace] at hshape
  have hface : (((s.setFace f { s.face f with request := none }).deriveFace f).face f) =
      { s.face f with request := none, commanded := a } := by
    rw [hshape]
    exact State.face_setFace_self _ _ _
  refine ⟨a, q, ?_⟩
  have hwait : s.requestFaceStop f n st = State.answerStopWait
      (((s.setFace f { s.face f with request := none }).deriveFace f).setFace f
        { s.face f with request := none, commanded := a, stopWait := some (n, st) }) f := by
    rw [State.requestFaceStop, hface]
  rw [hwait, State.answerStopWait_unstopped (by rw [State.face_setFace_self]; exact h), hshape]
  exact congrArg (State.setQueue · f.gate q) (State.setFace_setFace _ _ _ _)

theorem State.readyToConfirm_spec {s : State} {b : Batch} {g : Station} (h : s.readyToConfirm b g = true) :
    b.suspended = false ∧ stepWork b.current = .passage g ∧ b.phase? = some .opened ∧
      (s.face (entryFace b.direction g)).reported = some .proceed := by
  simpa [State.readyToConfirm, and_assoc] using h

theorem confirmRequest_none {s : State} {n x : Nat} {g : Station} (hg : stationOf x = some g) (h : s.batch? n = none) :
    confirmRequest n x s = refuse .noSuchBatch s := by
  simp only [confirmRequest, hg, h]

theorem confirmRequest_some {s : State} {n x : Nat} {g : Station} {b : Batch} (hg : stationOf x = some g)
    (h : s.batch? n = some b) :
    confirmRequest n x s = if s.readyToConfirm b g then
        accept [num 1 b.number, num 1 (stationCode g), opt 1 ((destination b.direction g).map chamberCode)]
          ((s.confirm b g).finish)
      else refuse .notReady s := by
  simp only [confirmRequest, hg, h]

theorem stationCode_of {x : Nat} {g : Station} (h : stationOf x = some g) : stationCode g = x := by
  match x, h with
  | 0, h | 1, h | 2, h | 3, h =>
    obtain rfl := Option.some.inj h
    rfl
  | _ + 4, h => exact nomatch h

/-- The step record of a batch that has been confirmed through its gate. -/
def StepRec.stopping (r : StepRec) : StepRec := { r with phase := .stopping, moveWait := none }

/-- The batch after its confirmation, its step stopping. -/
def Batch.confirmedAt (b : Batch) (g : Station) : Batch :=
  { b.confirm g with step := b.step.map StepRec.stopping }

/-- A confirmation up to the hand-overs: the batch's members moved and its step stopping, the entry face asked to stop. -/
theorem State.confirm_shape (s : State) (b : Batch) (g : Station) (h : (s.face (entryFace b.direction g)).stopped = false) :
    ∃ u a, (s.confirm b g = u ∨ s.confirm b g = u.markAdmit) ∧ u.fixed = s.fixed ∧ u.hand = s.hand ∧
      u.traffic.batches = (s.modBatch b.number fun x => x.confirmedAt g).traffic.batches ∧
      u.face (entryFace b.direction g) = { s.face (entryFace b.direction g) with
        request := none, commanded := a, stopWait := some (b.number, b.current) } ∧
      (s.admitsNothing → u.admitsNothing) := by
  obtain ⟨ns, he⟩ := (s.confirmed b g).evaluateQueue_spec b.direction
  have hsame : ((s.confirmed b g).evaluateQueue b.direction).signal = s.signal := by
    rw [he]
    cases b.direction <;> rfl
  have hface : ∀ f, (((s.confirmed b g).evaluateQueue b.direction).modStep b.number StepRec.stopping).face f =
      s.face f := fun f => congrArg (fun x : Signals => x.faces.get f) hsame
  obtain ⟨a, q, hstop⟩ := State.requestFaceStop_unstopped (s := ((s.confirmed b g).evaluateQueue
    b.direction).modStep b.number StepRec.stopping) ((congrArg FaceRec.stopped (hface _)).trans h) b.number b.current
  have hconfirm : s.confirm b g = if setsFlag b.position then
      State.markAdmit (((s.confirmed b g).evaluateQueue b.direction).enterStopping b g)
      else ((s.confirmed b g).evaluateQueue b.direction).enterStopping b g := rfl
  have hu : ((s.confirmed b g).evaluateQueue b.direction).enterStopping b g = _ := hstop
  refine ⟨((s.confirmed b g).evaluateQueue b.direction).enterStopping b g, a, ?_, ?_, ?_, ?_, ?_, ?_⟩
  · rw [hconfirm]
    split
    · exact .inr rfl
    · exact .inl rfl
  · rw [State.enterStopping_fixed, State.evaluateQueue_fixed]
    rfl
  · rw [hu, he]
    cases b.direction <;> rfl
  · have hbatches : (((s.confirmed b g).evaluateQueue b.direction).enterStopping b g).traffic.batches =
        ((s.confirmed b g).modStep b.number StepRec.stopping).traffic.batches := by
      rw [hu, he]
      cases b.direction <;> rfl
    rw [hbatches]
    simp only [State.confirmed, State.modStep, State.batches_modBatch, List.map_map]
    refine List.map_congr_left fun x _ => ?_
    by_cases hx : x.number = b.number
    · have hn : (x.confirm g).number = b.number := hx
      rw [Function.comp_apply, if_pos hx, if_pos hn, if_pos hx]
      rfl
    · simp only [Function.comp_apply, hx, if_false]
  · rw [hu]
    exact (State.face_setFace_self _ _ _).trans (by rw [hface])
  · rw [hu, he]
    refine State.admitsNothing_congr ?_ ?_ ?_ <;> cases b.direction <;> rfl

/-- Settles O49: the refusals, and what `State.confirm_shape` leaves under the end of the step. -/
theorem confirmMovesTheMembers : Obligations.ConfirmMovesTheMembers := by
  intro tag n x g s hg ht
  refine ⟨fun h => exec_request_replied rfl ht (some .noSuchBatch) [] rfl (confirmRequest_none (s := s.popRequest) hg h),
    fun b h hr => ?_, fun b h hr hcalm hadm => ?_⟩
  · refine exec_request_replied rfl ht (some .notReady) [] rfl ((confirmRequest_some (s := s.popRequest) hg h).trans ?_)
    rw [if_neg (c := s.popRequest.readyToConfirm b g = true) (by rw [show s.popRequest.readyToConfirm b g = false from hr]; decide)]
    rfl
  · have hact := (confirmRequest_some (s := s.popRequest) hg h).trans (if_pos hr)
    obtain ⟨-, -, -, hreported⟩ := State.readyToConfirm_spec hr
    obtain ⟨rfl, -⟩ := State.batch?_some h
    have hunstopped : (s.face (entryFace b.direction g)).stopped = false := by
      rw [FaceRec.stopped, hreported]
      rfl
    obtain ⟨u, a, hmark, hfixed', hhand, hbatches, hface, hnone⟩ := s.popRequest.confirm_shape b g hunstopped
    obtain ⟨t, hexec, hfixed, hreply, -, hsettles⟩ :=
      exec_request_finished (c := .confirmMoved tag b.number x) rfl ht rfl hact
    have hclaims : ∀ y ∈ u.traffic.batches, y.suspended = true ∨ y.phase? ≠ some .claiming := by
      intro y hy
      rw [hbatches] at hy
      obtain ⟨z, hz, rfl⟩ := List.mem_map.1 hy
      split
      · refine .inr ?_
        cases hstep : z.step <;> simp [Batch.confirmedAt, Batch.phase?, hstep, StepRec.stopping]
      · exact hcalm.2 z hz
    have hsettled : u.settlesTo t := by
      rcases hmark with hmark | hmark
      · rw [hmark] at hsettles
        have hempty : u.emptied = u := State.emptied_of_calm hcalm hhand
        rw [← hempty]
        exact hsettles (State.quiet_of_calm hcalm (by rw [hhand]; rfl) hclaims (hnone hadm))
      · rw [hmark] at hsettles
        exact State.settlesTo_marked hcalm hhand hclaims (hnone hadm) hsettles
    have hbatch : t.batch? b.number = some (b.confirmedAt g) := by
      have htraffic : t.traffic.batches = (s.modBatch b.number fun y => y.confirmedAt g).traffic.batches := by
        rw [hsettled.1]
        exact hbatches
      rw [State.batch?_of_batches htraffic, State.batch?_modBatch _ _ _ (f := fun y => y.confirmedAt g) (fun _ => rfl), if_pos rfl, h]
      rfl
    have hentry := hsettled.2.2 (entryFace b.direction g)
    rw [hface] at hentry
    refine ⟨t, hexec, ?_, ?_, hbatch, ?_, ?_⟩
    · rcases hmark with hmark | hmark
      · rw [hfixed, hmark, hfixed']
        rfl
      · rw [hfixed, hmark, State.markAdmit_fixed, hfixed']
        rfl
    · rw [stationCode_of hg] at hreply
      exact hreply
    · rw [hentry]
    · rw [hentry]

end Sys2Proof.Machine
end

section
/-! WHAT THE END OF A STEP LEAVES STANDING: the hand-overs of a step change nothing that only a report, a poll or a
cause changes, and an entry into HALTED changes of it only the halt record and the line, while the line rate stands. -/

namespace Sys2Proof.Machine

/-! ### What stations report, and what stands beside it -/

/-- What the part holds of its stations: their states, what they report, and, while no two records bear one number,
the fault records that no water step raises. -/
structure Seen where
  rate : LineRate
  stations : Station → StationState × Nat
  positions : Item → Option Position
  inputs : Quad InputStates
  unrecorded : Quad InputFlags
  faces : Face → Option Aspect × Option Bool × Option Nat
  readings : Chamber → Option Nat × Option Nat
  river : Option Nat × Option Nat
  faults : Option (List FaultRec)

def State.seen (s : State) : Seen :=
  { rate := s.line.rate
    stations := fun k => ((s.station k).state, (s.station k).failed)
    positions := fun i => (s.item i).position
    inputs := s.mach.inputs, unrecorded := s.mach.unrecorded
    faces := fun f => ((s.face f).reported, (s.face f).lamp, (s.face f).stopSince)
    readings := fun c => ((s.chamber c).upper, (s.chamber c).lower)
    river := (s.level.headReading, s.level.tailReading)
    faults := if (s.mach.faults.map (·.number)).Nodup then some s.stationFaults else none }

/-- What no hand-over but a cause changes: what is seen, the overload timers, the round, the halt record, and the
causes handed so far but FAULT TABLE FULL. -/
structure Steady where
  seen : Seen
  overload : Quad OverloadBlank
  poll : Option Poll
  slot : Option Station
  pulse : Bool
  halt : Halt
  causes : List HaltCause

def State.steady (s : State) : Steady :=
  { seen := s.seen, overload := s.mach.overload, poll := s.line.poll, slot := s.line.slot, pulse := s.line.pulse
    halt := s.halt, causes := s.hand.toHalt.filter (· != .faultTableFull) }

theorem foldl_steady {α : Type} (f : State → α → State) (h : ∀ s a, (f s a).steady = s.steady) (xs : List α)
    (s : State) : (xs.foldl f s).steady = s.steady := foldl_frame State.steady h xs s

/-! ### Plain updates -/

theorem State.setItem_steady (s : State) (i : Item) (r : ItemRec) (h : r.position = (s.item i).position) :
    (s.setItem i r).steady = s.steady := by
  have hpos : (fun j => ((s.setItem i r).item j).position) = fun j => (s.item j).position := by
    funext j
    rw [State.item_setItem]
    split
    · rename_i hj
      rw [hj, h]
    · rfl
  simp only [State.steady, State.seen, hpos]
  rfl

@[simp] theorem State.setMovement_steady (s : State) (i : Item) (m : Option Movement) :
    (s.setMovement i m).steady = s.steady := s.setItem_steady i _ rfl

@[simp] theorem State.markRetest_steady (s : State) : s.markRetest.steady = s.steady := rfl

@[simp] theorem State.setCommand_steady (s : State) (i : Item) (c : CmdState) :
    (s.setCommand i c).steady = s.steady := by
  unfold State.setCommand
  split
  · rfl
  · exact (State.markRetest_steady _).trans (s.setItem_steady i _ rfl)

theorem State.setFace_steady (s : State) (f : Face) (r : FaceRec) (h : r.reported = (s.face f).reported)
    (hl : r.lamp = (s.face f).lamp) (hs : r.stopSince = (s.face f).stopSince) : (s.setFace f r).steady = s.steady := by
  have hfaces : (fun g => (((s.setFace f r).face g).reported, ((s.setFace f r).face g).lamp,
      ((s.setFace f r).face g).stopSince)) =
      fun g => ((s.face g).reported, (s.face g).lamp, (s.face g).stopSince) := by
    funext g
    rw [State.face_setFace]
    split
    · rename_i hg
      rw [hg, h, hl, hs]
    · rfl
  simp only [State.steady, State.seen, hfaces]
  rfl

/-- A face is commanded, asked and waited for; what it reports stands. -/
@[simp] theorem State.askFace_steady (s : State) (f : Face) (a : Aspect) (q w : Option (Nat × Step)) :
    (s.setFace f { s.face f with commanded := a, request := q, stopWait := w }).steady = s.steady :=
  s.setFace_steady f _ rfl rfl rfl

@[simp] theorem State.setQueue_steady (s : State) (k : Station) (q : List QueueEntry) :
    (s.setQueue k q).steady = s.steady := by
  have hst : (fun j => (((s.setQueue k q).station j).state, ((s.setQueue k q).station j).failed)) =
      fun j => ((s.station j).state, (s.station j).failed) := by
    funext j
    rw [State.station_setQueue]
    split
    · rename_i hj
      rw [hj]
    · rfl
  simp only [State.steady, State.seen, hst]
  rfl

@[simp] theorem State.setTarget_steady (s : State) (c : Chamber) (t : Option LevelTarget) :
    (s.setTarget c t).steady = s.steady := by
  have hread : (fun d => (((s.setTarget c t).chamber d).upper, ((s.setTarget c t).chamber d).lower)) =
      fun d => ((s.chamber d).upper, (s.chamber d).lower) := by
    funext d
    rw [State.setTarget, State.chamber_setChamber]
    split
    · rename_i hd
      rw [hd]
    · rfl
  simp only [State.steady, State.seen, hread]
  rfl

@[simp] theorem State.notify_steady (s : State) (k : NoticeKind) (o : Nat) (p : List Field) :
    (s.notify k o p).steady = s.steady := by
  rw [State.notify_eq]; rfl

@[simp] theorem State.emit_steady (s : State) (e : RunEvent) : (s.emit e).steady = s.steady := rfl
@[simp] theorem State.popEvent_steady (s : State) : s.popEvent.steady = s.steady := rfl
@[simp] theorem State.markAdmit_steady (s : State) : s.markAdmit.steady = s.steady := rfl
@[simp] theorem State.setBatches_steady (s : State) (bs : List Batch) : (s.setBatches bs).steady = s.steady := rfl
@[simp] theorem State.modBatch_steady (s : State) (n : Nat) (f : Batch → Batch) :
    (s.modBatch n f).steady = s.steady := rfl
@[simp] theorem State.modStep_steady (s : State) (n : Nat) (f : StepRec → StepRec) :
    (s.modStep n f).steady = s.steady := rfl
@[simp] theorem State.setPhase_steady (s : State) (n : Nat) (p : Phase) : (s.setPhase n p).steady = s.steady := rfl
@[simp] theorem State.withdraw_steady (s : State) (i : Item) : (s.withdraw i).steady = s.steady :=
  s.setQueue_steady _ _
@[simp] theorem State.placeFace_steady (s : State) (f : Face) (a : Aspect) : (s.placeFace f a).steady = s.steady :=
  s.setQueue_steady _ _
@[simp] theorem State.openSegment_steady (s : State) (n : Nat) : (s.openSegment n).steady = s.steady := rfl
@[simp] theorem State.closeSegment_steady (s : State) (n : Nat) : (s.closeSegment n).steady = s.steady := rfl
@[simp] theorem State.closeSegments_steady (s : State) : s.closeSegments.steady = s.steady := rfl
@[simp] theorem State.enterFlowing_steady (s : State) (n : Nat) : (s.enterFlowing n).steady = s.steady := rfl
@[simp] theorem State.levelWait_steady (s : State) (n : Nat) : (s.levelWait n).steady = s.steady := rfl
@[simp] theorem State.makeRoom_steady (s : State) (b : Batch) (x : SubStep) : (s.makeRoom b x).steady = s.steady := rfl
@[simp] theorem State.removeBatch_steady (s : State) (n : Nat) : (s.removeBatch n).steady = s.steady := rfl
@[simp] theorem State.discardOrder_steady (s : State) : s.discardOrder.steady = s.steady := rfl
@[simp] theorem State.assess_steady (s : State) (b : Batch) : (s.assess b).steady = s.steady := rfl

@[simp] theorem State.setQueueOf_steady (s : State) (d : Direction) (q : List Passage) :
    (s.setQueueOf d q).steady = s.steady := by
  cases d <;> rfl

/-! ### Faults of water steps -/

/-- The seen part of a state whose fault table differs only in records that water steps raise. -/
theorem State.steady_of_faults {s t : State} (ht : t.steady = { s.steady with seen := { s.seen with
      faults := t.seen.faults } }) (hn : (t.mach.faults.map (·.number)).Nodup ↔ (s.mach.faults.map (·.number)).Nodup)
    (hf : (s.mach.faults.map (·.number)).Nodup → t.stationFaults = s.stationFaults) : t.steady = s.steady := by
  have hfaults : t.seen.faults = s.seen.faults := by
    simp only [State.seen]
    by_cases h : (s.mach.faults.map (·.number)).Nodup
    · rw [if_pos h, if_pos (hn.2 h), hf h]
    · rw [if_neg h, if_neg (mt hn.1 h)]
  rw [ht, hfaults]
  rfl

theorem map_replaced_numbers {old new : FaultRec} (hn : new.number = old.number) (fs : List FaultRec) :
    (fs.map fun r => if r.number = old.number then new else r).map (·.number) = fs.map (·.number) := by
  rw [List.map_map]
  refine List.map_congr_left fun r _ => ?_
  by_cases h : r.number = old.number <;> simp [h, hn]

/-- With distinct numbers, replacing a record of a kind that water steps raise leaves the others. -/
theorem filter_replaced {old new : FaultRec} {fs : List FaultRec} (hold : old ∈ fs)
    (hnew : isChamberKind new.kind = true) (hk : isChamberKind old.kind = true) (hnodup : (fs.map (·.number)).Nodup) :
    (fs.map fun r => if r.number = old.number then new else r).filter (fun r => !isChamberKind r.kind) =
      fs.filter fun r => !isChamberKind r.kind := by
  have hsame : ∀ r ∈ fs, r.number = old.number → r = old := fun r hr h =>
    List.inj_on_of_nodup_map hnodup hr hold h
  have hkept : ∀ r ∈ fs, ((fun r => !isChamberKind r.kind) ∘ fun r => if r.number = old.number then new else r) r =
      !isChamberKind r.kind := by
    intro r hr
    by_cases h : r.number = old.number
    · simp [hsame r hr h, hnew, hk]
    · simp [h]
  rw [List.filter_map, List.filter_congr hkept]
  refine (List.map_congr_left fun r hr => ?_).trans (List.map_id _)
  obtain ⟨hr, hkind⟩ := List.mem_filter.1 hr
  refine if_neg fun h => ?_
  rw [hsame r hr h, hk] at hkind
  exact Bool.false_ne_true hkind

theorem State.changeFault_steady (s : State) {old new : FaultRec} (hold : old ∈ s.mach.faults)
    (hn : new.number = old.number) (hk : isChamberKind old.kind = true) (hnew : isChamberKind new.kind = true) :
    (s.changeFault old new).steady = s.steady := by
  unfold State.changeFault
  split
  · rfl
  · rw [State.noticeRaised, State.notify_steady]
    refine State.steady_of_faults rfl ?_ fun h => filter_replaced hold hnew hk h
    rw [State.faults_setFaults, map_replaced_numbers hn]

theorem State.newFault_steady (s : State) {k : FaultKind} (hk : isChamberKind k = true) (src : FaultSource) (l : Bool)
    (c : Capture) (hroom : s.hasFaultRoom = true) : (s.newFault k src l c).steady = s.steady := by
  obtain ⟨ns, h⟩ := s.newFault_eq k src l c
  have hlen : s.mach.faults.length < 16 := of_decide_eq_true hroom
  have hfresh : (s.freshFault k src l c).number ∉ s.mach.faults.map (·.number) :=
    freeNumber_not_mem (by rw [List.length_map]; omega) (by decide)
  rw [h]
  refine State.steady_of_faults rfl ?_ fun _ => ?_
  · have hmap : ((s.withFault (s.freshFault k src l c) ns).mach.faults.map (·.number)) =
        s.mach.faults.map (·.number) ++ [(s.freshFault k src l c).number] := List.map_append
    rw [hmap, ← List.concat_eq_append, List.nodup_concat]
    exact and_iff_right hfresh
  · have hfilter : (s.mach.faults ++ [s.freshFault k src l c]).filter (fun r => !isChamberKind r.kind) =
        s.mach.faults.filter fun r => !isChamberKind r.kind := by
      rw [List.filter_append]
      simp [State.freshFault, hk]
    exact hfilter

theorem State.raiseFault_steady (s : State) {k : FaultKind} (hk : isChamberKind k = true) (src : FaultSource) (l n : Bool)
    (i : Item) (b : Option (Nat × Step)) : (s.raiseFault k src l n i b).steady = s.steady := by
  unfold State.raiseFault
  split
  · rename_i r hr
    have hkind : r.kind = k := by
      have := List.find?_some hr
      simp only [Bool.and_eq_true, beq_iff_eq] at this
      exact this.1
    rw [← hkind] at hk
    exact s.changeFault_steady (s.faultOf_mem hr) rfl hk hk
  · split
    · rename_i hroom
      exact s.newFault_steady hk src l _ hroom
    · have hcauses : (s.hand.toHalt ++ [HaltCause.faultTableFull]).filter (· != .faultTableFull) =
          s.hand.toHalt.filter (· != .faultTableFull) := by
        rw [List.filter_append]
        exact List.append_nil _
      have hset : (s.handCause .faultTableFull).steady = { s.steady with
          causes := (s.hand.toHalt ++ [HaltCause.faultTableFull]).filter (· != .faultTableFull) } := rfl
      rw [hset, hcauses]
      rfl

/-! ### The hand-overs -/

@[simp] theorem State.withdrawMove_steady (s : State) (i : Item) : (s.withdrawMove i).steady = s.steady := by
  unfold State.withdrawMove; repeat' split
  all_goals simp

@[simp] theorem State.orderStop_steady (s : State) (i : Item) : (s.orderStop i).steady = s.steady := by
  simp [State.orderStop]

@[simp] theorem State.orderMove_steady (s : State) (i : Item) (t : Target) :
    (s.orderMove i t).steady = s.steady := by
  simp [State.orderMove]

@[simp] theorem State.tryPlace_steady (s : State) (i : Item) : (s.tryPlace i).steady = s.steady := by
  unfold State.tryPlace; repeat' split
  all_goals simp

@[simp] theorem State.tryWithdraw_steady (s : State) (i : Item) : (s.tryWithdraw i).steady = s.steady := by
  unfold State.tryWithdraw; dsimp only; repeat' split
  all_goals simp

@[simp] theorem State.retest_steady (s : State) : s.retest.steady = s.steady := foldl_steady _ (by simp) _ _

@[simp] theorem State.supersede_steady (s : State) (a b : Owner) : (s.supersede a b).steady = s.steady := by
  unfold State.supersede; split <;> simp

@[simp] theorem State.requestNew_steady (s : State) (i : Item) (t : Target) (o : Owner) :
    (s.requestNew i t o).2.steady = s.steady := by
  unfold State.requestNew; dsimp only; split
  · rfl
  · rw [State.tryPlace_steady]
    exact s.setMovement_steady i _

@[simp] theorem State.requestJoin_steady (s : State) (i : Item) (m : Movement) (o : Owner) :
    (s.requestJoin i m o).2.steady = s.steady := by
  unfold State.requestJoin; split <;> simp

@[simp] theorem State.requestReverse_steady (s : State) (i : Item) (m : Movement) (t : Target) (o : Owner) :
    (s.requestReverse i m t o).2.steady = s.steady := by
  unfold State.requestReverse; dsimp only; repeat' split
  all_goals simp

@[simp] theorem State.requestMove_steady (s : State) (i : Item) (t : Target) (o : Owner) :
    (s.requestMove i t o).2.steady = s.steady := by
  unfold State.requestMove; repeat' split
  all_goals simp

@[simp] theorem State.requestStop_steady (s : State) (i : Item) : (s.requestStop i).steady = s.steady := by
  simp [State.requestStop]

@[simp] theorem State.deriveFace_steady (s : State) (f : Face) : (s.deriveFace f).steady = s.steady := by
  unfold State.deriveFace; dsimp only; split <;> simp

@[simp] theorem State.deriveFaces_steady (s : State) : s.deriveFaces.steady = s.steady :=
  foldl_steady _ (by simp) _ _

@[simp] theorem State.requestProceed_steady (s : State) (f : Face) (n : Nat) (st : Step) :
    (s.requestProceed f n st).steady = s.steady := by
  simp [State.requestProceed]

@[simp] theorem State.answerStopWait_steady (s : State) (f : Face) : (s.answerStopWait f).steady = s.steady := by
  unfold State.answerStopWait; repeat' split
  all_goals simp

@[simp] theorem State.requestFaceStop_steady (s : State) (f : Face) (n : Nat) (st : Step) :
    (s.requestFaceStop f n st).steady = s.steady := by
  simp [State.requestFaceStop]

@[simp] theorem State.withdrawStopWait_steady (s : State) (f : Face) (n : Nat) :
    (s.withdrawStopWait f n).steady = s.steady := by
  unfold State.withdrawStopWait; repeat' split
  all_goals simp

@[simp] theorem State.evaluateReceipts_steady (s : State) : s.evaluateReceipts.steady = s.steady := by
  unfold State.evaluateReceipts; dsimp only; split
  · rfl
  · simp only [State.noticeReceipts, State.notify_steady]; rfl

@[simp] theorem State.evaluateHold_steady (s : State) : s.evaluateHold.steady = s.steady := by
  unfold State.evaluateHold; dsimp only; split
  · rfl
  · simp only [State.notify_steady]; rfl

@[simp] theorem State.evaluateQueue_steady (s : State) (d : Direction) :
    (s.evaluateQueue d).steady = s.steady := by
  unfold State.evaluateQueue; dsimp only; split
  · rfl
  · simp only [State.notify_steady]; cases d <;> rfl

@[simp] theorem State.noticeAdmitted_steady (s : State) (b : Batch) : (s.noticeAdmitted b).steady = s.steady := by
  simp [State.noticeAdmitted]

@[simp] theorem State.admitBatch_steady (s : State) (d : Direction) (ms : List Passage) :
    (s.admitBatch d ms).steady = s.steady := by
  unfold State.admitBatch; dsimp only; split
  · rfl
  · have h : ∀ (t : State) (bs : List Batch) (n : Nat),
        (t.setTraffic (admitHistory { t.traffic with batches := bs, nextBatch := n } d)).steady = t.steady := by
      intro t bs n; unfold admitHistory; split <;> rfl
    simp [h]

@[simp] theorem State.testOrder_steady (s : State) (o : KeeperOrder) : (s.testOrder o).steady = s.steady := by
  unfold State.testOrder; repeat' split
  all_goals simp

@[simp] theorem State.evaluateAdmission_steady (s : State) : s.evaluateAdmission.steady = s.steady := by
  unfold State.evaluateAdmission; repeat' split
  all_goals simp

@[simp] theorem State.noticeSuspended_steady (s : State) (b : Batch) (rs : List Reason) :
    (s.noticeSuspended b rs).steady = s.steady := by
  simp [State.noticeSuspended]

@[simp] theorem State.addReason_steady (s : State) (n : Nat) (r : Reason) : (s.addReason n r).steady = s.steady := by
  unfold State.addReason; dsimp only; repeat' split
  all_goals simp

@[simp] theorem addAnswer_steady (n : Nat) (a : MoveAnswer × State) : (addAnswer n a).steady = a.2.steady := by
  unfold addAnswer; split <;> simp

@[simp] theorem State.withdrawTarget_steady (s : State) (st : Step) (p : Phase) :
    (s.withdrawTarget st p).steady = s.steady := by
  unfold State.withdrawTarget; split <;> simp

@[simp] theorem State.safeRequests_steady (s : State) (n : Nat) (d : Direction) (st : Step) (p : Phase) :
    (s.safeRequests n d st p).steady = s.steady := by
  unfold State.safeRequests; split <;> simp

@[simp] theorem State.makeSafe_steady (s : State) (b : Batch) : (s.makeSafe b).steady = s.steady := by
  unfold State.makeSafe; dsimp only; repeat' split
  all_goals simp

@[simp] theorem State.suspend_steady (s : State) (n : Nat) (r : Reason) : (s.suspend n r).steady = s.steady := by
  unfold State.suspend; repeat' split
  all_goals simp

@[simp] theorem State.startUpClose_steady (s : State) : s.startUpClose.steady = s.steady := by
  unfold State.startUpClose; split <;> rfl

@[simp] theorem State.noticeStepDone_steady (s : State) (b : Batch) (m : Bool) :
    (s.noticeStepDone b m).steady = s.steady := by
  simp [State.noticeStepDone]

@[simp] theorem State.endWaterStep_steady (s : State) (b : Batch) (m : Bool) :
    (s.endWaterStep b m).steady = s.steady := by
  unfold State.endWaterStep; dsimp only; split <;> simp

@[simp] theorem State.noticeComplete_steady (s : State) (b : Batch) (rs : List Receipt) (c : Nat) :
    (s.noticeComplete b rs c).steady = s.steady := by
  simp [State.noticeComplete]

@[simp] theorem State.completeBatch_steady (s : State) (b : Batch) : (s.completeBatch b).steady = s.steady := by
  simp [State.completeBatch]

@[simp] theorem State.endGateStep_steady (s : State) (b : Batch) : (s.endGateStep b).steady = s.steady := by
  unfold State.endGateStep; dsimp only; split <;> simp

@[simp] theorem State.endStep_steady (s : State) (b : Batch) : (s.endStep b).steady = s.steady := by
  unfold State.endStep; split <;> simp

@[simp] theorem State.requestClose_steady (s : State) (n : Nat) : (s.requestClose n).steady = s.steady := by
  unfold State.requestClose; dsimp only; repeat' split
  all_goals simp

@[simp] theorem State.nameTarget_steady (s : State) (st : Step) : (s.nameTarget st).steady = s.steady := by
  unfold State.nameTarget; split <;> simp

@[simp] theorem State.requestOpen_steady (s : State) (b : Batch) : (s.requestOpen b).steady = s.steady := by
  unfold State.requestOpen; dsimp only; repeat' split
  all_goals simp

theorem State.stepFault_steady (s : State) (b : Batch) {k : FaultKind} (hk : isChamberKind k = true)
    (c : Chamber) (r : Reason) : (s.stepFault b k c r).steady = s.steady :=
  (State.suspend_steady _ _ _).trans (s.raiseFault_steady hk _ _ _ _ _)

@[simp] theorem State.buildList_steady (s : State) (b : Batch) (r : StepRec) (c : Chamber)
    (t : LevelTarget) : (s.buildList b r c t).steady = s.steady := by
  unfold State.buildList
  split
  · exact s.stepFault_steady b rfl c _
  · rfl

@[simp] theorem State.noRoom_steady (s : State) (b : Batch) (r : StepRec) (i : Item) :
    (s.noRoom b r i).steady = s.steady := by
  unfold State.noRoom
  dsimp only
  split
  · exact s.suspend_steady _ _
  · split
    · exact s.stepFault_steady b rfl _ _
    · rfl

@[simp] theorem State.roomCheck_steady (s : State) (b : Batch) (r : StepRec) (i : Item) :
    (s.roomCheck b r i).steady = s.steady := by
  unfold State.roomCheck; split <;> simp

@[simp] theorem State.waterTests_steady (s : State) (b : Batch) (r : StepRec) (i : Item) (e : WaterEnd) :
    (s.waterTests b r i e).steady = s.steady := by
  unfold State.waterTests; repeat' split
  all_goals simp

@[simp] theorem State.closeWater_steady (s : State) (b : Batch) : (s.closeWater b).steady = s.steady := by
  simp [State.closeWater]

@[simp] theorem State.enterOpen_steady (s : State) (b : Batch) (g : Station) :
    (s.enterOpen b g).steady = s.steady := by
  simp [State.enterOpen]

@[simp] theorem State.tryReady_steady (s : State) (b : Batch) (g : Station) :
    (s.tryReady b g).steady = s.steady := by
  unfold State.tryReady; dsimp only; repeat' split
  all_goals simp

@[simp] theorem State.enterStopping_steady (s : State) (b : Batch) (g : Station) :
    (s.enterStopping b g).steady = s.steady := by
  simp [State.enterStopping]

@[simp] theorem State.moveReady_steady (s : State) (b : Batch) (g : Station) :
    (s.moveReady b g).steady = s.steady := by
  simp [State.moveReady]

@[simp] theorem State.takeClaims_steady (s : State) (b : Batch) : (s.takeClaims b).steady = s.steady := by
  unfold State.takeClaims; dsimp only; repeat' split
  all_goals simp

@[simp] theorem State.batchRoundEnd_steady (s : State) (n : Nat) : (s.batchRoundEnd n).steady = s.steady := by
  unfold State.batchRoundEnd; dsimp only; repeat' split
  all_goals simp

@[simp] theorem State.batchGateReport_steady (s : State) (n : Nat) :
    (s.batchGateReport n).steady = s.steady := by
  unfold State.batchGateReport; repeat' split
  all_goals simp

@[simp] theorem State.takeComplete_steady (s : State) (n : Nat) (i : Item) (t : Target) :
    (s.takeComplete n i t).steady = s.steady := by
  unfold State.takeComplete; repeat' split
  all_goals simp

@[simp] theorem State.takeTaken_steady (s : State) (n : Nat) (i : Item) (t : Target) :
    (s.takeTaken n i t).steady = s.steady := by
  unfold State.takeTaken; dsimp only; repeat' split
  all_goals simp

@[simp] theorem State.takeJoined_steady (s : State) (i : Item) : (s.takeJoined i).steady = s.steady := by
  unfold State.takeJoined; split <;> simp

@[simp] theorem State.takeFaceStopped_steady (s : State) (n : Nat) (st : Step) :
    (s.takeFaceStopped n st).steady = s.steady := by
  unfold State.takeFaceStopped; repeat' split
  all_goals simp

@[simp] theorem State.takeProceed_steady (s : State) (f : Face) : (s.takeProceed f).steady = s.steady := by
  refine foldl_steady _ (fun s b => ?_) _ _
  repeat' split
  all_goals simp

@[simp] theorem State.suspendWhere_steady (s : State) (p : Batch → Bool) (r : Reason) :
    (s.suspendWhere p r).steady = s.steady := foldl_steady _ (by simp) _ _

@[simp] theorem State.deliver_steady (s : State) (e : RunEvent) : (s.deliver e).steady = s.steady := by
  cases e <;> simp only [State.deliver, State.takeComplete_steady, State.suspend_steady,
    State.takeTaken_steady, State.takeJoined_steady, State.takeFaceStopped_steady, State.takeProceed_steady,
    State.suspendWhere_steady, State.closeSegments_steady]
  · exact foldl_steady _ (by simp) _ _
  · exact (foldl_steady _ (by simp) _ _).trans (by simp)

/-- The one hand-over a round takes. -/
theorem State.settleOne_cases {s t : State} (h : s.settleOne = some t) :
    (∃ e rest, s.hand.toRun = e :: rest ∧ t = s.popEvent.deliver e) ∨
      s.hand.toRun = [] ∧
        ((∃ b, s.traffic.batches.find? s.canClaim = some b ∧ t = s.takeClaims b) ∨
          (s.hand.evaluate = true ∧
            t = ({ s with hand := { s.hand with evaluate := false } } : State).evaluateAdmission) ∨
          (s.hand.retest = true ∧ t = ({ s with hand := { s.hand with retest := false } } : State).retest)) := by
  unfold State.settleOne at h
  split at h
  · rename_i e rest he
    exact .inl ⟨e, rest, he, (Option.some.inj h).symm⟩
  · rename_i he
    refine .inr ⟨he, ?_⟩
    split at h
    · rename_i b hb
      exact .inl ⟨b, hb, (Option.some.inj h).symm⟩
    · split at h
      · exact .inr (.inl ⟨by assumption, (Option.some.inj h).symm⟩)
      · split at h
        · exact .inr (.inr ⟨by assumption, (Option.some.inj h).symm⟩)
        · exact nomatch h

/-- What each round keeps, the rounds keep. -/
theorem State.settleLoop_keeps {I : State → Prop} (h : ∀ s t, s.settleOne = some t → I s → I t) (n : Nat) :
    ∀ s, I s → I (State.settleLoop n s) := by
  induction n with
  | zero => exact fun _ hs => hs
  | succ n ih =>
    intro s hs
    unfold State.settleLoop
    split
    · rename_i t ht
      exact ih t (h s t ht hs)
    · exact hs

theorem State.settleOne_steady {s t : State} (h : s.settleOne = some t) : t.steady = s.steady := by
  rcases State.settleOne_cases h with ⟨e, rest, -, rfl⟩ | ⟨-, ⟨b, -, rfl⟩ | ⟨-, rfl⟩ | ⟨-, rfl⟩⟩
  · exact State.deliver_steady _ _
  · exact State.takeClaims_steady _ _
  · exact State.evaluateAdmission_steady _
  · exact State.retest_steady _

@[simp] theorem State.settleLoop_steady (n : Nat) (s : State) : (State.settleLoop n s).steady = s.steady :=
  State.settleLoop_keeps (I := fun t => t.steady = s.steady) (fun _ _ h hs => (State.settleOne_steady h).trans hs) n s rfl

@[simp] theorem State.indications_steady (s : State) : s.indications.steady = s.steady := by
  simp [State.indications]

end Sys2Proof.Machine
end

section
/-! WHAT A STEP'S END KEEPS OF WHAT IT TOOK IN: while the line rate stands, all that the stations reported; and every
cause handed to Halt Control halts the flight. -/

namespace Sys2Proof.Machine

/-- What an entry into HALTED may change of what a step took in: an entry at FAST brings the line to SLOW, and its
stations out of step. -/
structure State.Stands (s t : State) : Prop where
  seen : t.seen = s.seen ∨ s.line.rate = .fast ∧ t.line.rate = .slow
  poll : s.line.poll = none → t.line.poll = none
  slot : s.line.slot = none → t.line.slot = none
  blank : ∀ k, s.mach.overload.get k = ⟨none, none⟩ → t.mach.overload.get k = ⟨none, none⟩
  halted : ∀ c ∈ s.halt.causes, s.halt.state = .halted → t.halt.state = .halted ∧ c ∈ t.halt.causes

section

variable {s t u : State}

theorem State.Stands.of_steady (h : t.steady = s.steady) : s.Stands t := by
  have hhalt : t.halt = s.halt := congrArg Steady.halt h
  have hpoll : t.line.poll = s.line.poll := congrArg Steady.poll h
  have hslot : t.line.slot = s.line.slot := congrArg Steady.slot h
  have hblank : t.mach.overload = s.mach.overload := congrArg Steady.overload h
  exact ⟨.inl (congrArg Steady.seen h), fun hp => hpoll.trans hp, fun hs => hslot.trans hs,
    fun k hk => by rw [hblank, hk], fun c hc hs => by rw [hhalt]; exact ⟨hs, hc⟩⟩

theorem State.Stands.trans (h : s.Stands t) (k : t.Stands u) : s.Stands u := by
  refine ⟨?_, fun hp => k.poll (h.poll hp), fun hs => k.slot (h.slot hs), fun j hj => k.blank j (h.blank j hj),
    fun c hc hs => ?_⟩
  · rcases k.seen with hk | ⟨hfast, hslow⟩
    · rcases h.seen with hs | ⟨hfast, hslow⟩
      · exact .inl (hk.trans hs)
      · exact .inr ⟨hfast, (congrArg Seen.rate hk).trans hslow⟩
    · rcases h.seen with hs | ⟨-, hslow⟩
      · exact .inr ⟨(congrArg Seen.rate hs).symm.trans hfast, hslow⟩
      · rw [hslow] at hfast
        exact nomatch hfast
  · obtain ⟨ht, hct⟩ := h.halted c hc hs
    exact k.halted c hct ht

/-- While the line rate stands, all that is seen stands. -/
theorem State.Stands.seen_of_rate (h : s.Stands t) (hr : t.line.rate = s.line.rate) : t.seen = s.seen :=
  h.seen.resolve_right fun ⟨hfast, hslow⟩ => by rw [hfast, hslow] at hr; exact nomatch hr

theorem State.Stands.foldl {α : Type} {f : State → α → State} (h : ∀ s a, State.Stands s (f s a)) (xs : List α)
    (s : State) : s.Stands (xs.foldl f s) :=
  foldl_keeps (I := s.Stands) (fun _ _ ht => ht.trans (h _ _)) xs s (.of_steady rfl)

end

section

variable (s : State)

/-! ### The round ends and the queues are emptied -/

@[simp] theorem State.markUnanswered_steady (i : Item) (o : ItemOrder) : (s.markUnanswered i o).steady = s.steady := by
  unfold State.markUnanswered
  repeat' split
  all_goals simp

@[simp] theorem State.failCarried_steady (k : Station) : (s.failCarried k).steady = s.steady := by
  unfold State.failCarried
  repeat' split
  all_goals simp

theorem State.abortRound_steady :
    s.abortRound.steady = { s.steady with poll := none, slot := none } := by
  have hslot : ∀ t : State, (t.setSlot none).steady = { t.steady with slot := none } := fun _ => rfl
  unfold State.abortRound
  split
  · rw [hslot, State.failCarried_steady]
    rfl
  · rename_i hp
    rw [hslot]
    unfold State.steady
    rw [hp]

@[simp] theorem State.emptyQueues_steady : s.emptyQueues.steady = s.steady := foldl_steady _ (by simp) _ _

@[simp] theorem State.cancelMovements_steady : s.cancelMovements.steady = s.steady := by
  have hpos : (fun i => (s.cancelMovements.item i).position) = fun i => (s.item i).position := by
    funext i
    cases i with
    | gate k => cases k <;> rfl
    | sluice k => cases k <;> rfl
    | byWash w => cases w <;> rfl
  simp only [State.steady, State.seen, hpos]
  rfl

@[simp] theorem State.dropFaceRequests_steady : s.dropFaceRequests.steady = s.steady :=
  foldl_steady _ (fun t f => t.askFace_steady f _ none none) _ _

@[simp] theorem State.noticeHalt_steady : s.noticeHalt.steady = s.steady := by simp [State.noticeHalt]

theorem State.noticeHalt_halt : s.noticeHalt.halt = s.halt := congrArg Steady.halt s.noticeHalt_steady

theorem State.haltTail_steady : s.haltTail.steady = s.steady := by
  unfold State.haltTail
  rw [State.noticeHalt_steady]
  exact (foldl_steady _ (fun t n => t.emit_steady _) _ _).trans s.dropFaceRequests_steady

/-! ### A change of rate -/

theorem State.changeFault_overload (old new : FaultRec) :
    (s.changeFault old new).mach.overload = s.mach.overload := by
  unfold State.changeFault
  split
  · rfl
  · rw [State.noticeRaised, State.notify_withNotices]
    rfl

theorem State.stationUnsynced_overload (k : Station) :
    (s.stationUnsynced k).mach.overload = s.mach.overload.set k { expiry := none, aside := none } := by
  have hreadings : (s.loseReadings k).mach.overload = s.mach.overload := by
    unfold State.loseReadings
    dsimp only
    split <;> split <;> rfl
  have hpositions : ∀ t : State, (t.forgetPositions k).mach.overload = t.mach.overload := fun t =>
    foldl_frame (f := fun u i => u.setItem i { u.item i with position := none }) (·.mach.overload) (fun _ _ => rfl) _ t
  have hinputs : ∀ t : State, (t.loseInputs k).mach.overload =
      t.mach.overload.set k { expiry := none, aside := none } := fun t =>
    foldl_frame (·.mach.overload) (fun u r => u.changeFault_overload r _) _ _
  refine (hinputs _).trans ?_
  rw [hpositions, hreadings]

theorem State.enterStation_unsynced_overload (k j : Station) (h : s.mach.overload.get j = ⟨none, none⟩) :
    (s.enterStation k .unsynced 0).mach.overload.get j = ⟨none, none⟩ := by
  have hset : ∀ t : State, (t.noticeStation k none).mach.overload = t.mach.overload := fun t => by
    rw [State.noticeStation, State.notify_withNotices]
    rfl
  unfold State.enterStation
  dsimp only
  split
  · exact h
  · rw [hset, State.stationEffects, State.stationUnsynced_overload, Quad.get_set]
    split
    · rfl
    · exact h

theorem State.unsyncAll_blank (j : Station) (h : s.mach.overload.get j = ⟨none, none⟩) :
    s.unsyncAll.mach.overload.get j = ⟨none, none⟩ := by
  refine foldl_keeps (I := fun t => t.mach.overload.get j = ⟨none, none⟩) (fun t k ht => ?_) allStations s h
  split
  · exact ht
  · exact t.enterStation_unsynced_overload k j ht

/-- Out of step, the stations of the line keep its rate and its round. -/
theorem State.unsyncAll_line :
    s.unsyncAll.line = { s.line with stations := s.unsyncAll.line.stations } := by
  refine foldl_keeps (I := fun t => t.line = { s.line with stations := t.line.stations }) (fun t k ht => ?_) allStations s rfl
  split
  · exact ht
  · rw [State.enterStation_unsynced_line]
    have hset : ∀ r : StationRec, (t.setStation k r).line =
        { t.line with stations := (t.setStation k r).line.stations } := fun _ => rfl
    rw [hset, ht]

theorem State.unsyncAll_halt : s.unsyncAll.halt = s.halt := by
  have hfault : ∀ (t : State) (a b : FaultRec), (t.changeFault a b).halt = t.halt := fun t a b => by
    unfold State.changeFault
    split
    · rfl
    · rw [State.noticeRaised, State.notify_withNotices]
      rfl
  have hreadings : ∀ (t : State) (k : Station), (t.loseReadings k).halt = t.halt := fun t k => by
    unfold State.loseReadings
    dsimp only
    split <;> split <;> rfl
  have hpositions : ∀ (t : State) (k : Station), (t.forgetPositions k).halt = t.halt := fun t k =>
    foldl_frame (f := fun u i => u.setItem i { u.item i with position := none }) (·.halt) (fun _ _ => rfl) _ t
  have hinputs : ∀ (t : State) (k : Station), (t.loseInputs k).halt = t.halt := fun t k =>
    foldl_frame (·.halt) (fun u r => hfault u r _) _ _
  refine foldl_frame (·.halt) (fun t k => ?_) _ s
  split
  · rfl
  · unfold State.enterStation
    dsimp only
    split
    · rfl
    · rw [State.noticeStation, State.notify_withNotices]
      exact (hinputs _ k).trans ((hpositions _ k).trans (hreadings _ k))

theorem State.changeRate_line (r : LineRate) :
    (s.changeRate r).line.rate = r ∧ (s.changeRate r).line.poll = none ∧ (s.changeRate r).line.slot = none := by
  have hround := s.abortRound_steady
  have hpoll : s.abortRound.line.poll = none := congrArg Steady.poll hround
  have hslot : s.abortRound.line.slot = none := congrArg Steady.slot hround
  unfold State.changeRate
  rw [State.unsyncAll_line]
  exact ⟨rfl, hpoll, hslot⟩

/-! ### An entry into HALTED -/

theorem State.lineHalted_slow (c : HaltCause) (hr : s.line.rate = .slow) :
    (s.lineHalted c).steady = s.steady ∨
      (s.lineHalted c).steady = { s.steady with poll := none, slot := none, pulse := true } := by
  have hround := s.abortRound_steady
  have hrate : s.abortRound.line.rate = .slow := (congrArg (·.seen.rate) hround).trans hr
  have hslow : ∀ t : State, t.line.rate = .slow → (if t.line.rate = .fast then t.changeRate .slow else t) = t :=
    fun t ht => if_neg fun hf => by rw [ht] at hf; exact nomatch hf
  unfold State.lineHalted
  dsimp only
  split
  · left
    rw [hslow _ ((congrArg (·.seen.rate) s.emptyQueues_steady).trans hr), State.emptyQueues_steady]
  · right
    have hset : ∀ t : State, (t.setLine { t.line with pulse := true }).steady = { t.steady with pulse := true } :=
      fun _ => rfl
    rw [hslow, State.emptyQueues_steady, hset, hround]
    exact (congrArg (·.seen.rate) (State.emptyQueues_steady _)).trans hrate

theorem State.lineHalted_fast (c : HaltCause) (hr : s.line.rate = .fast) :
    ∃ t : State, s.lineHalted c = t.changeRate .slow ∧ t.mach.overload = s.mach.overload ∧ t.halt = s.halt := by
  have hround := s.abortRound_steady
  have hrate : s.abortRound.line.rate = .fast := (congrArg (·.seen.rate) hround).trans hr
  have hfast : ∀ t : State, t.line.rate = .fast → (if t.line.rate = .fast then t.changeRate .slow else t) =
      t.changeRate .slow := fun t ht => if_pos ht
  unfold State.lineHalted
  dsimp only
  split
  · exact ⟨_, hfast _ ((congrArg (·.seen.rate) s.emptyQueues_steady).trans hr),
      congrArg Steady.overload s.emptyQueues_steady, congrArg Steady.halt s.emptyQueues_steady⟩
  · refine ⟨_, hfast _ ((congrArg (·.seen.rate) (State.emptyQueues_steady _)).trans hrate),
      (congrArg Steady.overload (State.emptyQueues_steady _)).trans (congrArg Steady.overload hround),
      (congrArg Steady.halt (State.emptyQueues_steady _)).trans (congrArg Steady.halt hround)⟩

end

section

variable {s : State}

theorem State.lineHalted_stands (c : HaltCause) : (s.lineHalted c).line.rate = .slow ∧
    ((s.lineHalted c).seen = s.seen ∨ s.line.rate = .fast) ∧
    (s.line.poll = none → (s.lineHalted c).line.poll = none) ∧
    (s.line.slot = none → (s.lineHalted c).line.slot = none) ∧
    ∀ k, s.mach.overload.get k = ⟨none, none⟩ → (s.lineHalted c).mach.overload.get k = ⟨none, none⟩ := by
  cases hr : s.line.rate with
  | slow =>
    rcases s.lineHalted_slow c hr with h | h
    · have hst := State.Stands.of_steady h
      exact ⟨(congrArg (·.seen.rate) h).trans hr, .inl (congrArg Steady.seen h), hst.poll, hst.slot, hst.blank⟩
    · have hblank : (s.lineHalted c).mach.overload = s.mach.overload := congrArg Steady.overload h
      exact ⟨(congrArg (·.seen.rate) h).trans hr, .inl (congrArg Steady.seen h), fun _ => congrArg Steady.poll h,
        fun _ => congrArg Steady.slot h, fun k hk => by rw [hblank, hk]⟩
  | fast =>
    obtain ⟨t, ht, hblank, -⟩ := s.lineHalted_fast c hr
    obtain ⟨hrate, hpoll, hslot⟩ := t.changeRate_line .slow
    rw [ht]
    refine ⟨hrate, .inr rfl, fun _ => hpoll, fun _ => hslot, fun k hk => ?_⟩
    refine State.unsyncAll_blank _ k ?_
    have hround : t.abortRound.mach.overload = t.mach.overload := congrArg Steady.overload t.abortRound_steady
    exact (congrArg (Quad.get · k) (hround.trans hblank)).trans hk

theorem State.lineHalted_halt (c : HaltCause) : (s.lineHalted c).halt = s.halt := by
  cases hr : s.line.rate with
  | slow => rcases s.lineHalted_slow c hr with h | h <;> exact congrArg Steady.halt h
  | fast =>
    obtain ⟨t, ht, -, hhalt⟩ := s.lineHalted_fast c hr
    have hround : t.abortRound.halt = t.halt := congrArg Steady.halt t.abortRound_steady
    rw [ht]
    exact (State.unsyncAll_halt _).trans (hround.trans hhalt)

theorem State.enterHalt_steady (c : HaltCause) :
    (s.enterHalt c).steady = (((s.haltedBy c).lineHalted c)).steady := by
  rw [State.enterHalt_eq, State.haltTail_steady, State.cancelMovements_steady]

theorem State.enterHalt_halted (c : HaltCause) :
    (s.enterHalt c).halt = { s.halt with
      state := .halted, causes := [c], entry := c, awaited := Quad.const none } :=
  (congrArg Steady.halt (State.enterHalt_steady c)).trans (State.lineHalted_halt c)

theorem State.enterHalt_stands (c : HaltCause) (h : s.halt.state ≠ .halted) : s.Stands (s.enterHalt c) := by
  have he := State.enterHalt_steady (s := s) c
  obtain ⟨hrate, hseen, hpoll, hslot, hblank⟩ := State.lineHalted_stands (s := s.haltedBy c) c
  have hrate' : (s.enterHalt c).line.rate = .slow := (congrArg (·.seen.rate) he).trans hrate
  have hk : (s.enterHalt c).mach.overload = ((s.haltedBy c).lineHalted c).mach.overload := congrArg Steady.overload he
  exact ⟨hseen.imp (fun hs => (congrArg Steady.seen he).trans hs) fun hf => ⟨hf, hrate'⟩,
    fun hp => (congrArg Steady.poll he).trans (hpoll hp), fun hp => (congrArg Steady.slot he).trans (hslot hp),
    fun k hb => by rw [hk]; exact hblank k hb, fun _ _ hh => absurd hh h⟩

/-- More causes of a halt that stands. -/
theorem State.haltedMore_stands {cs : List HaltCause} (hcs : ∀ c ∈ s.halt.causes, c ∈ cs) :
    s.Stands ({ s with halt := { s.halt with causes := cs } } : State).noticeHalt := by
  have hs : (({ s with halt := { s.halt with causes := cs } } : State).noticeHalt).steady =
      { s.steady with halt := { s.halt with causes := cs } } := State.noticeHalt_steady _
  have hpoll : (({ s with halt := { s.halt with causes := cs } } : State).noticeHalt).line.poll = s.line.poll :=
    congrArg Steady.poll hs
  have hslot : (({ s with halt := { s.halt with causes := cs } } : State).noticeHalt).line.slot = s.line.slot :=
    congrArg Steady.slot hs
  have hblank : (({ s with halt := { s.halt with causes := cs } } : State).noticeHalt).mach.overload = s.mach.overload :=
    congrArg Steady.overload hs
  refine ⟨.inl (congrArg Steady.seen hs), hpoll.trans, hslot.trans, fun k hk => by rw [hblank, hk], fun c hc hh => ?_⟩
  rw [show (({ s with halt := { s.halt with causes := cs } } : State).noticeHalt).halt = { s.halt with causes := cs } from
    congrArg Steady.halt hs]
  exact ⟨hh, hcs c hc⟩

theorem mem_allCauses (c : HaltCause) : c ∈ allCauses := by cases c <;> decide

theorem mem_insertIn_causes {c x : HaltCause} {cs : List HaltCause} : c ∈ insertIn allCauses x cs ↔ c = x ∨ c ∈ cs := by
  simp [insertIn, mem_allCauses]

/-- A cause taken leaves the flight HALTED with it. -/
theorem State.takeCause_halts (c : HaltCause) : (s.takeCause c).halt.state = .halted ∧ c ∈ (s.takeCause c).halt.causes := by
  unfold State.takeCause
  split
  · rename_i hh
    split
    · rename_i hc
      exact ⟨hh, List.contains_iff_mem.1 hc⟩
    · rw [State.noticeHalt_halt]
      exact ⟨hh, mem_insertIn_causes.2 (.inl rfl)⟩
  · rw [State.enterHalt_halted]
    exact ⟨rfl, List.mem_singleton_self c⟩

theorem State.takeCause_stands (c : HaltCause) : s.Stands (s.takeCause c) := by
  unfold State.takeCause
  split
  · split
    · exact .of_steady rfl
    · exact State.haltedMore_stands fun x hx => mem_insertIn_causes.2 (.inr hx)
  · rename_i hh
    exact State.enterHalt_stands c hh

theorem State.takeCauses_stands (s : State) : s.Stands s.takeCauses := by
  have hset : s.Stands { s with hand := { s.hand with toHalt := [] } } :=
    ⟨.inl rfl, id, id, fun _ => id, fun _ hc hh => ⟨hh, hc⟩⟩
  exact hset.trans (State.Stands.foldl (fun t c => State.takeCause_stands c) _ _)

theorem State.takeCauses_halts {c : HaltCause} (hc : c ∈ s.hand.toHalt) :
    s.takeCauses.halt.state = .halted ∧ c ∈ s.takeCauses.halt.causes := by
  have hall : ∀ (cs : List HaltCause) (t : State), c ∈ cs →
      (cs.foldl (fun t c => t.takeCause c) t).halt.state = .halted ∧
        c ∈ (cs.foldl (fun t c => t.takeCause c) t).halt.causes := by
    intro cs
    induction cs with
    | nil => exact fun t h => nomatch h
    | cons x xs ih =>
      intro t h
      rcases List.mem_cons.1 h with rfl | h
      · obtain ⟨hh, hm⟩ := State.takeCause_halts (s := t) c
        exact (State.Stands.foldl (fun t c => State.takeCause_stands c) xs (t.takeCause c)).halted c hm hh
      · exact ih _ h
  exact hall _ _ hc

/-! ### The end of a step -/

/-- The end of a step: two series of hand-overs, each with the causes handed in it. -/
theorem State.finish_eq (s : State) : s.finish = ((State.settleLoop settleFuel
    (State.settleLoop settleFuel s).takeCauses).takeCauses).deriveFaces.indications := rfl

theorem State.settleLoop_stands (n : Nat) (s : State) : s.Stands (State.settleLoop n s) :=
  .of_steady (State.settleLoop_steady n s)

theorem State.finalFaces_stands (s : State) : s.Stands s.deriveFaces.indications := .of_steady (by simp)

theorem State.finish_stands (s : State) : s.Stands s.finish := by
  rw [State.finish_eq]
  exact (((State.settleLoop_stands _ s).trans (State.takeCauses_stands _)).trans
    ((State.settleLoop_stands _ _).trans (State.takeCauses_stands _))).trans (State.finalFaces_stands _)

/-- A cause handed to Halt Control halts the flight. -/
theorem State.finish_halts {c : HaltCause} (hc : c ∈ s.hand.toHalt) (hf : c ≠ .faultTableFull) :
    s.finish.halt.state = .halted ∧ c ∈ s.finish.halt.causes := by
  have hkept : c ∈ (State.settleLoop settleFuel s).hand.toHalt := by
    have hcauses : (State.settleLoop settleFuel s).hand.toHalt.filter (· != .faultTableFull) =
        s.hand.toHalt.filter (· != .faultTableFull) := congrArg Steady.causes (State.settleLoop_steady settleFuel s)
    have hmem : c ∈ s.hand.toHalt.filter (· != .faultTableFull) := List.mem_filter.2 ⟨hc, bne_iff_ne.2 hf⟩
    rw [← hcauses] at hmem
    exact (List.mem_filter.1 hmem).1
  obtain ⟨hh, hm⟩ := State.takeCauses_halts hkept
  rw [State.finish_eq]
  exact ((State.settleLoop_stands settleFuel _).trans
    ((State.takeCauses_stands _).trans (State.finalFaces_stands _))).halted c hm hh

end

end Sys2Proof.Machine
end

section
/-! WHAT THE STATIONS TOLD: the rate and states of the line, the positions, aspects and readings last reported, through
the acts of an answer, of an alarm frame and of a failed poll, and through the end of a step. Failed polls (O37). -/

namespace Sys2Proof.Machine

/-! ### The flight a command leaves -/

/-- `t` has the flight of `u`: all but its console, its store and its hand-overs. -/
structure State.SameFlight (u t : State) : Prop where
  fixed : t.fixed = u.fixed
  line : t.line = u.line
  level : t.level = u.level
  mach : t.mach = u.mach
  signal : t.signal = u.signal
  halt : t.halt = u.halt
  traffic : t.traffic = u.traffic
  toll : t.toll = u.toll
  receipts : t.receipts = u.receipts

theorem exec_event_flight {c : Instr} {act : State → State} (hc : eventAct c = some act) {s : State}
    (hp : s.powered = true) : ∃ t, exec c s = .next t ∧ (act s).SameFlight t := by
  refine ⟨_, (exec_event hc s).trans (congrArg _ (if_pos hp)), ?_⟩
  rw [State.commit_eq]
  exact ⟨rfl, rfl, rfl, rfl, rfl, rfl, rfl, rfl, rfl⟩

/-- An event that leaves the state as it is, powered or not. -/
theorem exec_event_idle {c : Instr} {act : State → State} (hc : eventAct c = some act) {s : State} (h : act s = s) :
    exec c s = .next s := by
  rw [exec_event hc, State.event]
  split
  · rw [h, State.commit, if_pos rfl]
  · rfl

theorem State.SameFlight.seen {u t : State} (h : u.SameFlight t) : t.seen = u.seen := by
  simp only [State.seen, State.station, State.item, State.face, State.chamber, State.stationFaults, h.line, h.mach,
    h.signal, h.level]

/-! ### What the stations told -/

/-- The rate, the states of the stations, and what they last reported. -/
structure Told where
  rate : LineRate
  poll : Option Poll
  stations : Station → StationState × Nat
  positions : Item → Option Position
  aspects : Face → Option Aspect
  uppers : Chamber → Option Nat
  lowers : Chamber → Option Nat
  crests : Chamber → Bool
  crest : Bool

def State.told (s : State) : Told :=
  { rate := s.line.rate, poll := s.line.poll
    stations := fun k => ((s.station k).state, (s.station k).failed)
    positions := fun i => (s.item i).position
    aspects := fun f => (s.face f).reported
    uppers := fun c => (s.chamber c).upper, lowers := fun c => (s.chamber c).lower
    crests := fun c => (s.chamber c).crest
    crest := decide (HaltCause.crest ∈ s.hand.toHalt) }

theorem State.crest_of_fixed {s t : State} (h : t.fixed = s.fixed) (c : Chamber) :
    (t.chamber c).crest = (s.chamber c).crest := by
  have hc : (⟨t.level.chambers.c1.fixed, t.level.chambers.c2.fixed, t.level.chambers.c3.fixed⟩ : Trio ChamberFixed) =
      ⟨s.level.chambers.c1.fixed, s.level.chambers.c2.fixed, s.level.chambers.c3.fixed⟩ := congrArg Fixed.chambers h
  simp only [Trio.mk.injEq] at hc
  obtain ⟨h1, h2, h3⟩ := hc
  cases c with
  | c1 => exact congrArg ChamberFixed.crest h1
  | c2 => exact congrArg ChamberFixed.crest h2
  | c3 => exact congrArg ChamberFixed.crest h3

theorem State.told_of_steady {s t : State} (h : t.steady = s.steady) (hf : t.fixed = s.fixed) : t.told = s.told := by
  have hseen : t.seen = s.seen := congrArg Steady.seen h
  have hrate : t.line.rate = s.line.rate := congrArg Seen.rate hseen
  have hpoll : t.line.poll = s.line.poll := congrArg Steady.poll h
  have hst : ∀ k, ((t.station k).state, (t.station k).failed) = ((s.station k).state, (s.station k).failed) :=
    congrFun (congrArg Seen.stations hseen)
  have hpos : ∀ i, (t.item i).position = (s.item i).position := congrFun (congrArg Seen.positions hseen)
  have hasp : ∀ f, (t.face f).reported = (s.face f).reported := fun f =>
    congrArg (·.1) (congrFun (congrArg Seen.faces hseen) f)
  have hup : ∀ c, (t.chamber c).upper = (s.chamber c).upper := fun c =>
    congrArg (·.1) (congrFun (congrArg Seen.readings hseen) c)
  have hlow : ∀ c, (t.chamber c).lower = (s.chamber c).lower := fun c =>
    congrArg (·.2) (congrFun (congrArg Seen.readings hseen) c)
  have hcrest : HaltCause.crest ∈ t.hand.toHalt ↔ HaltCause.crest ∈ s.hand.toHalt := by
    have hmem : ∀ u : State, HaltCause.crest ∈ u.hand.toHalt ↔ HaltCause.crest ∈ u.steady.causes := fun u => by
      simp [State.steady]
    rw [hmem, hmem, h]
  simp only [State.told, hrate, hpoll, hst, hpos, hasp, hup, hlow, State.crest_of_fixed hf, hcrest]

section

variable (s : State)

@[simp] theorem State.setMovement_told (i : Item) (m : Option Movement) : (s.setMovement i m).told = s.told :=
  State.told_of_steady (by simp) (by simp)

@[simp] theorem State.setCommand_told (i : Item) (c : CmdState) : (s.setCommand i c).told = s.told :=
  State.told_of_steady (by simp) (by simp)

@[simp] theorem State.setQueue_told (k : Station) (q : List QueueEntry) : (s.setQueue k q).told = s.told :=
  State.told_of_steady (by simp) (by simp)

@[simp] theorem State.notify_told (k : NoticeKind) (o : Nat) (p : List Field) : (s.notify k o p).told = s.told :=
  State.told_of_steady (by simp) (by simp)

@[simp] theorem State.orderStop_told (i : Item) : (s.orderStop i).told = s.told := State.told_of_steady (by simp) (by simp)

@[simp] theorem State.withdraw_told (i : Item) : (s.withdraw i).told = s.told := State.told_of_steady (by simp) (by simp)

@[simp] theorem State.withdrawMove_told (i : Item) : (s.withdrawMove i).told = s.told :=
  State.told_of_steady (by simp) (by simp)

@[simp] theorem State.placeFace_told (f : Face) (a : Aspect) : (s.placeFace f a).told = s.told :=
  State.told_of_steady (by simp) (by simp)

@[simp] theorem State.deriveFace_told (f : Face) : (s.deriveFace f).told = s.told :=
  State.told_of_steady (by simp) (by simp)

@[simp] theorem State.answerStopWait_told (f : Face) : (s.answerStopWait f).told = s.told :=
  State.told_of_steady (by simp) (by simp)

@[simp] theorem State.failCarried_told (k : Station) : (s.failCarried k).told = s.told :=
  State.told_of_steady (by simp) (by simp)

@[simp] theorem State.emit_told (e : RunEvent) : (s.emit e).told = s.told := rfl
@[simp] theorem State.markRetest_told : s.markRetest.told = s.told := rfl
@[simp] theorem State.markAlarm_told : s.markAlarm.told = s.told := rfl
@[simp] theorem State.setHeld_told (k : Station) (i : Input) (v : Option Bool) : (s.setHeld k i v).told = s.told := rfl
@[simp] theorem State.setOverload_told (k : Station) (o : OverloadBlank) : (s.setOverload k o).told = s.told := rfl
@[simp] theorem State.restartChangeover_told (c : Chamber) : (s.restartChangeover c).told = s.told := rfl
@[simp] theorem State.setFaults_told (fs : List FaultRec) : (s.setFaults fs).told = s.told := rfl
@[simp] theorem State.setPoll_told (p : Option Poll) : (s.setPoll p).told = { s.told with poll := p } := rfl
@[simp] theorem State.setUnrecorded_told (k : Station) (i : Input) (v : Bool) :
    (s.setUnrecorded k i v).told = s.told := rfl

theorem foldl_told {α : Type} (f : State → α → State) (h : ∀ s a, (f s a).told = s.told) (xs : List α) (s : State) :
    (xs.foldl f s).told = s.told := foldl_frame State.told h xs s

/-- A cause that is not CREST. -/
theorem State.handCause_told (c : HaltCause) (h : c ≠ .crest) : (s.handCause c).told = s.told := by
  have hmem : HaltCause.crest ∈ s.hand.toHalt ++ [c] ↔ HaltCause.crest ∈ s.hand.toHalt := by simp [h.symm]
  have hset : (s.handCause c).told = { s.told with crest := decide (HaltCause.crest ∈ s.hand.toHalt ++ [c]) } := rfl
  rw [hset]
  simp only [hmem]
  rfl

/-- A station's record takes the place of its old one. -/
theorem State.setStation_told (k : Station) (r : StationRec) :
    (s.setStation k r).told = { s.told with stations := Function.update s.told.stations k (r.state, r.failed) } := by
  have hst : (fun j => (((s.setStation k r).station j).state, ((s.setStation k r).station j).failed)) =
      Function.update (fun j => ((s.station j).state, (s.station j).failed)) k (r.state, r.failed) := by
    funext j
    rw [State.station_setStation, Function.update_apply]
    split <;> rfl
  simp only [State.told, hst]
  rfl

/-! ### Faults and holds -/

@[simp] theorem State.changeFault_told (old new : FaultRec) : (s.changeFault old new).told = s.told := by
  unfold State.changeFault
  split
  · rfl
  · rw [State.noticeRaised, State.notify_told, State.setFaults_told]

@[simp] theorem State.newFault_told (k : FaultKind) (src : FaultSource) (l : Bool) (c : Capture) :
    (s.newFault k src l c).told = s.told := by
  unfold State.newFault
  rw [State.noticeRaised, State.notify_told]
  rfl

@[simp] theorem State.raiseFault_told (k : FaultKind) (src : FaultSource) (l n : Bool) (i : Item)
    (b : Option (Nat × Step)) : (s.raiseFault k src l n i b).told = s.told := by
  unfold State.raiseFault
  repeat' split
  all_goals simp [State.handCause_told]

@[simp] theorem State.handOwner_told (o : Owner) (r : Reason) : (s.handOwner o r).told = s.told := by
  cases o <;> rfl

@[simp] theorem State.stopForHold_told (i : Item) : (s.stopForHold i).told = s.told := by
  unfold State.stopForHold
  split <;> simp

@[simp] theorem State.holdGate_told (k : Station) : (s.holdGate k).told = s.told := by
  have hhold : ∀ m : Movement, (if m.phase = .held then s
      else (s.stopForHold (.gate k)).setMovement (.gate k) (some (heldMovement s.now m))).told = s.told := by
    intro m
    split <;> simp
  unfold State.holdGate
  dsimp only
  split
  · rfl
  · split <;> simp [hhold]

@[simp] theorem State.raiseInput_told (k : Station) (i : Input) (l : Bool) : (s.raiseInput k i l).told = s.told := by
  unfold State.raiseInput
  dsimp only
  split <;> simp

@[simp] theorem State.inputActive_told (k : Station) (i : Input) (b : Option Bool) :
    (s.inputActive k i b).told = s.told := by
  unfold State.inputActive
  dsimp only
  repeat' split
  all_goals simp [State.handCause_told]

@[simp] theorem State.endCause_told (c : HaltCause) : (s.endCause c).told = s.told := by
  unfold State.endCause
  split
  · rw [State.noticeHalt, State.notify_told]
    rfl
  · rfl

@[simp] theorem State.testLocalStop_told : s.testLocalStop.told = s.told := by
  unfold State.testLocalStop
  split <;> simp

@[simp] theorem State.inputInactive_told (k : Station) (i : Input) : (s.inputInactive k i).told = s.told := by
  have hcease : (if s.unrecorded k i then
      let t := s.setUnrecorded k i false
      if isGateInput i then t else t.testLocalStop else s).told = s.told := by
    dsimp only
    repeat' split
    all_goals simp
  unfold State.inputInactive
  dsimp only at hcease ⊢
  repeat' split
  all_goals simp [hcease]

@[simp] theorem State.applyInput_told (k : Station) (i : Input) (v : Bool) : (s.applyInput k i v).told = s.told := by
  unfold State.applyInput
  dsimp only
  repeat' split
  all_goals simp

@[simp] theorem State.takeOverload_told (k : Station) (v : Bool) : (s.takeOverload k v).told = s.told := by
  unfold State.takeOverload
  split <;> simp

@[simp] theorem State.applyInputs_told (k : Station) (r : InputReport) : (s.applyInputs k r).told = s.told := by
  simp [State.applyInputs]

/-! ### Positions -/

theorem State.setItem_told (i : Item) (r : ItemRec) :
    (s.setItem i r).told = { s.told with positions := Function.update s.told.positions i r.position } := by
  have hpos : (fun j => ((s.setItem i r).item j).position) =
      Function.update (fun j => (s.item j).position) i r.position := by
    funext j
    rw [State.item_setItem, Function.update_apply]
    split <;> rfl
  simp only [State.told, hpos]
  rfl

theorem State.setChamber_told (c : Chamber) (r : ChamberRec) (hu : r.upper = (s.chamber c).upper)
    (hl : r.lower = (s.chamber c).lower) (hc : r.crest = (s.chamber c).crest) : (s.setChamber c r).told = s.told := by
  have hcases : ∀ {α : Type} (f : ChamberRec → α), f r = f (s.chamber c) →
      (fun d => f ((s.setChamber c r).chamber d)) = fun d => f (s.chamber d) := by
    intro α f hf
    funext d
    rw [State.chamber_setChamber]
    split
    · rename_i hd
      rw [hd, hf]
    · rfl
  simp only [State.told, hcases ChamberRec.upper hu, hcases ChamberRec.lower hl, hcases ChamberRec.crest hc]
  rfl

@[simp] theorem State.startSurge_told (c : Chamber) : (s.startSurge c).told = s.told := by
  unfold State.startSurge
  split
  · rfl
  · exact s.setChamber_told c _ rfl rfl rfl

@[simp] theorem State.startOverloadBlank_told (k : Station) : (s.startOverloadBlank k).told = s.told := by
  unfold State.startOverloadBlank
  split <;> simp

/-- The starts of a report, by name: surge blanking, overload blanking, changeover timers, the shut head sluice. -/
def State.beginMotion (s : State) (i : Item) (begins : Bool) : State :=
  let s := if begins then (pathChambers i).foldl (fun s c => s.startSurge c) s else s
  match i, begins with
  | .gate k, true => s.startOverloadBlank k
  | _, _ => s

def State.endMotion (s : State) (i : Item) (shuts : Bool) : State :=
  let s := if shuts then (pathChambers i).foldl (fun s c => s.restartChangeover c) s else s
  if shuts && i == .sluice .k0 then s.emit .headSluiceShut else s

theorem State.reportStarts_eq (i : Item) (prev : Option Position) (p : Position) : s.reportStarts i prev p =
    (s.beginMotion i (isMotion p && prev != some p)).endMotion i (p == .shut && leftShut prev) := rfl

@[simp] theorem State.beginMotion_told (i : Item) (b : Bool) : (s.beginMotion i b).told = s.told := by
  have hsurge : ((pathChambers i).foldl (fun s c => s.startSurge c) s).told = s.told := foldl_told _ (by simp) _ _
  unfold State.beginMotion
  cases b <;> cases i <;> simp [hsurge]

@[simp] theorem State.endMotion_told (i : Item) (b : Bool) : (s.endMotion i b).told = s.told := by
  have hchange : ((pathChambers i).foldl (fun s c => s.restartChangeover c) s).told = s.told :=
    foldl_told _ (by simp) _ _
  unfold State.endMotion
  dsimp only
  repeat' split
  all_goals simp [hchange]

@[simp] theorem State.reportStarts_told (i : Item) (prev : Option Position) (p : Position) :
    (s.reportStarts i prev p).told = s.told := by
  simp [State.reportStarts_eq]

@[simp] theorem State.stopUncommanded_told (i : Item) : (s.stopUncommanded i).told = s.told := by
  simp [State.stopUncommanded]

@[simp] theorem State.handComplete_told (i : Item) (m : Movement) : (s.handComplete i m).told = s.told := by
  unfold State.handComplete
  split <;> simp

@[simp] theorem State.reportMovement_told (i : Item) (p : Position) : (s.reportMovement i p).told = s.told := by
  unfold State.reportMovement
  repeat' split
  all_goals simp

theorem State.reportPosition_told (i : Item) (p : Position) : (s.reportPosition i p).told =
    { s.told with positions := Function.update s.told.positions i (some p) } := by
  have hset : ∀ t : State, (t.setItem i { t.item i with position := some p }).told =
      { t.told with positions := Function.update t.told.positions i (some p) } := fun t => t.setItem_told i _
  unfold State.reportPosition
  dsimp only
  repeat' split
  all_goals simp [hset]

/-- The positions of a report are those of its station's items. -/
theorem State.reportPositions_told (k : Station) (r : StationReport) : (s.reportPositions k r).told =
    { s.told with positions := (s.reportPositions k r).told.positions } := by
  unfold State.reportPositions
  dsimp only
  split
  · rw [State.reportPosition_told, State.reportPosition_told, State.reportPosition_told]
  · rw [State.reportPosition_told, State.reportPosition_told]

theorem stationByWash_station {k : Station} {w : ByWash} (h : stationByWash k = some w) : itemStation (.byWash w) = k := by
  cases k <;> cases w <;> first | rfl | exact nomatch h

theorem State.reportPositions_position (k : Station) (r : StationReport) :
    (s.reportPositions k r).told.positions (.gate k) = some r.gate ∧
      (s.reportPositions k r).told.positions (.sluice k) = some r.sluice ∧
      (∀ w p, stationByWash k = some w → r.byWash = some p →
        (s.reportPositions k r).told.positions (.byWash w) = some p) ∧
      ∀ i, itemStation i ≠ k → (s.reportPositions k r).told.positions i = s.told.positions i := by
  have htwo : ((s.reportPosition (.gate k) r.gate).reportPosition (.sluice k) r.sluice).told.positions =
      Function.update (Function.update s.told.positions (.gate k) (some r.gate)) (.sluice k) (some r.sluice) := by
    rw [State.reportPosition_told, State.reportPosition_told]
  have hother : ∀ i, itemStation i ≠ k → Function.update (Function.update s.told.positions (.gate k) (some r.gate))
      (.sluice k) (some r.sluice) i = s.told.positions i := by
    intro i hi
    have hg : i ≠ .gate k := fun h => hi (by rw [h]; rfl)
    have hs : i ≠ .sluice k := fun h => hi (by rw [h]; rfl)
    rw [Function.update_of_ne hs, Function.update_of_ne hg]
  unfold State.reportPositions
  dsimp only
  split
  · rename_i w p hw hp
    have hthree : (((s.reportPosition (.gate k) r.gate).reportPosition (.sluice k) r.sluice).reportPosition
        (.byWash w) p).told.positions = Function.update (Function.update (Function.update s.told.positions (.gate k)
          (some r.gate)) (.sluice k) (some r.sluice)) (.byWash w) (some p) := by
      rw [State.reportPosition_told, htwo]
    rw [hthree]
    refine ⟨by simp, by simp, fun v q hv hq => ?_, fun i hi => ?_⟩
    · obtain rfl := Option.some.inj (hw.symm.trans hv)
      obtain rfl := Option.some.inj (hp.symm.trans hq)
      simp
    · have hne : i ≠ .byWash w := fun h => hi (by rw [h, stationByWash_station hw])
      rw [Function.update_of_ne hne, hother i hi]
  · rename_i hno
    rw [htwo]
    exact ⟨by simp, by simp, fun w p hw hp => (hno w p hw hp).elim, hother⟩

/-! ### LOCAL and REMOTE -/

@[simp] theorem State.endMovement_told (i : Item) (r : Reason) : (s.endMovement i r).told = s.told := by
  unfold State.endMovement
  split <;> simp

@[simp] theorem State.localMovement_told (i : Item) : (s.localMovement i).told = s.told := by
  unfold State.localMovement
  split <;> simp

@[simp] theorem State.loseMovements_told (k : Station) : (s.loseMovements k).told = s.told :=
  foldl_told _ (by simp) _ _

@[simp] theorem State.reportControl_told (k : Station) (v : Bool) : (s.reportControl k v).told = s.told := by
  have hset : ∀ q : Quad Bool, ({ s with mach := { s.mach with inLocal := q } } : State).told = s.told := fun _ => rfl
  unfold State.reportControl
  dsimp only
  split
  · rw [State.emit_told, foldl_told _ (by simp), hset]
  · rw [hset]

/-! ### Faces -/

theorem State.setFace_told (f : Face) (r : FaceRec) :
    (s.setFace f r).told = { s.told with aspects := Function.update s.told.aspects f r.reported } := by
  have hasp : (fun g => ((s.setFace f r).face g).reported) =
      Function.update (fun g => (s.face g).reported) f r.reported := by
    funext g
    rw [State.face_setFace, Function.update_apply]
    split <;> rfl
  simp only [State.told, hasp]
  rfl

theorem State.dropRequest_told (f : Face) : (s.setFace f { s.face f with request := none }).told = s.told :=
  State.told_of_steady (s.setFace_steady f _ rfl rfl rfl) (State.setFace_fixed _ _ _)

@[simp] theorem State.lampFailed_told (f : Face) : (s.lampFailed f).told = s.told := by
  unfold State.lampFailed
  dsimp only
  repeat' split
  all_goals simp [State.dropRequest_told]

theorem State.reportFace_told (f : Face) (r : FaceReport) : (s.reportFace f r).told =
    { s.told with aspects := Function.update s.told.aspects f (some r.aspect) } := by
  unfold State.reportFace
  dsimp only
  repeat' split
  all_goals simp [State.setFace_told]

theorem State.reportFaces_told (k : Station) (r : StationReport) : (s.reportFaces k r).told =
    { s.told with aspects := fun f => if f.gate = k then some (reportSide r f.side).aspect else (s.face f).reported } := by
  have hasp : Function.update (Function.update s.told.aspects ⟨k, .upper⟩ (some r.upper.aspect)) ⟨k, .lower⟩
      (some r.lower.aspect) = fun f => if f.gate = k then some (reportSide r f.side).aspect else (s.face f).reported := by
    funext ⟨j, x⟩
    simp only [Function.update_apply, State.told, Face.mk.injEq]
    by_cases hj : j = k <;> cases x <;> simp [hj, reportSide]
  rw [State.reportFaces, State.reportFace_told, State.reportFace_told, ← hasp]

theorem State.takeAlarm_told (k : Station) (r : StationReport) : (s.takeAlarm k r).told =
    { s.told with
      positions := ((s.reportControl k r.inLocal).reportPositions k r).told.positions
      aspects := fun f => if f.gate = k then some (reportSide r f.side).aspect else (s.face f).reported } := by
  have hmach : (s.reportMachinery k r).told =
      { s.told with positions := ((s.reportControl k r.inLocal).reportPositions k r).told.positions } := by
    rw [State.reportMachinery, State.applyInputs_told, State.reportPositions_told, State.reportControl_told]
  have hasp : ∀ f, ((s.reportMachinery k r).face f).reported = (s.face f).reported :=
    congrFun (congrArg Told.aspects hmach)
  rw [State.takeAlarm, State.reportFaces_told, hmach]
  simp only [hasp]

/-! ### Stations -/

@[simp] theorem State.noticeStation_told (k : Station) (v : Option Verdict) : (s.noticeStation k v).told = s.told := by
  simp [State.noticeStation]

theorem State.loseFaces_stations (k : Station) :
    (s.loseFaces k).told.stations = s.told.stations ∧ (s.loseFaces k).told.poll = s.told.poll := ⟨rfl, rfl⟩

theorem State.forgetPositions_line (k : Station) : (s.forgetPositions k).line = s.line :=
  foldl_frame (f := fun u i => u.setItem i { u.item i with position := none }) (·.line) (fun _ _ => rfl) _ s

/-- What a station's new state brings leaves the line as it stands but for queue entries. -/
theorem State.stationEffects_stations (k : Station) (st : StationState) :
    (s.stationEffects k st).told.stations = s.told.stations ∧ (s.stationEffects k st).told.poll = s.told.poll ∧
      (s.stationEffects k st).told.rate = s.told.rate := by
  have hline : ∀ t u : State, t.line = u.line →
      t.told.stations = u.told.stations ∧ t.told.poll = u.told.poll ∧ t.told.rate = u.told.rate := fun t u h => by
    simp only [State.told, State.station, h, and_self]
  have hgone : (s.stationGone k).told.stations = s.told.stations ∧ (s.stationGone k).told.poll = s.told.poll ∧
      (s.stationGone k).told.rate = s.told.rate := by
    rw [State.stationGone, State.emit_told, State.loseMovements_told]
    exact hline _ _ (s.stationUnsynced_line k)
  cases st with
  | online => exact ⟨rfl, rfl, rfl⟩
  | missing => exact hline _ _ (s.forgetPositions_line k)
  | unsynced => exact hline _ _ (s.stationUnsynced_line k)
  | lost => exact hgone
  | resetting => exact hgone

theorem State.enterStation_stations (k : Station) (st : StationState) (n : Nat) :
    (s.enterStation k st n).told.stations = Function.update s.told.stations k (st, n) ∧
      (s.enterStation k st n).told.poll = s.told.poll ∧ (s.enterStation k st n).told.rate = s.told.rate := by
  have hset := s.setStation_told k { s.station k with state := st, failed := n }
  unfold State.enterStation
  dsimp only
  split
  · rw [hset]
    exact ⟨rfl, rfl, rfl⟩
  · rw [State.noticeStation_told]
    obtain ⟨h1, h2, h3⟩ := (s.setStation k { s.station k with state := st, failed := n }).stationEffects_stations k st
    rw [h1, h2, h3, hset]
    exact ⟨rfl, rfl, rfl⟩

theorem State.failPoll_stations (k : Station) : (s.failPoll k).told.stations = Function.update s.told.stations k
      (afterFailed (s.station k).state (min 5 ((s.station k).failed + 1)), min 5 ((s.station k).failed + 1)) ∧
    (s.failPoll k).told.poll = none ∧ (s.failPoll k).told.rate = s.told.rate := by
  have hcarried : ((s.setPoll none).failCarried k).told = { s.told with poll := none } := by
    rw [State.failCarried_told, State.setPoll_told]
  have hst : ((((s.setPoll none).failCarried k).station k).state, (((s.setPoll none).failCarried k).station k).failed) =
      ((s.station k).state, (s.station k).failed) := congrFun (congrArg Told.stations hcarried) k
  obtain ⟨hstate, hfailed⟩ := Prod.mk.inj hst
  rw [State.failPoll, State.countFailure, hstate, hfailed]
  obtain ⟨h1, h2, h3⟩ := ((s.setPoll none).failCarried k).enterStation_stations k
    (afterFailed (s.station k).state (min 5 ((s.station k).failed + 1))) (min 5 ((s.station k).failed + 1))
  rw [h1, h2, h3, hcarried]
  exact ⟨rfl, rfl, rfl⟩

/-! ### The end of the step -/

/-- While the line rate stands, the end of a step keeps what the stations told. -/
theorem State.finish_told {s : State} (hr : s.finish.line.rate = s.line.rate) :
    s.finish.told.stations = s.told.stations ∧ s.finish.told.positions = s.told.positions ∧
      s.finish.told.aspects = s.told.aspects ∧ s.finish.told.uppers = s.told.uppers ∧
      s.finish.told.lowers = s.told.lowers := by
  have hseen := s.finish_stands.seen_of_rate hr
  refine ⟨congrArg Seen.stations hseen, congrArg Seen.positions hseen, ?_, ?_, ?_⟩
  · exact congrArg (fun x => fun f => (x f).1) (congrArg Seen.faces hseen)
  · exact congrArg (fun x => fun c => (x c).1) (congrArg Seen.readings hseen)
  · exact congrArg (fun x => fun c => (x c).2) (congrArg Seen.readings hseen)

end

/-! ### Failed polls -/

theorem State.pollOf_eq_some {s : State} {k : Station} {p : Poll} (hp : s.line.poll = some p) (hk : p.station = k) :
    s.pollOf k = some p := by
  rw [State.pollOf, hp]
  exact if_pos hk

theorem afterFailed_fifth (st : StationState) : afterFailed st 5 = .lost := rfl

theorem afterFailed_sooner (st : StationState) {n : Nat} (hn : n < 5) :
    afterFailed st n = if st = .online then .missing else st := by
  unfold afterFailed
  rw [if_neg (by omega)]
  cases st <;> rfl

/-- Settles O37, from what a failed poll makes of its station and the stations the end of a step keeps. -/
theorem failedPollsAreCounted : Obligations.FailedPollsAreCounted := by
  unfold Obligations.FailedPollsAreCounted
  refine ⟨fun k p s hp hpoll hk => ?_, fun k s hnone => ?_, fun k a p s hpoll hbad => ?_⟩
  · have hsome := State.pollOf_eq_some hpoll hk
    obtain ⟨t, hexec, ht⟩ := exec_event_flight (c := .pollFailed k) rfl hp
    rw [if_pos (by rw [hsome]; rfl)] at ht
    obtain ⟨hst, hnone, hrate⟩ := s.failPoll_stations k
    refine ⟨t, hexec, ?_, ?_, fun hsame => ?_⟩
    · rw [ht.fixed, State.finish_fixed, State.failPoll_fixed]
    · rw [ht.line]
      exact (s.failPoll k).finish_stands.poll hnone
    · rw [ht.line] at hsame
      obtain ⟨hkept, -⟩ := State.finish_told (hsame.trans hrate.symm)
      have hall : ∀ j, ((t.station j).state, (t.station j).failed) = Function.update s.told.stations k
          (afterFailed (s.station k).state (min 5 ((s.station k).failed + 1)), min 5 ((s.station k).failed + 1)) j := by
        intro j
        rw [← hst, ← hkept]
        simp only [State.told, State.station, ht.line]
      have hself := hall k
      rw [Function.update_self, Prod.mk.injEq] at hself
      obtain ⟨hstate, hfailed⟩ := hself
      refine ⟨hfailed, fun h4 => ?_, fun h4 => ?_, fun j hj => ?_⟩
      · rw [hstate, show min 5 ((s.station k).failed + 1) = 5 by omega, afterFailed_fifth]
      · rw [hstate, afterFailed_sooner _ (by omega)]
      · have hj' := hall j
        rw [Function.update_of_ne hj] at hj'
        exact Prod.mk.inj hj'
  · refine ⟨exec_event_idle (c := .pollFailed k) rfl ?_, fun a => exec_event_idle (c := .goodAnswer k a) rfl ?_⟩
    · exact if_neg (by rw [hnone]; decide)
    · rw [State.answered, hnone]
  · have hact : s.answered k a = (s.failPoll k).finish := by
      rw [State.answered, hpoll]
      exact if_neg (by rw [hbad]; decide)
    have hfail : (if (s.pollOf k).isSome then (s.failPoll k).finish else s) = (s.failPoll k).finish :=
      if_pos (by rw [hpoll]; rfl)
    rw [exec_event (c := .goodAnswer k a) rfl, exec_event (c := .pollFailed k) rfl, State.event, State.event]
    rw [hact, hfail]

end Sys2Proof.Machine
end

section
/-! GOOD ANSWERS AND ALARM FRAMES: what they make of what the stations told, of the movement they report on, and of a
reading above CREST (O36). -/

namespace Sys2Proof.Machine

/-! ### What a report may change of what the end of a step keeps -/

/-- The fixed part but for the chambers and the changeover timers, which a report's motions start. -/
def State.bare (s : State) (c : Trio ChamberFixed) (o : Trio (Option Nat)) : Fixed :=
  { s.fixed with chambers := c, changeover := o }

section

variable (s : State) (c : Trio ChamberFixed) (o : Trio (Option Nat))

theorem State.bare_of_fixed {s t : State} (h : t.fixed = s.fixed) : t.bare c o = s.bare c o := by
  rw [State.bare, h]
  rfl

@[simp] theorem State.setChamber_bare (d : Chamber) (r : ChamberRec) : (s.setChamber d r).bare c o = s.bare c o := rfl

@[simp] theorem State.restartChangeover_bare (d : Chamber) : (s.restartChangeover d).bare c o = s.bare c o := rfl

theorem foldl_bare {α : Type} (f : State → α → State) (h : ∀ s a, (f s a).bare c o = s.bare c o) (xs : List α)
    (s : State) : (xs.foldl f s).bare c o = s.bare c o := foldl_frame (State.bare · c o) h xs s

@[simp] theorem State.startSurge_bare (d : Chamber) : (s.startSurge d).bare c o = s.bare c o := by
  unfold State.startSurge
  split <;> simp

@[simp] theorem State.beginMotion_bare (i : Item) (b : Bool) : (s.beginMotion i b).bare c o = s.bare c o := by
  have hsurge : ((pathChambers i).foldl (fun s c => s.startSurge c) s).bare c o = s.bare c o :=
    foldl_bare _ _ _ (by simp) _ _
  have hblank : ∀ (t : State) (k : Station), (t.startOverloadBlank k).bare c o = t.bare c o := fun t k => by
    unfold State.startOverloadBlank
    split
    · rfl
    · exact State.bare_of_fixed c o (State.setOverload_fixed _ _ _)
  unfold State.beginMotion
  cases b <;> cases i <;> simp [hsurge, hblank]

@[simp] theorem State.endMotion_bare (i : Item) (b : Bool) : (s.endMotion i b).bare c o = s.bare c o := by
  have hchange : ((pathChambers i).foldl (fun s c => s.restartChangeover c) s).bare c o = s.bare c o :=
    foldl_bare _ _ _ (by simp) _ _
  have hemit : ∀ t : State, (t.emit .headSluiceShut).bare c o = t.bare c o := fun _ => rfl
  unfold State.endMotion
  dsimp only
  repeat' split
  all_goals simp [hchange, hemit]

theorem State.reportPosition_bare (i : Item) (p : Position) : (s.reportPosition i p).bare c o = s.bare c o := by
  have hkept : ∀ t u : State, u.fixed = t.fixed → t.bare c o = s.bare c o → u.bare c o = s.bare c o :=
    fun t u h ht => (State.bare_of_fixed c o h).trans ht
  have hstart : (s.reportStarts i (s.item i).position p).bare c o = s.bare c o := by simp [State.reportStarts_eq]
  unfold State.reportPosition
  dsimp only
  refine hkept (s.reportStarts i (s.item i).position p) _ ?_ hstart
  repeat' split
  all_goals simp

theorem State.reportPositions_bare (k : Station) (r : StationReport) :
    (s.reportPositions k r).bare c o = s.bare c o := by
  unfold State.reportPositions
  dsimp only
  split <;> simp [State.reportPosition_bare]

theorem State.reportControl_bare (k : Station) (v : Bool) :
    (s.reportControl k v).bare c o = { s.bare c o with inLocal := s.mach.inLocal.set k v } := by
  have hset : ({ s with mach := { s.mach with inLocal := s.mach.inLocal.set k v } } : State).bare c o =
      { s.bare c o with inLocal := s.mach.inLocal.set k v } := rfl
  unfold State.reportControl
  dsimp only
  split
  · refine (State.bare_of_fixed c o ?_).trans hset
    rw [State.emit_fixed]
    exact foldl_fixed _ (by simp) _ _
  · exact hset

theorem State.takeAlarm_bare (k : Station) (r : StationReport) :
    (s.takeAlarm k r).bare c o = { s.bare c o with inLocal := s.mach.inLocal.set k r.inLocal } := by
  rw [State.takeAlarm, State.bare_of_fixed c o (State.reportFaces_fixed _ k r), State.reportMachinery,
    State.bare_of_fixed c o (State.applyInputs_fixed _ k r.inputs), State.reportPositions_bare, State.reportControl_bare]

theorem State.storeReadings_bare (k : Station) (a b : Option Nat) : (s.storeReadings k a b).bare c o = s.bare c o := by
  have htest : ∀ (t : State) (d : Chamber) (r : Option Nat), (t.testCrest d r).bare c o = t.bare c o := fun t d r => by
    unfold State.testCrest
    repeat' split
    all_goals rfl
  have habove : ∀ (t : State) (r : Option Nat), (t.storeAbove k r).bare c o = t.bare c o := fun t r => by
    unfold State.storeAbove
    split
    · rfl
    · rw [htest, State.setChamber_bare]
  have hbelow : ∀ (t : State) (r : Option Nat), (t.storeBelow k r).bare c o = t.bare c o := fun t r => by
    unfold State.storeBelow
    split
    · rfl
    · rw [htest, State.setChamber_bare]
  rw [State.storeReadings, hbelow, habove]

/-! ### Readings -/

theorem State.testCrest_told (d : Chamber) (r : Option Nat) : (s.testCrest d r).told =
    { s.told with crests := (s.testCrest d r).told.crests, crest := (s.testCrest d r).told.crest } := by
  have hreading : ∀ {α : Type} (f : ChamberRec → α), (∀ x : ChamberRec, f { x with crest := true } = f x) →
      (fun e => f ((s.setChamber d { s.chamber d with crest := true }).chamber e)) = fun e => f (s.chamber e) := by
    intro α f hf
    funext e
    rw [State.chamber_setChamber]
    split
    · rename_i he
      rw [he, hf]
    · rfl
  have hup := hreading ChamberRec.upper fun _ => rfl
  have hlow := hreading ChamberRec.lower fun _ => rfl
  unfold State.testCrest
  repeat' split
  · change { (((s.setChamber d { s.chamber d with crest := true }).handCause .crest)).told with
      uppers := fun e => ((s.setChamber d { s.chamber d with crest := true }).chamber e).upper
      lowers := fun e => ((s.setChamber d { s.chamber d with crest := true }).chamber e).lower } = _
    rw [hup, hlow]
    rfl
  · rfl
  · rfl

/-- The CREST indication of a chamber is set and its cause is handed. -/
def State.crestAt (s : State) (d : Chamber) : Prop := s.told.crests d = true ∧ s.told.crest = true

theorem State.testCrest_keeps (d e : Chamber) (r : Option Nat) (h : s.crestAt e) : (s.testCrest d r).crestAt e := by
  obtain ⟨hset, hhand⟩ := h
  have hmem : HaltCause.crest ∈ s.hand.toHalt := of_decide_eq_true hhand
  unfold State.testCrest
  repeat' split
  · refine ⟨?_, decide_eq_true (List.mem_append_left _ hmem)⟩
    change ((s.setChamber d { s.chamber d with crest := true }).chamber e).crest = true
    rw [State.chamber_setChamber]
    split
    · rfl
    · exact hset
  · exact ⟨hset, hhand⟩
  · exact ⟨hset, hhand⟩

theorem State.testCrest_raises (d : Chamber) {g : ChamberConfig} {v : Nat} (hg : (s.chamber d).config = some g)
    (hv : g.crest < v) : (s.testCrest d (some v)).crestAt d := by
  unfold State.testCrest
  rw [hg]
  dsimp only
  rw [if_pos hv]
  refine ⟨?_, decide_eq_true (List.mem_append_right _ (List.mem_singleton_self _))⟩
  change ((s.setChamber d { s.chamber d with crest := true }).chamber d).crest = true
  rw [State.chamber_setChamber_self]

theorem State.testCrest_config (d e : Chamber) (r : Option Nat) :
    ((s.testCrest d r).chamber e).config = (s.chamber e).config := by
  unfold State.testCrest
  repeat' split
  · change ((s.setChamber d { s.chamber d with crest := true }).chamber e).config = _
    rw [State.chamber_setChamber]
    split
    · rename_i he
      rw [he]
    · rfl
  · rfl
  · rfl

/-- A reading stored above a gate is the lower reading of the chamber there, and tests its CREST. -/
theorem State.storeAbove_told (k : Station) (r : Option Nat) : (s.storeAbove k r).told =
    { s.told with
      lowers := (s.storeAbove k r).told.lowers, crests := (s.storeAbove k r).told.crests
      crest := (s.storeAbove k r).told.crest } ∧
    (∀ d, chamberAbove k = some d → (s.storeAbove k r).told.lowers d = r) ∧
    (∀ d, s.crestAt d → (s.storeAbove k r).crestAt d) ∧
    (∀ d g v, chamberAbove k = some d → r = some v → (s.chamber d).config = some g → g.crest < v →
      (s.storeAbove k r).crestAt d) ∧
    ∀ d, ((s.storeAbove k r).chamber d).config = (s.chamber d).config := by
  unfold State.storeAbove
  split
  · rename_i hnone
    rw [hnone]
    refine ⟨rfl, ?_, fun _ => id, ?_, fun _ => rfl⟩
    · intro d hd
      exact nomatch hd
    · intro d g v hd
      exact nomatch hd
  · rename_i d hd
    have hfield : ∀ {α : Type} (f : ChamberRec → α), (∀ x : ChamberRec, f { x with lower := r } = f x) →
        ∀ e, f ((s.setChamber d { s.chamber d with lower := r }).chamber e) = f (s.chamber e) := by
      intro α f hf e
      rw [State.chamber_setChamber]
      split
      · rename_i he
        rw [he, hf]
      · rfl
    have hup : (s.setChamber d { s.chamber d with lower := r }).told.uppers = s.told.uppers :=
      funext (hfield ChamberRec.upper fun _ => rfl)
    have hcrest : (s.setChamber d { s.chamber d with lower := r }).told.crests = s.told.crests :=
      funext (hfield ChamberRec.crest fun _ => rfl)
    have hconfig := hfield ChamberRec.config fun _ => rfl
    have htest := (s.setChamber d { s.chamber d with lower := r }).testCrest_told d r
    have hset : (s.setChamber d { s.chamber d with lower := r }).told =
        { s.told with lowers := (s.setChamber d { s.chamber d with lower := r }).told.lowers } := by
      have hparts : ∀ u : State, u.told = { u.told with uppers := u.told.uppers, crests := u.told.crests } := fun _ => rfl
      refine (hparts _).trans ?_
      rw [hup, hcrest]
      rfl
    refine ⟨?_, fun e he => ?_, fun e hc => ?_, fun e g v he hv hg hlt => ?_, fun e => ?_⟩
    · rw [htest, hset]
    · obtain rfl := Option.some.inj (hd.symm.trans he)
      rw [congrArg Told.lowers htest]
      change ((s.setChamber d { s.chamber d with lower := r }).chamber d).lower = r
      rw [State.chamber_setChamber_self]
    · refine State.testCrest_keeps _ _ _ _ ⟨(congrFun hcrest e).trans hc.1, hc.2⟩
    · obtain rfl := Option.some.inj (hd.symm.trans he)
      subst hv
      exact State.testCrest_raises _ _ ((hconfig d).trans hg) hlt
    · rw [State.testCrest_config, hconfig]

/-- A reading stored below a gate is the upper reading of the chamber there, and tests its CREST. -/
theorem State.storeBelow_told (k : Station) (r : Option Nat) : (s.storeBelow k r).told =
    { s.told with
      uppers := (s.storeBelow k r).told.uppers, crests := (s.storeBelow k r).told.crests
      crest := (s.storeBelow k r).told.crest } ∧
    (∀ d, chamberBelow k = some d → (s.storeBelow k r).told.uppers d = r) ∧
    (∀ d, s.crestAt d → (s.storeBelow k r).crestAt d) ∧
    ∀ d g v, chamberBelow k = some d → r = some v → (s.chamber d).config = some g → g.crest < v →
      (s.storeBelow k r).crestAt d := by
  unfold State.storeBelow
  split
  · rename_i hnone
    rw [hnone]
    refine ⟨rfl, ?_, fun _ => id, ?_⟩
    · intro d hd
      exact nomatch hd
    · intro d g v hd
      exact nomatch hd
  · rename_i d hd
    have hfield : ∀ {α : Type} (f : ChamberRec → α), (∀ x : ChamberRec, f { x with upper := r } = f x) →
        ∀ e, f ((s.setChamber d { s.chamber d with upper := r }).chamber e) = f (s.chamber e) := by
      intro α f hf e
      rw [State.chamber_setChamber]
      split
      · rename_i he
        rw [he, hf]
      · rfl
    have hlow : (s.setChamber d { s.chamber d with upper := r }).told.lowers = s.told.lowers :=
      funext (hfield ChamberRec.lower fun _ => rfl)
    have hcrest : (s.setChamber d { s.chamber d with upper := r }).told.crests = s.told.crests :=
      funext (hfield ChamberRec.crest fun _ => rfl)
    have hconfig := hfield ChamberRec.config fun _ => rfl
    have htest := (s.setChamber d { s.chamber d with upper := r }).testCrest_told d r
    have hset : (s.setChamber d { s.chamber d with upper := r }).told =
        { s.told with uppers := (s.setChamber d { s.chamber d with upper := r }).told.uppers } := by
      have hparts : ∀ u : State, u.told = { u.told with lowers := u.told.lowers, crests := u.told.crests } := fun _ => rfl
      refine (hparts _).trans ?_
      rw [hlow, hcrest]
      rfl
    refine ⟨?_, fun e he => ?_, fun e hc => ?_, fun e g v he hv hg hlt => ?_⟩
    · rw [htest, hset]
    · obtain rfl := Option.some.inj (hd.symm.trans he)
      rw [congrArg Told.uppers htest]
      change ((s.setChamber d { s.chamber d with upper := r }).chamber d).upper = r
      rw [State.chamber_setChamber_self]
    · refine State.testCrest_keeps _ _ _ _ ⟨(congrFun hcrest e).trans hc.1, hc.2⟩
    · obtain rfl := Option.some.inj (hd.symm.trans he)
      subst hv
      exact State.testCrest_raises _ _ ((hconfig d).trans hg) hlt

/-! ### Verdicts -/

theorem State.orderStop_holds (i : Item) : (s.orderStop i).holdsOrder i .stops := by
  obtain ⟨e, heq, hc, -⟩ := placeStop_eq i (s.station (itemStation i)).queue
  have hq : ((s.orderStop i).station (itemStation i)).queue = placeStop i (s.station (itemStation i)).queue := by
    have hline : ∀ t : State, (t.setCommand i .stops).line = t.line := fun t => by
      unfold State.setCommand
      split <;> rfl
    unfold State.orderStop
    dsimp only
    rw [State.station, hline]
    exact congrArg StationRec.queue (State.station_setQueue_self _ _ _)
  refine ⟨e, ?_, hc⟩
  rw [hq, heq]
  exact List.mem_cons_self

theorem State.raiseFault_line (k : FaultKind) (src : FaultSource) (l n : Bool) (i : Item) (b : Option (Nat × Step)) :
    (s.raiseFault k src l n i b).line = s.line := by
  unfold State.raiseFault
  repeat' split
  · exact State.changeFault_line _ _ _
  · obtain ⟨ns, h⟩ := s.newFault_eq k src l (s.capture i b)
    rw [h]
    rfl
  · rfl

theorem State.failMovement_ends (i : Item) (k : FaultKind) {m : Movement} (hm : (s.item i).movement = some m) :
    ((s.failMovement i k).item i).movement = none ∧ (s.failMovement i k).holdsOrder i .stops := by
  have howner : ∀ (t : State) (o : Owner), (t.handOwner o .fault).mach = t.mach ∧ (t.handOwner o .fault).line = t.line :=
    fun t o => by cases o <;> exact ⟨rfl, rfl⟩
  unfold State.failMovement
  rw [hm]
  dsimp only
  obtain ⟨hmach, hline⟩ := howner (((s.orderStop i).raiseFault k (.item i) true true i (ownerBatch m.owner)).setMovement i
    none) m.owner
  constructor
  · rw [State.item, hmach]
    exact congrArg ItemRec.movement (State.item_setItem_self _ _ _)
  · have hstop := s.orderStop_holds i
    unfold State.holdsOrder State.station at hstop ⊢
    rwa [hline, State.setMovement_line, State.raiseFault_line]

theorem State.failMovement_told (i : Item) (k : FaultKind) : (s.failMovement i k).told = s.told := by
  unfold State.failMovement
  split <;> simp

@[simp] theorem State.itemVerdict_told (i : Item) (o : ItemOrder) (v : Verdict) : (s.itemVerdict i o v).told = s.told := by
  unfold State.itemVerdict
  dsimp only
  repeat' split
  all_goals simp [State.failMovement_told]

@[simp] theorem State.takeVerdict_told (k : Station) (v : Option Verdict) : (s.takeVerdict k v).told = s.told := by
  unfold State.takeVerdict
  dsimp only
  repeat' split
  all_goals simp

@[simp] theorem State.resetRefused_told (k : Station) (c : Option Command) (v : Option Verdict) :
    (s.resetRefused k c v).told = s.told := by
  unfold State.resetRefused
  split <;> simp

theorem State.enterOnline_told (k : Station) : (s.enterStation k .online 0).told =
    { s.told with stations := Function.update s.told.stations k (.online, 0) } := by
  unfold State.enterStation
  dsimp only
  split
  · exact s.setStation_told k _
  · rw [State.noticeStation_told]
    exact s.setStation_told k _

/-! ### Hearing a station while RECOVERING -/

/-- Only while RECOVERING is a station heard: the halt record takes it, and the last one ends the recovery. -/
theorem State.hear_cases (k : Station) : s.hear k = s ∨ s.halt.state = .recovering ∧ ∃ h : Halt,
    h.startUp = s.halt.startUp ∧ (s.hear k = { s with halt := h } ∨
      ∃ q, s.hear k = ((({ s with halt := h } : State).noticeCleared q).markAdmit).finish) := by
  unfold State.hear
  split
  · rename_i hr
    refine .inr ⟨hr, ?_⟩
    generalize (if (s.halt.awaited.get k).isSome = true then s.halt.awaited.set k (some true) else s.halt.awaited) = q
    by_cases hall : allHeard q = true
    · exact ⟨{ s.halt with state := .running, awaited := Quad.const none }, rfl, .inr ⟨q, if_pos hall⟩⟩
    · exact ⟨{ s.halt with awaited := q }, rfl, .inl (if_neg hall)⟩
  · exact .inl rfl

theorem State.hear_stands (k : Station) : s.Stands (s.hear k) := by
  rcases s.hear_cases k with h | ⟨hr, r, -, h⟩
  · rw [h]
    exact .of_steady rfl
  · have hhalt : s.Stands { s with halt := r } :=
      ⟨.inl rfl, id, id, fun _ => id, fun _ _ hh => by rw [hr] at hh; exact nomatch hh⟩
    rcases h with h | ⟨q, h⟩
    · rw [h]
      exact hhalt
    · rw [h]
      refine (hhalt.trans (.of_steady ?_)).trans (State.finish_stands _)
      rw [State.markAdmit_steady, State.noticeCleared, State.notify_steady]

theorem State.hear_fixed (k : Station) : (s.hear k).fixed = s.fixed := by
  rcases s.hear_cases k with h | ⟨-, r, hs, h⟩
  · rw [h]
  · have hhalt : ({ s with halt := r } : State).fixed = s.fixed := by
      simp only [State.fixed, hs]
    rcases h with h | ⟨q, h⟩
    · rw [h, hhalt]
    · rw [h, State.finish_fixed, State.markAdmit_fixed, State.noticeCleared, State.notify_fixed, hhalt]

/-! ### A good answer -/

theorem State.storeReadings_told (k : Station) (a b : Option Nat) : (s.storeReadings k a b).told =
    { s.told with
      uppers := (s.storeReadings k a b).told.uppers, lowers := (s.storeReadings k a b).told.lowers
      crests := (s.storeReadings k a b).told.crests, crest := (s.storeReadings k a b).told.crest } ∧
    (∀ d, chamberAbove k = some d → (s.storeReadings k a b).told.lowers d = storedReading a) ∧
    (∀ d, chamberBelow k = some d → (s.storeReadings k a b).told.uppers d = storedReading b) ∧
    ∀ d g v, (chamberAbove k = some d ∧ a = some v ∨ chamberBelow k = some d ∧ b = some v) →
      (s.chamber d).config = some g → g.crest < min v 20000 → (s.storeReadings k a b).crestAt d := by
  obtain ⟨habove, hlow, -, hraise, hconfig⟩ := s.storeAbove_told k (storedReading a)
  obtain ⟨hbelow, hup, hkeep, hraise'⟩ := (s.storeAbove k (storedReading a)).storeBelow_told k (storedReading b)
  refine ⟨?_, fun d hd => ?_, hup, fun d g v hv hg hlt => ?_⟩
  · rw [State.storeReadings, hbelow, habove]
  · rw [State.storeReadings, congrArg Told.lowers hbelow]
    exact hlow d hd
  · rcases hv with ⟨hd, rfl⟩ | ⟨hd, rfl⟩
    · exact hkeep d (hraise d g _ hd rfl hg hlt)
    · exact hraise' d g _ hd rfl ((hconfig d).trans hg) hlt

/-- The state of a good answer before its report is taken. -/
def State.answerTaken (s : State) (k : Station) (p : Poll) (a : Answer) : State :=
  ((((s.setPoll none).enterStation k .online 0).storeReadings k a.above a.below).takeVerdict k a.verdict).resetRefused k
    p.carried a.verdict

theorem State.takeAnswer_eq (k : Station) (p : Poll) (a : Answer)
    (h : ¬(p.carried = some .reset ∧ a.verdict = some .taken)) :
    s.takeAnswer k p a = (s.answerTaken k p a).takeAlarm k a.report := if_neg h

theorem State.answerTaken_told (k : Station) (p : Poll) (a : Answer) : (s.answerTaken k p a).told =
    (((s.setPoll none).enterStation k .online 0).storeReadings k a.above a.below).told := by
  rw [State.answerTaken, State.resetRefused_told, State.takeVerdict_told]

theorem State.answerTaken_bare (k : Station) (p : Poll) (a : Answer) (c : Trio ChamberFixed) (o : Trio (Option Nat)) :
    (s.answerTaken k p a).bare c o = s.bare c o := by
  rw [State.answerTaken, State.bare_of_fixed c o (State.resetRefused_fixed _ _ _ _),
    State.bare_of_fixed c o (State.takeVerdict_fixed _ _ _), State.storeReadings_bare]
  exact State.bare_of_fixed c o ((State.enterStation_fixed _ _ _ _).trans (State.setPoll_fixed _ _))

theorem State.enterStation_config (k : Station) (st : StationState) (n : Nat) (d : Chamber) :
    ((s.enterStation k st n).chamber d).config = (s.chamber d).config := by
  have hfixed : (s.enterStation k st n).fixed = s.fixed := State.enterStation_fixed _ _ _ _
  have hc : (⟨(s.enterStation k st n).level.chambers.c1.fixed, (s.enterStation k st n).level.chambers.c2.fixed,
      (s.enterStation k st n).level.chambers.c3.fixed⟩ : Trio ChamberFixed) =
      ⟨s.level.chambers.c1.fixed, s.level.chambers.c2.fixed, s.level.chambers.c3.fixed⟩ := congrArg Fixed.chambers hfixed
  simp only [Trio.mk.injEq] at hc
  obtain ⟨h1, h2, h3⟩ := hc
  cases d with
  | c1 => exact congrArg ChamberFixed.config h1
  | c2 => exact congrArg ChamberFixed.config h2
  | c3 => exact congrArg ChamberFixed.config h3

/-- What the positions, aspects and stations are after a report is taken. -/
theorem State.takeAlarm_reports {k : Station} {r : StationReport} (hfit : reportFits k r = true) :
    (s.takeAlarm k r).told.positions (.gate k) = some r.gate ∧
      (s.takeAlarm k r).told.positions (.sluice k) = some r.sluice ∧
      (∀ w, stationByWash k = some w → (s.takeAlarm k r).told.positions (.byWash w) = r.byWash) ∧
      (∀ x, (s.takeAlarm k r).told.aspects ⟨k, x⟩ = some (reportSide r x).aspect) ∧
      ∀ i, itemStation i ≠ k → (s.takeAlarm k r).told.positions i = s.told.positions i := by
  obtain ⟨hg, hs, hw, hother⟩ := (s.reportControl k r.inLocal).reportPositions_position k r
  rw [s.takeAlarm_told k r]
  refine ⟨hg, hs, fun w hk => ?_, fun x => if_pos rfl, fun i hi => ?_⟩
  · have hsome : r.byWash.isSome = true := by
      cases k with
      | k0 => exact nomatch hk
      | k1 => simp_all [reportFits]
      | k2 => simp_all [reportFits]
      | k3 => exact nomatch hk
    obtain ⟨p, hp⟩ := Option.isSome_iff_exists.1 hsome
    exact (hw w p hk hp).trans hp.symm
  · exact (hother i hi).trans (congrFun (congrArg Told.positions (s.reportControl_told k r.inLocal)) i)

/-- What is told is read off the line, the items, the faces and the chambers. -/
theorem State.SameFlight.told {u t : State} (h : u.SameFlight t) : t.told.stations = u.told.stations ∧
    t.told.positions = u.told.positions ∧ t.told.aspects = u.told.aspects ∧ t.told.uppers = u.told.uppers ∧
    t.told.lowers = u.told.lowers := by
  simp only [State.told, State.station, State.item, State.face, State.chamber, h.line, h.mach, h.signal, h.level,
    and_self]

/-- While the line rate stands, a state that stands after another was told what that one was told. -/
theorem State.Stands.told {u t : State} (h : u.Stands t) (hr : t.line.rate = u.line.rate) :
    t.told.stations = u.told.stations ∧ t.told.positions = u.told.positions ∧ t.told.aspects = u.told.aspects ∧
      t.told.uppers = u.told.uppers ∧ t.told.lowers = u.told.lowers := by
  have hseen := h.seen_of_rate hr
  exact ⟨congrArg Seen.stations hseen, congrArg Seen.positions hseen,
    congrArg (fun x => fun f => (x f).1) (congrArg Seen.faces hseen),
    congrArg (fun x => fun c => (x c).1) (congrArg Seen.readings hseen),
    congrArg (fun x => fun c => (x c).2) (congrArg Seen.readings hseen)⟩

end

section

variable {s : State}

/-- A good answer is handed on. -/
theorem exec_goodAnswer {k : Station} {a : Answer} {p : Poll} (hp : s.powered = true) (hpoll : s.line.poll = some p)
    (hk : p.station = k) (hgood : s.goodAnswer k p a = true) : ∃ t, exec (.goodAnswer k a) s = .next t ∧
      (((s.takeAnswer k p a).finish).hear k).SameFlight t := by
  obtain ⟨t, hexec, ht⟩ := exec_event_flight (c := .goodAnswer k a) rfl hp
  rw [State.answered, State.pollOf_eq_some hpoll hk] at ht
  dsimp only at ht
  rw [if_pos hgood] at ht
  exact ⟨t, hexec, ht⟩

theorem answerGood_fits {k : Station} {p : Poll} {a : Answer} (h : s.goodAnswer k p a = true) :
    reportFits k a.report = true := by
  simp only [State.goodAnswer, answerGood, Bool.and_eq_true] at h
  exact h.2.2

theorem goodAnswer_handed : ∀ (k : Station) (a : Answer) (p : Poll) (s : State), s.powered = true →
    s.line.poll = some p → p.station = k → s.goodAnswer k p a = true →
    ¬(p.carried = some .reset ∧ a.verdict = some .taken) →
      ∃ t, exec (.goodAnswer k a) s = .next t ∧ t.line.poll = none ∧
        t.bare s.fixed.chambers s.fixed.changeover = { s.fixed with inLocal := s.mach.inLocal.set k a.report.inLocal } ∧
        (t.line.rate = s.line.rate →
          (t.station k).state = .online ∧ (t.station k).failed = 0 ∧
          (t.item (.gate k)).position = some a.report.gate ∧
          (t.item (.sluice k)).position = some a.report.sluice ∧
          (∀ w, stationByWash k = some w → (t.item (.byWash w)).position = a.report.byWash) ∧
          (∀ c, chamberAbove k = some c → (t.chamber c).lower = a.above.map fun v => min v 20000) ∧
          (∀ c, chamberBelow k = some c → (t.chamber c).upper = a.below.map fun v => min v 20000) ∧
          (t.face ⟨k, .upper⟩).reported = some a.report.upper.aspect ∧
          (t.face ⟨k, .lower⟩).reported = some a.report.lower.aspect ∧
          (∀ j, j ≠ k → (t.station j).state = (s.station j).state ∧
            (t.station j).failed = (s.station j).failed) ∧
          (∀ i, itemStation i ≠ k → (t.item i).position = (s.item i).position)) ∧
        ∀ c g v, ((chamberAbove k = some c ∧ a.above = some v) ∨ (chamberBelow k = some c ∧ a.below = some v)) →
          (s.chamber c).config = some g → g.crest < min v 20000 →
            (t.chamber c).crest = true ∧ t.halt.state = .halted ∧ HaltCause.crest ∈ t.halt.causes := by
  intro k a p s hp hpoll hk hgood hreset
  obtain ⟨t, hexec, ht⟩ := exec_goodAnswer hp hpoll hk hgood
  rw [s.takeAnswer_eq k p a hreset] at ht
  obtain ⟨hread, hlow, hup, hraise⟩ :=
    ((s.setPoll none).enterStation k .online 0).storeReadings_told k a.above a.below
  rw [← s.answerTaken_told k p a, State.enterOnline_told, State.setPoll_told] at hread
  rw [← s.answerTaken_told k p a] at hlow hup
  have halarm := (s.answerTaken k p a).takeAlarm_told k a.report
  obtain ⟨hg, hsl, hw, hasp, hother⟩ := (s.answerTaken k p a).takeAlarm_reports (answerGood_fits hgood)
  have hcrest : ∀ d, (s.answerTaken k p a).crestAt d ↔
      (((s.setPoll none).enterStation k .online 0).storeReadings k a.above a.below).crestAt d := fun d => by
    rw [State.crestAt, State.answerTaken_told, State.crestAt]
  have hbare := ((s.answerTaken k p a).takeAlarm_bare s.fixed.chambers s.fixed.changeover k a.report).trans
    (congrArg (fun x : Fixed => { x with inLocal := (s.answerTaken k p a).mach.inLocal.set k a.report.inLocal })
      (s.answerTaken_bare k p a s.fixed.chambers s.fixed.changeover))
  have hlocal : (s.answerTaken k p a).mach.inLocal = s.mach.inLocal :=
    congrArg Fixed.inLocal (s.answerTaken_bare k p a s.fixed.chambers s.fixed.changeover)
  generalize (s.answerTaken k p a) = v at *
  have hstands := (v.takeAlarm k a.report).finish_stands.trans (State.hear_stands _ k)
  have hfixed : t.fixed = (v.takeAlarm k a.report).fixed := by
    rw [ht.fixed, State.hear_fixed, State.finish_fixed]
  have hpoll' : (v.takeAlarm k a.report).line.poll = none :=
    (congrArg Told.poll halarm).trans (congrArg Told.poll hread)
  have hrate' : (v.takeAlarm k a.report).line.rate = s.line.rate :=
    (congrArg Told.rate halarm).trans (congrArg Told.rate hread)
  refine ⟨t, hexec, ?_, ?_, fun hr => ?_, fun c g w hv hcfg hlt => ?_⟩
  · rw [ht.line]
    exact hstands.poll hpoll'
  · rw [State.bare_of_fixed _ _ hfixed, hbare, hlocal]
    rfl
  · rw [ht.line] at hr
    obtain ⟨kst, kpos, kasp, kup, klow⟩ := hstands.told (hr.trans hrate'.symm)
    obtain ⟨tst, tpos, tasp, tup, tlow⟩ := ht.told
    have hst : t.told.stations = Function.update s.told.stations k (.online, 0) :=
      (tst.trans kst).trans ((congrArg Told.stations halarm).trans (congrArg Told.stations hread))
    have hself := congrFun hst k
    rw [Function.update_self] at hself
    obtain ⟨hstate, hfailed⟩ := Prod.mk.inj hself
    have hpos := tpos.trans kpos
    have haspect := tasp.trans kasp
    have hvpos : v.told.positions = s.told.positions := (congrArg Told.positions hread :)
    refine ⟨hstate, hfailed, (congrFun hpos _).trans hg, (congrFun hpos _).trans hsl,
      fun w hkw => (congrFun hpos _).trans (hw w hkw), fun c hc => ?_, fun c hc => ?_,
      (congrFun haspect _).trans (hasp .upper), (congrFun haspect _).trans (hasp .lower), fun j hj => ?_, fun i hi => ?_⟩
    · exact (congrFun (tlow.trans (klow.trans (congrArg Told.lowers halarm))) c).trans (hlow c hc)
    · exact (congrFun (tup.trans (kup.trans (congrArg Told.uppers halarm))) c).trans (hup c hc)
    · have hj' := congrFun hst j
      rw [Function.update_of_ne hj] at hj'
      exact Prod.mk.inj hj'
    · exact ((congrFun hpos i).trans (hother i hi)).trans (congrFun hvpos i)
  · have hcfg' : (((s.setPoll none).enterStation k .online 0).chamber c).config = some g :=
      ((s.setPoll none).enterStation_config k .online 0 c).trans hcfg
    obtain ⟨hset, hhand⟩ := (hcrest c).2 (hraise c g w hv hcfg' hlt)
    have hhand' : HaltCause.crest ∈ (v.takeAlarm k a.report).hand.toHalt :=
      of_decide_eq_true ((congrArg Told.crest halarm).trans hhand)
    obtain ⟨hh, hm⟩ := State.finish_halts hhand' (by decide)
    rw [ht.halt]
    refine ⟨?_, (State.hear_stands _ k).halted _ hm hh⟩
    rw [State.crest_of_fixed hfixed]
    exact (congrFun (congrArg Told.crests halarm) c).trans hset

/-! ### A TAKEN reset -/

theorem resetTaken_handed : ∀ (k : Station) (a : Answer) (p : Poll) (s : State), s.powered = true →
    s.line.poll = some p → p.station = k → s.goodAnswer k p a = true → p.carried = some .reset →
    a.verdict = some .taken → ∃ t, exec (.goodAnswer k a) s = .next t ∧ t.fixed = s.fixed ∧ t.line.poll = none ∧
      (t.line.rate = s.line.rate → (t.station k).state = .resetting ∧ (t.station k).failed = 0) := by
  intro k a p s hp hpoll hk hgood hc hv
  obtain ⟨t, hexec, ht⟩ := exec_goodAnswer hp hpoll hk hgood
  have hact : s.takeAnswer k p a = (s.setPoll none).resetTaken k := if_pos ⟨hc, hv⟩
  rw [hact] at ht
  have htold : ((s.setPoll none).resetTaken k).told.stations = Function.update s.told.stations k (.resetting, 0) ∧
      ((s.setPoll none).resetTaken k).told.poll = none ∧ ((s.setPoll none).resetTaken k).told.rate = s.line.rate := by
    unfold State.resetTaken
    dsimp only
    rw [State.noticeStation_told]
    obtain ⟨h1, h2, h3⟩ := State.stationEffects_stations (((s.setPoll none).setQueue k
      (dropPolled ((s.setPoll none).station k).queue)).setStation k { ((s.setPoll none).setQueue k
        (dropPolled ((s.setPoll none).station k).queue)).station k with state := .resetting, failed := 0 }) k .resetting
    rw [State.stationEffects] at h1 h2 h3
    rw [h1, h2, h3, State.setStation_told, State.setQueue_told, State.setPoll_told]
    exact ⟨rfl, rfl, rfl⟩
  have hfixed : ((s.setPoll none).resetTaken k).fixed = s.fixed :=
    (State.resetTaken_fixed _ k).trans (State.setPoll_fixed _ _)
  generalize (s.setPoll none).resetTaken k = u at ht htold hfixed
  obtain ⟨hst, hnone, hrate⟩ := htold
  have hstands := u.finish_stands.trans (State.hear_stands _ k)
  refine ⟨t, hexec, ?_, ?_, fun hr => ?_⟩
  · rw [ht.fixed, State.hear_fixed, State.finish_fixed, hfixed]
  · rw [ht.line]
    exact hstands.poll hnone
  · rw [ht.line] at hr
    obtain ⟨kst, -⟩ := hstands.told (hr.trans hrate.symm)
    have hself := congrFun ((ht.told.1.trans kst).trans hst) k
    rw [Function.update_self] at hself
    exact Prod.mk.inj hself

/-! ### An alarm frame -/

theorem exec_alarmFrame {k : Station} {r : StationReport} (hp : s.powered = true) (ht : s.alarmTaken k r = true) :
    ∃ t, exec (.alarmFrame k r) s = .next t ∧ ((s.markAlarm.takeAlarm k r).finish).SameFlight t := by
  obtain ⟨t, hexec, hflight⟩ := exec_event_flight (c := .alarmFrame k r) rfl hp
  rw [State.alarmArrives, if_pos ht] at hflight
  exact ⟨t, hexec, hflight⟩

theorem alarmFrame_handed : ∀ (k : Station) (r : StationReport) (s : State), s.powered = true →
    s.alarmTaken k r = true → ∃ t, exec (.alarmFrame k r) s = .next t ∧
      t.bare s.fixed.chambers s.fixed.changeover = { s.fixed with inLocal := s.mach.inLocal.set k r.inLocal } ∧
      (t.line.rate = s.line.rate →
        t.station k = { s.station k with queue := (t.station k).queue } ∧
        (t.item (.gate k)).position = some r.gate ∧ (t.item (.sluice k)).position = some r.sluice ∧
        (∀ w, stationByWash k = some w → (t.item (.byWash w)).position = r.byWash) ∧
        (∀ x, (t.face ⟨k, x⟩).reported = some (reportSide r x).aspect)) := by
  intro k r s hp htaken
  obtain ⟨t, hexec, ht⟩ := exec_alarmFrame hp htaken
  have hfit : reportFits k r = true := by
    simp only [State.alarmTaken, Bool.and_eq_true] at htaken
    exact htaken.2
  have halarm := s.markAlarm.takeAlarm_told k r
  obtain ⟨hg, hsl, hw, hasp, -⟩ := s.markAlarm.takeAlarm_reports hfit
  have hbare := s.markAlarm.takeAlarm_bare s.fixed.chambers s.fixed.changeover k r
  rw [State.markAlarm_told] at halarm
  generalize s.markAlarm.takeAlarm k r = u at ht halarm hg hsl hw hasp hbare
  have hrate : u.line.rate = s.line.rate := (congrArg Told.rate halarm :)
  have hfixed : t.fixed = u.fixed := by rw [ht.fixed, State.finish_fixed]
  refine ⟨t, hexec, ?_, fun hr => ?_⟩
  · rw [State.bare_of_fixed _ _ hfixed, hbare]
    rfl
  · rw [ht.line] at hr
    obtain ⟨kst, kpos, kasp, -⟩ := u.finish_stands.told (hr.trans hrate.symm)
    obtain ⟨tst, tpos, tasp, -⟩ := ht.told
    have hst : t.told.stations = s.told.stations := (tst.trans kst).trans (congrArg Told.stations halarm :)
    have hpos := tpos.trans kpos
    obtain ⟨hstate, hfailed⟩ := Prod.mk.inj (congrFun hst k)
    refine ⟨?_, (congrFun hpos _).trans hg, (congrFun hpos _).trans hsl, fun w hkw => (congrFun hpos _).trans (hw w hkw),
      fun x => (congrFun (tasp.trans kasp) _).trans (hasp x)⟩
    have hrec : ∀ x y : StationRec, x.state = y.state → x.failed = y.failed → x = { y with queue := x.queue } := by
      rintro ⟨a, b, c⟩ ⟨a', b', c'⟩ rfl rfl
      rfl
    exact hrec _ _ hstate hfailed

/-! ### Movements -/

theorem itemVerdict_moves : ∀ (i : Item) (o : ItemOrder) (m : Movement) (s : State), (s.item i).movement = some m →
    m.phase = .awaitTaken → m.queued = true → orderTarget o = some m.target →
      ((s.itemVerdict i o .taken).item i).movement = some { m with
        phase := .awaitStart, queued := false, unanswered := false
        startLimit := some (s.now +
          if isGate i then s.mach.limits.gateStart else s.mach.limits.pathStart) } ∧
      ∀ why, ((s.itemVerdict i o (.refused why)).item i).movement = none ∧
        (s.itemVerdict i o (.refused why)).holdsOrder i .stops := by
  intro i o m s hm hphase hqueued htarget
  constructor
  · unfold State.itemVerdict
    rw [hm]
    dsimp only
    rw [if_pos ⟨hphase, hqueued, htarget⟩]
    cases howner : m.owner with
    | batch n st => exact congrArg ItemRec.movement (State.item_setMovement_self s i _)
    | protective => exact congrArg ItemRec.movement (State.item_setMovement_self s i _)
  · intro why
    have hfail : s.itemVerdict i o (.refused why) = s.failMovement i .moveRefused := by
      unfold State.itemVerdict
      rw [hm]
      exact if_pos ⟨hphase, hqueued, htarget⟩
    rw [hfail]
    exact s.failMovement_ends i .moveRefused hm

theorem reportMovement_moves : ∀ (i : Item) (p : Position) (m : Movement) (s : State), (s.item i).movement = some m →
    (m.phase = .awaitStart → p = motionToward m.target →
      ((s.reportMovement i p).item i).movement = some { m with
        phase := .travel, startLimit := none, travel := .since s.now
        travelLimit := some (s.now +
          if isGate i then s.mach.limits.gateTravel else s.mach.limits.pathTravel) }) ∧
    (m.phase = .awaitStart ∨ m.phase = .travel → p = endPosition m.target →
        ((s.reportMovement i p).item i).movement = none ∧
        ∀ n st, m.owner = .batch n st →
          (s.reportMovement i p).hand.toRun = s.hand.toRun ++ [.complete n i m.target]) ∧
    (m.phase = .awaitTaken ∨ m.phase = .held → s.reportMovement i p = s) := by
  intro i p m s hm
  refine ⟨fun hphase hp => ?_, fun hphase hp => ?_, fun hphase => ?_⟩
  · have hne : p ≠ endPosition m.target := by rw [hp]; cases m.target <;> decide
    unfold State.reportMovement
    rw [hm]
    dsimp only
    rw [if_pos (.inl hphase), if_neg hne, if_pos ⟨hphase, hp⟩]
    exact congrArg ItemRec.movement (State.item_setMovement_self s i _)
  · have hact : s.reportMovement i p = (s.setMovement i none).handComplete i m := by
      unfold State.reportMovement
      rw [hm]
      dsimp only
      rw [if_pos hphase, if_pos hp]
    rw [hact]
    constructor
    · have hmach : ((s.setMovement i none).handComplete i m).mach = (s.setMovement i none).mach := by
        unfold State.handComplete
        split <;> rfl
      rw [State.item, hmach]
      exact congrArg ItemRec.movement (State.item_setMovement_self s i _)
    · intro n st howner
      unfold State.handComplete
      rw [howner]
      rfl
  · unfold State.reportMovement
    rw [hm]
    dsimp only
    rw [if_neg (by rcases hphase with h | h <;> rw [h] <;> decide)]

/-- Settles O36, from what an answer and an alarm frame make of what was told, and what a verdict and a report make
of a movement. -/
theorem goodAnswersAreHandedOn : Obligations.GoodAnswersAreHandedOn := by
  unfold Obligations.GoodAnswersAreHandedOn
  refine ⟨goodAnswer_handed, resetTaken_handed, alarmFrame_handed, fun k r s hp hheard hno => ?_, fun k r s hno => ?_,
    itemVerdict_moves, fun i p m s hm => ?_⟩
  · have hact : s.alarmArrives k r = s.markAlarm := by
      rw [State.alarmArrives, if_neg (by rw [hno]; decide), if_pos hheard]
    rw [exec_event (c := .alarmFrame k r) rfl, State.event_plain _ _ hp (by rw [hact]; rfl), hact]
    rfl
  · refine exec_event_idle (c := .alarmFrame k r) rfl ?_
    have hnot : s.alarmTaken k r = false := by simp [State.alarmTaken, hno]
    rw [State.alarmArrives, if_neg (by rw [hnot]; decide), if_neg (by rw [hno]; decide)]
  · obtain ⟨hstart, hend, hrest⟩ := reportMovement_moves i p m s hm
    refine ⟨fun hphase hp => hstart hphase (hp.trans ?_), fun hphase hp => hend hphase (hp.trans ?_), hrest⟩
    · cases m.target <;> rfl
    · cases m.target <;> rfl

end

end Sys2Proof.Machine
end

section
/-! ALL STOP WITH A CROWDED TABLE: an entry into HALTED hands each batch its suspension, and the end of a step takes at
most `settleFuel` hand-overs, so that of more batches than that the last is not suspended (against O39). The statement
bounds the batch table nowhere; at two batches, which O9 keeps, the fuel suffices. -/

namespace Sys2Proof.Machine

/-! ### Suspensions handed while not RUNNING -/

section

variable {s : State}

/-- While not RUNNING, a suspension touches its own batch, a target and the notices. -/
theorem State.suspend_notRunning (hr : s.halt.state ≠ .running) (n : Nat) (r : Reason) :
    (s.suspend n r).hand = s.hand ∧ (s.suspend n r).halt = s.halt ∧
      ∀ m, m ≠ n → (s.suspend n r).batch? m = s.batch? m := by
  have hadd : (s.addReason n r).hand = s.hand ∧ (s.addReason n r).halt = s.halt ∧
      ∀ m, m ≠ n → (s.addReason n r).batch? m = s.batch? m := by
    unfold State.addReason
    split
    · exact ⟨rfl, rfl, fun _ _ => rfl⟩
    · rename_i b _
      split
      · exact ⟨rfl, rfl, fun _ _ => rfl⟩
      · dsimp only
        rw [State.noticeSuspended, State.notify_withNotices]
        refine ⟨rfl, rfl, fun m hm => ?_⟩
        exact (State.batch?_modBatch s m n (f := fun b' => { b' with reasons := insertIn allReasons r b.reasons })
          (fun _ => rfl)).trans (if_neg hm)
  obtain ⟨hhand, hhalt, hother⟩ := hadd
  have hsafe : ∀ (t : State) (b : Batch), t.halt.state ≠ .running → b.number = n →
      (t.makeSafe b).hand = t.hand ∧ (t.makeSafe b).halt = t.halt ∧
        ∀ m, m ≠ n → (t.makeSafe b).batch? m = t.batch? m := by
    intro t b ht hb
    have htarget : ∀ p, (t.withdrawTarget b.current p).hand = t.hand ∧ (t.withdrawTarget b.current p).halt = t.halt ∧
        (t.withdrawTarget b.current p).traffic = t.traffic := fun p => by
      unfold State.withdrawTarget
      split <;> exact ⟨rfl, rfl, rfl⟩
    unfold State.makeSafe
    split
    · refine ⟨rfl, rfl, fun m hm => ?_⟩
      exact (State.batch?_modBatch t m b.number (f := fun x => { x with preparation := [] }) (fun _ => rfl)).trans
        (if_neg (hb ▸ hm))
    · rename_i x _
      obtain ⟨h1, h2, h3⟩ := htarget x.phase
      have hrun : isRunning ((t.withdrawTarget b.current x.phase).modBatch b.number fun x =>
          { x with preparation := [], step := x.step.map StepRec.halted }) = false := by
        rw [isRunning, State.modBatch_halt, h2]
        simpa using ht
      dsimp only
      rw [if_neg (by rw [hrun]; decide)]
      refine ⟨h1, h2, fun m hm => ?_⟩
      refine (State.batch?_modBatch _ m b.number (f := fun x =>
        { x with preparation := [], step := x.step.map StepRec.halted }) (fun _ => rfl)).trans ?_
      rw [if_neg (hb ▸ hm), State.batch?_of_batches (congrArg Traffic.batches h3)]
  unfold State.suspend
  split
  · exact ⟨rfl, rfl, fun _ _ => rfl⟩
  · rename_i b hb
    split
    · exact ⟨hhand, hhalt, hother⟩
    · obtain ⟨k1, k2, k3⟩ := hsafe (s.addReason n r) b (by rwa [hhalt]) (State.batch?_some hb).1
      exact ⟨k1.trans hhand, k2.trans hhalt, fun m hm => (k3 m hm).trans (hother m hm)⟩

/-- A batch whose suspension stands behind more hand-overs than there are rounds is not reached. -/
theorem State.settleLoop_unreached (m : Nat) : ∀ (k : Nat) (s : State) (ns : List Nat) (rest : List RunEvent),
    s.halt.state ≠ .running → s.hand.toRun = ns.map (fun n => .suspend n .halt) ++ rest → m ∉ ns → ns.length = k →
      (State.settleLoop k s).batch? m = s.batch? m ∧ (State.settleLoop k s).hand.toHalt = s.hand.toHalt := by
  intro k
  induction k with
  | zero => exact fun s _ _ _ _ _ _ => ⟨rfl, rfl⟩
  | succ k ih =>
    intro s ns rest hr hrun hm hlen
    cases ns with
    | nil => exact nomatch hlen
    | cons n ns =>
      have hone : s.settleOne = some (s.popEvent.suspend n .halt) := by
        unfold State.settleOne
        rw [hrun]
        rfl
      obtain ⟨hhand, hhalt, hother⟩ := State.suspend_notRunning (s := s.popEvent) hr n .halt
      have hne : m ≠ n := fun h => hm (h ▸ List.mem_cons_self)
      have hpop : (s.popEvent.suspend n .halt).hand.toRun = ns.map (fun n => .suspend n .halt) ++ rest := by
        rw [hhand]
        exact congrArg (List.drop 1) hrun
      obtain ⟨h1, h2⟩ := ih (s.popEvent.suspend n .halt) ns rest (by rw [hhalt]; exact hr) hpop
        (fun h => hm (List.mem_cons_of_mem n h)) (Nat.succ.inj hlen)
      have hstep : State.settleLoop (k + 1) s = State.settleLoop k (s.popEvent.suspend n .halt) := by
        rw [State.settleLoop, hone]
      rw [hstep]
      exact ⟨h1.trans (hother m hne), h2.trans (by rw [hhand]; rfl)⟩

theorem State.settleLoop_of_none (h : s.settleOne = none) (k : Nat) : State.settleLoop k s = s := by
  cases k with
  | zero => rfl
  | succ k => rw [State.settleLoop, h]

theorem State.finalFaces_batches (s : State) : s.deriveFaces.indications.traffic.batches = s.traffic.batches := by
  obtain ⟨h, -⟩ := State.settlesTo_trans (State.settlesTo_deriveFaces s) (State.settlesTo_indications _)
  rw [h]

end

/-! ### The crowded table -/

/-- A batch of no vessels, with a number. -/
def crowdBatch (n : Nat) : Batch :=
  { number := n, direction := .up, members := [], admitDay := 1, admitTime := 0, night := false, edition := 0
    reasons := [], position := .one, moved := false, preparation := []
    meter := { rise := 0, segment := none, estimated := false, startUpMark := false }
    entered := false, cleared := false, step := none }

/-- The part right after power-on, but RUNNING and with a table of batches. -/
def crowded (bs : List Batch) : State := { State.reset with
  halt := { State.reset.halt with state := .running, causes := [] }
  traffic := { State.reset.traffic with batches := bs } }

/-- Batches numbered from 0. -/
def crowd (n : Nat) : List Batch := (List.range n).map crowdBatch

theorem crowded_calm (n : Nat) : (crowded (crowd n)).calm := by
  refine ⟨rfl, fun b hb => .inr ?_⟩
  obtain ⟨m, -, rfl⟩ := List.mem_map.1 (show b ∈ (List.range n).map crowdBatch from hb)
  exact nofun

theorem foldl_suspends (ns : List Nat) : ∀ t : State,
    (ns.foldl (fun s n => s.emit (.suspend n .halt)) t).hand.toRun = t.hand.toRun ++ ns.map (fun n => .suspend n .halt) ∧
      (ns.foldl (fun s n => s.emit (.suspend n .halt)) t).hand.toHalt = t.hand.toHalt ∧
      (ns.foldl (fun s n => s.emit (.suspend n .halt)) t).traffic = t.traffic ∧
      (ns.foldl (fun s n => s.emit (.suspend n .halt)) t).halt = t.halt := by
  induction ns with
  | nil => exact fun t => ⟨(List.append_nil _).symm, rfl, rfl, rfl⟩
  | cons n ns ih =>
    intro t
    obtain ⟨h1, h2, h3, h4⟩ := ih (t.emit (.suspend n .halt))
    refine ⟨?_, h2, h3, h4⟩
    rw [List.foldl_cons, h1, State.toRun_emit, List.map_cons, List.append_assoc]
    rfl

/-- The entry into HALTED hands over the suspension of each batch, and nothing else. -/
theorem crowded_takeCauses (bs : List Batch) : ∃ t, ((crowded bs).popRequest.handCause .allStop).takeCauses = t ∧
    t.halt.state ≠ .running ∧ t.traffic.batches = bs ∧ t.hand.toHalt = [] ∧
      t.hand.toRun = (bs.map (·.number)).map fun n => .suspend n .halt := by
  obtain ⟨v, hv⟩ : ∃ v, v = ((({ (crowded bs).popRequest with hand :=
      { (crowded bs).popRequest.hand with toHalt := [] } } : State).haltedBy .allStop).lineHalted
        .allStop).cancelMovements.dropFaceRequests := ⟨_, rfl⟩
  have htake : ((crowded bs).popRequest.handCause .allStop).takeCauses =
      ((v.traffic.batches.map (·.number)).foldl (fun s n => s.emit (.suspend n .halt)) v).noticeHalt := by
    rw [hv]
    rfl
  have hbatches : v.traffic.batches = bs := by rw [hv]; rfl
  have hhand : v.hand.toRun = [] ∧ v.hand.toHalt = [] ∧ v.halt.state = .halted := by
    rw [hv]
    exact ⟨rfl, rfl, rfl⟩
  obtain ⟨hrun, htohalt, hhalt⟩ := hhand
  obtain ⟨h1, h2, h3, h4⟩ := foldl_suspends (v.traffic.batches.map (·.number)) v
  refine ⟨_, rfl, ?_, ?_, ?_, ?_⟩ <;> rw [htake, State.noticeHalt, State.notify_withNotices]
  · exact fun h => absurd ((congrArg Halt.state h4).symm.trans h) (by rw [hhalt]; decide)
  · exact (congrArg Traffic.batches h3).trans hbatches
  · exact h2.trans htohalt
  · refine h1.trans ?_
    rw [hrun, hbatches]
    rfl

/-- The last batch keeps its reasons through the end of the step. -/
theorem crowded_finish : ∃ b, ((crowded (crowd (settleFuel + 1))).popRequest.handCause .allStop).finish.batch? settleFuel =
    some b ∧ b.reasons = [] := by
  generalize hn : settleFuel = n
  have hnone : ((crowded (crowd (n + 1))).popRequest.handCause .allStop).settleOne = none := by
    have hclaim : (crowd (n + 1)).find? ((crowded (crowd (n + 1))).popRequest.handCause .allStop).canClaim = none := by
      refine List.find?_eq_none.2 fun b hb => ?_
      obtain ⟨m, -, rfl⟩ := List.mem_map.1 (show b ∈ (List.range (n + 1)).map crowdBatch from hb)
      simp [State.canClaim, crowdBatch, Batch.phase?]
    unfold State.settleOne
    rw [show ((crowded (crowd (n + 1))).popRequest.handCause .allStop).traffic.batches = crowd (n + 1) from rfl, hclaim]
    rfl
  obtain ⟨t, ht, hr, hbatches, hhalt, hrun⟩ := crowded_takeCauses (crowd (n + 1))
  have hnumbers : (crowd (n + 1)).map (·.number) = List.range n ++ [n] := by
    rw [crowd, List.map_map, List.range_succ]
    exact List.map_id _
  rw [hnumbers, List.map_append] at hrun
  obtain ⟨hkept, hcauses⟩ := State.settleLoop_unreached n n t (List.range n) _ hr hrun List.not_mem_range_self
    List.length_range
  have hlast : t.batch? n = some (crowdBatch n) := by
    rw [State.batch?, hbatches, crowd, List.range_succ, List.map_append, List.find?_append]
    have hnot : ((List.range n).map crowdBatch).find? (fun b => b.number == n) = none := by
      refine List.find?_eq_none.2 fun b hb => ?_
      obtain ⟨m, hm, rfl⟩ := List.mem_map.1 hb
      have := List.mem_range.1 hm
      simp only [crowdBatch, beq_iff_eq]
      omega
    rw [hnot]
    simp [crowdBatch]
  have htaken : (State.settleLoop n t).takeCauses.traffic = (State.settleLoop n t).traffic := by
    rw [State.takeCauses, hcauses, hhalt]
    rfl
  refine ⟨crowdBatch n, ?_, rfl⟩
  rw [State.finish_eq, hn, State.settleLoop_of_none hnone, ht,
    State.batch?_of_batches (State.finalFaces_batches _), State.batch?_of_batches (congrArg Traffic.batches htaken),
    hkept, hlast]

/-- Refutes O39: of 401 batches, ALL STOP leaves the last without the reason HALT, as the end of its step takes 400
hand-overs and the entry into HALTED makes one for each batch. -/
theorem not_causesHaltTheFlight : ¬ Obligations.CausesHaltTheFlight := by
  unfold Obligations.CausesHaltTheFlight
  rintro ⟨-, hall⟩
  have htaken : (crowded (crowd (settleFuel + 1))).takesRequest (.allStop 0#8) = true := rfl
  obtain ⟨t, hexec, -, -, -, -, -, -, -, -, hbatches⟩ := hall 0#8 (crowded (crowd (settleFuel + 1))) htaken (by exact nofun)
    (crowded_calm _)
  obtain ⟨htraffic, -⟩ := exec_request_frame (c := .allStop 0#8) rfl htaken (u :=
    ((crowded (crowd (settleFuel + 1))).popRequest.handCause .allStop).finish) rfl hexec
  obtain ⟨b, hb, hreasons⟩ := crowded_finish
  have hfirst : (crowded (crowd (settleFuel + 1))).batch? settleFuel ≠ none := by
    intro h
    have hmem : crowdBatch settleFuel ∈ (crowded (crowd (settleFuel + 1))).traffic.batches :=
      List.mem_map_of_mem (List.mem_range.2 (Nat.lt_succ_self _))
    exact List.find?_eq_none.1 h _ hmem (beq_self_eq_true _)
  obtain ⟨x, hx⟩ := Option.ne_none_iff_exists'.1 hfirst
  obtain ⟨y, hy, hhalt⟩ := hbatches settleFuel x hx
  rw [State.batch?_of_batches (congrArg Traffic.batches htraffic), hb] at hy
  rw [← Option.some.inj hy, hreasons] at hhalt
  exact List.not_mem_nil hhalt

end Sys2Proof.Machine
end

section
/-! A STEP THAT ONLY SUSPENDS: when the hand-overs of a step are suspensions alone, its end takes them and tests the
waiting movements; what both keep, the end of the step keeps. -/

namespace Sys2Proof.Machine

/-! ### What is handed over, and to which batches -/

/-- The fault table, the batch table and the hand-overs, but for the test of waiting movements. -/
structure Duty where
  faults : List FaultRec
  causes : List HaltCause
  evaluate : Bool
  events : List RunEvent
  batches : List Batch

def State.duty (s : State) : Duty :=
  { faults := s.mach.faults, causes := s.hand.toHalt, evaluate := s.hand.evaluate, events := s.hand.toRun
    batches := s.traffic.batches }

section

variable (s : State)

@[simp] theorem State.setMovement_duty (i : Item) (m : Option Movement) : (s.setMovement i m).duty = s.duty := rfl
@[simp] theorem State.setQueue_duty (k : Station) (q : List QueueEntry) : (s.setQueue k q).duty = s.duty := rfl
@[simp] theorem State.setFace_duty (f : Face) (r : FaceRec) : (s.setFace f r).duty = s.duty := rfl
@[simp] theorem State.setTarget_duty (c : Chamber) (t : Option LevelTarget) : (s.setTarget c t).duty = s.duty := rfl
@[simp] theorem State.withdraw_duty (i : Item) : (s.withdraw i).duty = s.duty := rfl
@[simp] theorem State.placeFace_duty (f : Face) (a : Aspect) : (s.placeFace f a).duty = s.duty := rfl
@[simp] theorem State.markRetest_duty : s.markRetest.duty = s.duty := rfl

@[simp] theorem State.notify_duty (k : NoticeKind) (o : Nat) (p : List Field) : (s.notify k o p).duty = s.duty := by
  rw [State.notify_withNotices]
  rfl

@[simp] theorem State.setCommand_duty (i : Item) (c : CmdState) : (s.setCommand i c).duty = s.duty := by
  unfold State.setCommand
  split <;> rfl

@[simp] theorem State.withdrawMove_duty (i : Item) : (s.withdrawMove i).duty = s.duty := by
  unfold State.withdrawMove
  repeat' split
  all_goals simp

@[simp] theorem State.orderStop_duty (i : Item) : (s.orderStop i).duty = s.duty := by
  simp [State.orderStop]

@[simp] theorem State.orderMove_duty (i : Item) (t : Target) : (s.orderMove i t).duty = s.duty := by
  simp [State.orderMove]

@[simp] theorem State.tryPlace_duty (i : Item) : (s.tryPlace i).duty = s.duty := by
  unfold State.tryPlace
  repeat' split
  all_goals simp

@[simp] theorem State.tryWithdraw_duty (i : Item) : (s.tryWithdraw i).duty = s.duty := by
  unfold State.tryWithdraw
  dsimp only
  repeat' split
  all_goals simp

@[simp] theorem State.retest_duty : s.retest.duty = s.duty := foldl_frame State.duty (fun _ _ => by simp) _ s

@[simp] theorem State.requestNew_duty (i : Item) (t : Target) (o : Owner) :
    (s.requestNew i t o).2.duty = s.duty := by
  unfold State.requestNew
  dsimp only
  split
  · rfl
  · rw [State.tryPlace_duty]
    rfl

/-- A batch that asks for a movement supersedes its owner without a word. -/
theorem State.supersede_batch (o : Owner) (n : Nat) (st : Step) : s.supersede o (.batch n st) = s := by
  cases o <;> rfl

@[simp] theorem State.requestMove_duty (i : Item) (t : Target) (n : Nat) (st : Step) :
    (s.requestMove i t (.batch n st)).2.duty = s.duty := by
  unfold State.requestMove
  repeat' split
  · rfl
  · simp
  · rfl
  · unfold State.requestReverse
    simp only [State.supersede_batch]
    repeat' split
    all_goals simp

@[simp] theorem State.requestStop_duty (i : Item) : (s.requestStop i).duty = s.duty := by
  simp [State.requestStop]

@[simp] theorem State.deriveFace_duty (f : Face) : (s.deriveFace f).duty = s.duty := by
  unfold State.deriveFace
  dsimp only
  split <;> simp

@[simp] theorem State.withdrawStopWait_duty (f : Face) (n : Nat) : (s.withdrawStopWait f n).duty = s.duty := by
  unfold State.withdrawStopWait
  repeat' split
  all_goals simp

/-- A stop wait just asked is answered, if at all, to the batch that asked. -/
theorem State.requestFaceStop_duty (f : Face) (n : Nat) (st : Step) : (s.requestFaceStop f n st).duty = s.duty ∨
    (s.requestFaceStop f n st).duty = { s.duty with events := s.hand.toRun ++ [.faceStopped n st] } := by
  have hface : ((s.setFace f { s.face f with request := none }).deriveFace f).duty = s.duty := by simp
  unfold State.requestFaceStop
  dsimp only
  generalize (s.setFace f { s.face f with request := none }).deriveFace f = t at hface
  unfold State.answerStopWait
  rw [State.face_setFace_self]
  dsimp only
  split
  · refine .inr ?_
    rw [← hface]
    exact congrArg (fun e => { t.duty with events := e ++ [RunEvent.faceStopped n st] }) (congrArg Duty.events hface)
  · exact .inl hface

end

/-! ### What a suspension does to the batches -/

/-- A batch may lose everything but its number, its phase and its suspension. -/
def Batch.kept (b b' : Batch) : Prop :=
  b'.number = b.number ∧ b'.phase? = b.phase? ∧ (b.suspended = true → b'.suspended = true)

/-- The batches of `t` are those of `s`, none taken out of suspension or to another phase; what more it hands over is
the answer to a suspended batch's stop wait. -/
structure State.Eases (s t : State) : Prop where
  faults : t.mach.faults = s.mach.faults
  causes : t.hand.toHalt = s.hand.toHalt
  evaluate : t.hand.evaluate = s.hand.evaluate
  batches : ∃ f : Batch → Batch, t.traffic.batches = s.traffic.batches.map f ∧ ∀ b : Batch, b.kept (f b)
  reasons : ∀ n b, s.batch? n = some b → ∃ b', t.batch? n = some b' ∧ ∀ r ∈ b.reasons, r ∈ b'.reasons
  events : ∀ e ∈ t.hand.toRun, e ∈ s.hand.toRun ∨ ∃ n st, e = .faceStopped n st ∧ t.active? n = none

section

variable {s t u : State}

theorem Batch.kept_refl (b : Batch) : b.kept b := ⟨rfl, rfl, id⟩

theorem suspended_of_mem {b : Batch} {r : Reason} (h : r ∈ b.reasons) : b.suspended = true := by
  rw [Batch.suspended, List.isEmpty_eq_false_iff.2 (List.ne_nil_of_mem h)]
  rfl

theorem State.batch?_of_map {f : Batch → Batch} (h : t.traffic.batches = s.traffic.batches.map f)
    (hf : ∀ b : Batch, b.kept (f b)) (n : Nat) : t.batch? n = (s.batch? n).map f := by
  rw [State.batch?, h]
  exact find_map_number (fun b => (hf b).1) _

theorem State.active?_eq_none (s : State) (n : Nat) : s.active? n = none ↔
    ∀ b, s.batch? n = some b → b.step = none ∨ b.suspended = true := by
  unfold State.active?
  cases hb : s.batch? n with
  | none => simp
  | some b =>
    cases hr : b.step with
    | none => simp [hr]
    | some r => by_cases hs : b.suspended = true <;> simp [hr, hs]

theorem State.Eases.inactive (h : s.Eases t) {n : Nat} (hn : s.active? n = none) : t.active? n = none := by
  obtain ⟨f, hmap, hf⟩ := h.batches
  rw [State.active?_eq_none] at hn ⊢
  intro b hb
  rw [State.batch?_of_map hmap hf] at hb
  obtain ⟨a, ha, rfl⟩ := Option.map_eq_some_iff.1 hb
  obtain ⟨-, hphase, hsus⟩ := hf a
  refine (hn a ha).imp (fun hnone => ?_) hsus
  rw [Batch.phase?, Batch.phase?, hnone] at hphase
  exact Option.map_eq_none_iff.1 hphase

theorem State.Eases.of_duty (h : t.duty = s.duty) : s.Eases t := by
  have hevents : t.hand.toRun = s.hand.toRun := congrArg Duty.events h
  have hbatches : t.traffic.batches = s.traffic.batches := congrArg Duty.batches h
  refine ⟨congrArg Duty.faults h, congrArg Duty.causes h, congrArg Duty.evaluate h, ⟨id, ?_, Batch.kept_refl⟩,
    fun n b hb => ⟨b, (State.batch?_of_batches hbatches n).trans hb, fun _ => id⟩, fun e he => .inl (hevents ▸ he)⟩
  rw [List.map_id, hbatches]

theorem State.Eases.trans (h : s.Eases t) (k : t.Eases u) : s.Eases u := by
  obtain ⟨f, hmap, hf⟩ := h.batches
  obtain ⟨g, hmap', hg⟩ := k.batches
  refine ⟨k.faults.trans h.faults, k.causes.trans h.causes, k.evaluate.trans h.evaluate, ⟨g ∘ f, ?_, fun b => ?_⟩,
    fun n b hb => ?_, fun e he => ?_⟩
  · rw [hmap', hmap, List.map_map]
  · obtain ⟨h1, h2, h3⟩ := hf b
    obtain ⟨k1, k2, k3⟩ := hg (f b)
    exact ⟨k1.trans h1, k2.trans h2, fun hb => k3 (h3 hb)⟩
  · obtain ⟨b', hb', hr⟩ := h.reasons n b hb
    obtain ⟨b'', hb'', hr'⟩ := k.reasons n b' hb'
    exact ⟨b'', hb'', fun r hm => hr' r (hr r hm)⟩
  · rcases k.events e he with he | he
    · rcases h.events e he with he | ⟨n, st, rfl, hn⟩
      · exact .inl he
      · exact .inr ⟨n, st, rfl, k.inactive hn⟩
    · exact .inr he

theorem State.modBatch_eases (s : State) (n : Nat) (f : Batch → Batch) (hf : ∀ b : Batch, b.kept (f b))
    (hr : ∀ b, s.batch? n = some b → ∀ r ∈ b.reasons, r ∈ (f b).reasons) : s.Eases (s.modBatch n f) := by
  refine ⟨rfl, rfl, rfl, ⟨fun b => if b.number = n then f b else b, rfl, fun b => ?_⟩, fun m b hb => ?_,
    fun e he => .inl he⟩
  · dsimp only
    split
    · exact hf b
    · exact b.kept_refl
  · rw [State.batch?_modBatch s m n fun b => (hf b).1, hb]
    split
    · rename_i hm
      exact ⟨f b, rfl, hr b (hm ▸ hb)⟩
    · exact ⟨b, rfl, fun _ => id⟩

theorem mem_allReasons (r : Reason) : r ∈ allReasons := by cases r <;> decide

theorem mem_insertIn_reasons {r x : Reason} {rs : List Reason} : r ∈ insertIn allReasons x rs ↔ r = x ∨ r ∈ rs := by
  simp [insertIn, mem_allReasons]

theorem State.addReason_eases (s : State) (n : Nat) (r : Reason) : s.Eases (s.addReason n r) := by
  unfold State.addReason
  split
  · exact .of_duty rfl
  · rename_i b hb
    split
    · exact .of_duty rfl
    · refine (s.modBatch_eases n (fun b' => { b' with reasons := insertIn allReasons r b.reasons })
        (fun b' => ⟨rfl, rfl, fun _ => ?_⟩) fun b' hb' x hx => ?_).trans (.of_duty ?_)
      · exact suspended_of_mem (r := r) (mem_insertIn_reasons.2 (.inl rfl))
      · obtain rfl := Option.some.inj (hb.symm.trans hb')
        exact mem_insertIn_reasons.2 (.inr hx)
      · rw [State.noticeSuspended, State.notify_duty]

/-- A batch in the table has the reason it is given. -/
theorem State.batch?_addReason (s : State) {n : Nat} {b : Batch} (h : s.batch? n = some b) (r : Reason) :
    ∃ rs, (s.addReason n r).batch? n = some { b with reasons := rs } ∧ r ∈ rs ∧ ∀ x ∈ b.reasons, x ∈ rs := by
  unfold State.addReason
  rw [h]
  dsimp only
  split
  · rename_i hc
    exact ⟨b.reasons, h, List.contains_iff_mem.1 hc, fun _ => id⟩
  · refine ⟨insertIn allReasons r b.reasons, ?_, mem_insertIn_reasons.2 (.inl rfl),
      fun x hx => mem_insertIn_reasons.2 (.inr hx)⟩
    rw [State.noticeSuspended, State.batch?_of_batches (congrArg Duty.batches (State.notify_duty _ _ _ _)),
      State.batch?_modBatch s n n (f := fun b' => { b' with reasons := insertIn allReasons r b.reasons }) (fun _ => rfl),
      if_pos rfl, h]
    rfl

theorem State.addReason_inactive (s : State) (n : Nat) (r : Reason) : (s.addReason n r).active? n = none := by
  rw [State.active?_eq_none]
  intro b hb
  cases hs : s.batch? n with
  | none =>
    have hsame : s.addReason n r = s := by rw [State.addReason, hs]
    rw [hsame, hs] at hb
    exact nomatch hb
  | some a =>
    obtain ⟨rs, hrs, hr, -⟩ := s.batch?_addReason hs r
    rw [← Option.some.inj (hrs.symm.trans hb)]
    exact .inr (suspended_of_mem hr)

theorem State.requestFaceStop_eases (s : State) (f : Face) {n : Nat} (st : Step) (hn : s.active? n = none) :
    s.Eases (s.requestFaceStop f n st) := by
  rcases s.requestFaceStop_duty f n st with h | h
  · exact .of_duty h
  · have hbatches : (s.requestFaceStop f n st).traffic.batches = s.traffic.batches := congrArg Duty.batches h
    refine ⟨congrArg Duty.faults h, congrArg Duty.causes h, congrArg Duty.evaluate h, ⟨id, ?_, Batch.kept_refl⟩,
      fun n b hb => ⟨b, (State.batch?_of_batches hbatches n).trans hb, fun _ => id⟩, fun e he => ?_⟩
    · rw [List.map_id, hbatches]
    · rw [show (s.requestFaceStop f n st).hand.toRun = s.hand.toRun ++ [.faceStopped n st] from
        congrArg Duty.events h] at he
      rcases List.mem_append.1 he with he | he
      · exact .inl he
      · refine .inr ⟨n, st, List.mem_singleton.1 he, ?_⟩
        rw [State.active?_eq_none] at hn ⊢
        intro b hb
        rw [State.batch?_of_batches hbatches] at hb
        exact hn b hb

theorem addAnswer_eases (n : Nat) (a : MoveAnswer × State) : a.2.Eases (addAnswer n a) := by
  unfold addAnswer
  split
  · exact State.addReason_eases _ _ _
  · exact .of_duty rfl

theorem State.withdrawTarget_duty (s : State) (st : Step) (p : Phase) : (s.withdrawTarget st p).duty = s.duty := by
  unfold State.withdrawTarget
  split <;> rfl

theorem State.safeRequests_eases (s : State) {n : Nat} (d : Direction) (st : Step) (p : Phase) (hn : s.active? n = none) :
    s.Eases (s.safeRequests n d st p) := by
  have hwater : ∀ i : Item, s.Eases (addAnswer n (s.requestMove i .shut (.batch n st))) := fun i =>
    (State.Eases.of_duty (s.requestMove_duty i .shut n st)).trans (addAnswer_eases n _)
  have hstop : ∀ g : Station, s.Eases (s.requestStop (.gate g)) := fun g => .of_duty (s.requestStop_duty _)
  unfold State.safeRequests
  split
  · exact hwater _
  · exact hwater _
  · exact hwater _
  · exact hstop _
  · exact hstop _
  · rename_i g _
    exact ((hstop g).trans (State.requestFaceStop_eases _ _ st ((hstop g).inactive hn))).trans
      (.of_duty (State.withdrawStopWait_duty _ _ _))
  · exact (hstop _).trans (.of_duty (State.withdrawStopWait_duty _ _ _))
  · exact .of_duty rfl

theorem State.makeSafe_eases (s : State) (b : Batch) (hn : s.active? b.number = none) : s.Eases (s.makeSafe b) := by
  unfold State.makeSafe
  split
  · exact s.modBatch_eases _ _ (fun x => ⟨rfl, rfl, id⟩) fun _ _ _ => id
  · rename_i r _
    have hmod : s.Eases ((s.withdrawTarget b.current r.phase).modBatch b.number fun x =>
        { x with preparation := [], step := x.step.map StepRec.halted }) :=
      (State.Eases.of_duty (s.withdrawTarget_duty b.current r.phase)).trans
        (State.modBatch_eases _ _ _ (fun x => ⟨rfl, by simp [Batch.phase?, StepRec.halted, Function.comp_def], id⟩)
          fun _ _ _ => id)
    dsimp only
    split
    · exact hmod.trans (State.safeRequests_eases _ _ _ _ (hmod.inactive hn))
    · exact hmod

theorem State.suspend_eases (s : State) (n : Nat) (r : Reason) : s.Eases (s.suspend n r) := by
  have hadd := s.addReason_eases n r
  unfold State.suspend
  split
  · exact .of_duty rfl
  · rename_i b hb
    obtain ⟨hnum, -⟩ := State.batch?_some hb
    split
    · exact hadd
    · exact hadd.trans (State.makeSafe_eases _ b (by rw [hnum]; exact s.addReason_inactive n r))

end

/-! ### The rounds of such a step -/

/-- All that is handed over is suspensions, and what a suspended batch no longer waits for. -/
structure State.OnlySuspends (s : State) : Prop where
  causes : s.hand.toHalt = []
  evaluate : s.hand.evaluate = false
  claims : ∀ b ∈ s.traffic.batches, b.suspended = true ∨ b.phase? ≠ some .claiming
  events : ∀ e ∈ s.hand.toRun, (∃ n r, e = .suspend n r) ∨ ∃ n st, e = .faceStopped n st ∧ s.active? n = none

section

variable {s t : State}

theorem State.Eases.onlySuspends (h : s.Eases t) (hs : s.OnlySuspends) : t.OnlySuspends := by
  obtain ⟨f, hmap, hf⟩ := h.batches
  refine ⟨h.causes.trans hs.causes, h.evaluate.trans hs.evaluate, fun b hb => ?_, fun e he => ?_⟩
  · rw [hmap] at hb
    obtain ⟨a, ha, rfl⟩ := List.mem_map.1 hb
    obtain ⟨-, hphase, hsus⟩ := hf a
    exact (hs.claims a ha).imp hsus fun hne => by rwa [hphase]
  · rcases h.events e he with he | he
    · exact (hs.events e he).imp id fun ⟨n, st, heq, hn⟩ => ⟨n, st, heq, h.inactive hn⟩
    · exact .inr he

theorem State.OnlySuspends.popEvent (hs : s.OnlySuspends) : s.popEvent.OnlySuspends :=
  ⟨hs.causes, hs.evaluate, hs.claims, fun e he => hs.events e (List.mem_of_mem_drop he)⟩

theorem State.OnlySuspends.claim (hs : s.OnlySuspends) : s.traffic.batches.find? s.canClaim = none := by
  refine List.find?_eq_none.2 fun b hb => ?_
  rcases hs.claims b hb with h | h
  · simp [State.canClaim, h]
  · simp [State.canClaim, h]

/-- A round takes a suspension, passes over an answer, or tests the waiting movements. -/
theorem State.OnlySuspends.round (hs : s.OnlySuspends) (h : s.settleOne = some t) : t.OnlySuspends ∧
    ((∃ n r rest, s.hand.toRun = .suspend n r :: rest ∧ t = s.popEvent.suspend n r) ∨ t = s.popEvent ∨
      t = ({ s with hand := { s.hand with retest := false } } : State).retest) := by
  rcases State.settleOne_cases h with ⟨e, rest, he, rfl⟩ | ⟨-, ⟨b, hb, -⟩ | ⟨heval, -⟩ | ⟨-, rfl⟩⟩
  · rcases hs.events e (he ▸ List.mem_cons_self) with ⟨n, r, rfl⟩ | ⟨n, st, rfl, hn⟩
    · exact ⟨(State.suspend_eases _ n r).onlySuspends hs.popEvent, .inl ⟨n, r, rest, he, rfl⟩⟩
    · have hpass : s.popEvent.deliver (.faceStopped n st) = s.popEvent := by
        have hnone : s.popEvent.active? n = none := hn
        simp only [State.deliver, State.takeFaceStopped, hnone]
      rw [hpass]
      exact ⟨hs.popEvent, .inr (.inl rfl)⟩
  · rw [hs.claim] at hb
    exact nomatch hb
  · rw [hs.evaluate] at heval
    exact nomatch heval
  · have hclear : ({ s with hand := { s.hand with retest := false } } : State).OnlySuspends :=
      ⟨hs.causes, hs.evaluate, hs.claims, hs.events⟩
    exact ⟨(State.Eases.of_duty (State.retest_duty _)).onlySuspends hclear, .inr (.inr rfl)⟩

/-- What suspensions and tests keep, the hand-overs of such a step keep, and no cause is handed. -/
theorem State.OnlySuspends.settleLoop {I : State → Prop}
    (hsus : ∀ s n r rest, s.hand.toRun = .suspend n r :: rest → I s → I (s.popEvent.suspend n r))
    (hhand : ∀ s h, I s → (∀ e ∈ h.toRun, e ∈ s.hand.toRun) → I { s with hand := h }) (htest : ∀ s, I s → I s.retest) (k : Nat) :
    ∀ s : State, s.OnlySuspends → I s → (State.settleLoop k s).OnlySuspends ∧ I (State.settleLoop k s) := by
  intro s hs hi
  refine State.settleLoop_keeps (I := fun s => s.OnlySuspends ∧ I s) (fun s t ht ⟨hs, hi⟩ => ?_) k s ⟨hs, hi⟩
  obtain ⟨hto, ⟨n, r, rest, he, rfl⟩ | rfl | rfl⟩ := hs.round ht
  · exact ⟨hto, hsus s n r rest he hi⟩
  · exact ⟨hto, hhand s _ hi fun e he => List.mem_of_mem_drop he⟩
  · exact ⟨hto, htest _ (hhand s _ hi fun e he => he)⟩

theorem State.takeCauses_of_none (h : s.hand.toHalt = []) : s.takeCauses = s := by
  rw [State.takeCauses, h]
  dsimp only [List.foldl_nil]
  rw [← h]

/-- The end of such a step: a state that keeps what suspensions and tests keep, with its faces and indications. -/
theorem State.OnlySuspends.finish {I : State → Prop} (hs : s.OnlySuspends)
    (hsus : ∀ s n r rest, s.hand.toRun = .suspend n r :: rest → I s → I (s.popEvent.suspend n r))
    (hhand : ∀ s h, I s → (∀ e ∈ h.toRun, e ∈ s.hand.toRun) → I { s with hand := h }) (htest : ∀ s, I s → I s.retest)
    (hi : I s) : ∃ v, s.finish = v.deriveFaces.indications ∧ I v ∧ v.settlesTo s.finish := by
  obtain ⟨hs1, hi1⟩ := State.OnlySuspends.settleLoop hsus hhand htest settleFuel s hs hi
  obtain ⟨hs2, hi2⟩ := State.OnlySuspends.settleLoop hsus hhand htest settleFuel _ hs1 hi1
  have heq := s.finish_eq
  rw [State.takeCauses_of_none hs1.causes, State.takeCauses_of_none hs2.causes] at heq
  refine ⟨_, heq, hi2, ?_⟩
  rw [heq]
  exact State.settlesTo_trans (State.settlesTo_deriveFaces _) (State.settlesTo_indications _)

theorem State.onlySuspends_of_calm {u : State} (hc : s.calm) (hb : u.traffic.batches = s.traffic.batches)
    (hcause : u.hand.toHalt = []) (hev : u.hand.evaluate = false)
    (he : ∀ e ∈ u.hand.toRun, ∃ n r, e = .suspend n r) : u.OnlySuspends :=
  ⟨hcause, hev, fun b hm => hc.2 b (hb ▸ hm), fun e h => .inl (he e h)⟩

theorem State.settlesTo.mach (h : s.settlesTo t) : t.mach = s.mach := congrArg (·.mach) h.1

theorem State.settlesTo.batch? (h : s.settlesTo t) (n : Nat) : t.batch? n = s.batch? n :=
  State.batch?_of_batches (congrArg (·.traffic.batches) h.1) n

/-- Such a step leaves the fault table as it stands. -/
theorem State.OnlySuspends.finish_faults (hs : s.OnlySuspends) : s.finish.mach.faults = s.mach.faults := by
  obtain ⟨v, -, hv, hset⟩ := hs.finish (I := fun t => t.mach.faults = s.mach.faults)
    (fun t n r _ _ ht => (State.suspend_eases _ n r).faults.trans ht) (fun _ _ ht _ => ht)
    (fun t ht => (congrArg Duty.faults t.retest_duty).trans ht) rfl
  rw [hset.mach, hv]

/-- A batch with a reason keeps it. -/
theorem State.OnlySuspends.finish_reasons (hs : s.OnlySuspends) {n : Nat} {r : Reason}
    (h : ∃ y, s.batch? n = some y ∧ r ∈ y.reasons) : ∃ y, s.finish.batch? n = some y ∧ r ∈ y.reasons := by
  obtain ⟨v, -, ⟨y, hy, hr⟩, hset⟩ := hs.finish (I := fun t => ∃ y, t.batch? n = some y ∧ r ∈ y.reasons)
    (fun t m x _ _ ⟨y, hy, hr⟩ => by
      obtain ⟨y', hy', hr'⟩ := (State.suspend_eases t.popEvent m x).reasons n y hy
      exact ⟨y', hy', hr' r hr⟩)
    (fun _ _ ht _ => ht)
    (fun t ⟨y, hy, hr⟩ => ⟨y, (State.batch?_of_batches (congrArg Duty.batches t.retest_duty) n).trans hy, hr⟩) h
  exact ⟨y, (hset.batch? n).trans hy, hr⟩

/-- The end of a step takes its first hand-over at once. -/
theorem State.finish_first {e : RunEvent} {rest : List RunEvent} (he : s.hand.toRun = e :: rest) :
    s.finish = (State.settleLoop settleFuel
      (State.settleLoop 399 (s.popEvent.deliver e)).takeCauses).takeCauses.deriveFaces.indications := by
  have hone : s.settleOne = some (s.popEvent.deliver e) := by
    unfold State.settleOne
    rw [he]
  have hloop : State.settleLoop settleFuel s = State.settleLoop 399 (s.popEvent.deliver e) := by
    rw [settleFuel, State.settleLoop, hone]
  rw [State.finish_eq, hloop]

/-- As `State.OnlySuspends.finish`, from the state that the first suspension leaves. -/
theorem State.OnlySuspends.finish_after {I : State → Prop} (hs : s.OnlySuspends) {m : Nat} {x : Reason}
    {more : List RunEvent} (hrun : s.hand.toRun = .suspend m x :: more)
    (hsus : ∀ s n r rest, s.hand.toRun = .suspend n r :: rest → I s → I (s.popEvent.suspend n r))
    (hhand : ∀ s h, I s → (∀ e ∈ h.toRun, e ∈ s.hand.toRun) → I { s with hand := h }) (htest : ∀ s, I s → I s.retest)
    (hi : I (s.popEvent.suspend m x)) : ∃ v, I v ∧ v.settlesTo s.finish := by
  have hfirst : (s.popEvent.suspend m x).OnlySuspends := (State.suspend_eases _ m x).onlySuspends hs.popEvent
  obtain ⟨hs1, hi1⟩ := State.OnlySuspends.settleLoop hsus hhand htest 399 _ hfirst hi
  obtain ⟨hs2, hi2⟩ := State.OnlySuspends.settleLoop hsus hhand htest settleFuel _ hs1 hi1
  have heq := State.finish_first hrun
  rw [show s.popEvent.deliver (.suspend m x) = s.popEvent.suspend m x from rfl,
    State.takeCauses_of_none hs1.causes, State.takeCauses_of_none hs2.causes] at heq
  refine ⟨_, hi2, ?_⟩
  rw [heq]
  exact State.settlesTo_trans (State.settlesTo_deriveFaces _) (State.settlesTo_indications _)

/-- A batch in the table has the reason it is given. -/
theorem State.batch?_suspend {n : Nat} {b : Batch} (h : s.batch? n = some b) (r : Reason) :
    ∃ y, (s.suspend n r).batch? n = some y ∧ r ∈ y.reasons := by
  obtain ⟨rs, hb, hr, -⟩ := s.batch?_addReason h r
  unfold State.suspend
  rw [h]
  dsimp only
  split
  · exact ⟨_, hb, hr⟩
  · obtain ⟨hnum, -⟩ := State.batch?_some h
    obtain ⟨y, hy, hys⟩ := (State.makeSafe_eases (s.addReason n r) b
      (by rw [hnum]; exact s.addReason_inactive n r)).reasons n _ hb
    exact ⟨y, hy, hys r hr⟩

/-- A batch whose suspension is handed over first is suspended for its reason. -/
theorem State.OnlySuspends.finish_reason (hs : s.OnlySuspends) {n : Nat} {r : Reason} {b : Batch}
    {more : List RunEvent} (hrun : s.hand.toRun = .suspend n r :: more) (hb : s.batch? n = some b) :
    ∃ y, s.finish.batch? n = some y ∧ r ∈ y.reasons := by
  obtain ⟨v, ⟨y, hy, hr⟩, hset⟩ := hs.finish_after (I := fun t => ∃ y, t.batch? n = some y ∧ r ∈ y.reasons) hrun
    (fun t m x _ _ ⟨y, hy, hr⟩ => by
      obtain ⟨y', hy', hr'⟩ := (State.suspend_eases t.popEvent m x).reasons n y hy
      exact ⟨y', hy', hr' r hr⟩)
    (fun _ _ ht _ => ht)
    (fun t ⟨y, hy, hr⟩ => ⟨y, (State.batch?_of_batches (congrArg Duty.batches t.retest_duty) n).trans hy, hr⟩)
    (State.batch?_suspend (s := s.popEvent) hb r)
  exact ⟨y, (hset.batch? n).trans hy, hr⟩

end

end Sys2Proof.Machine
end

section
/-! THE OVERLOAD BLANK TIMER AND THE RESUME DELAY: what their expiries take, raise, release and escalate (O31), with what
suspensions and tests leave of an item that has been stopped. -/

namespace Sys2Proof.Machine

/-! ### A step at one item leaves another as it is -/

/-- An item keeps its record, and the STOP that waits for it. -/
structure State.KeepsStop (i : Item) (s t : State) : Prop where
  item : t.item i = s.item i
  stop : s.holdsOrder i .stops → t.holdsOrder i .stops

section

variable {i j : Item} {s t u : State}

theorem State.KeepsStop.refl (i : Item) (s : State) : State.KeepsStop i s s := ⟨rfl, id⟩

theorem State.KeepsStop.trans (h : State.KeepsStop i s t) (k : State.KeepsStop i t u) : State.KeepsStop i s u :=
  ⟨k.item.trans h.item, k.stop ∘ h.stop⟩

theorem State.KeepsStop.of_same (hm : t.mach = s.mach) (hl : t.line = s.line) : State.KeepsStop i s t := by
  refine ⟨by rw [State.item, hm]; rfl, fun h => ?_⟩
  unfold State.holdsOrder State.station at h ⊢
  rwa [hl]

theorem State.KeepsStop.foldl {α : Type} {f : State → α → State} (h : ∀ s a, State.KeepsStop i s (f s a)) (xs : List α)
    (s : State) : State.KeepsStop i s (xs.foldl f s) :=
  foldl_keeps (I := State.KeepsStop i s) (fun _ _ ht => ht.trans (h _ _)) xs s (.refl i s)

theorem stationByWash_itemStation (w : ByWash) : stationByWash (itemStation (.byWash w)) = some w := by
  cases w <;> rfl

/-- Two items of one station have slots of their own. -/
theorem slotCode_ne (hne : j ≠ i) (hs : itemStation j = itemStation i) (a b : ItemOrder) :
    slotCode (.item j a) ≠ slotCode (.item i b) := by
  intro h
  refine hne ?_
  cases j with
  | gate k => cases i with
    | gate l => exact congrArg Item.gate hs
    | sluice l => exact nomatch h
    | byWash w => exact nomatch h
  | sluice k => cases i with
    | gate l => exact nomatch h
    | sluice l => exact congrArg Item.sluice hs
    | byWash w => exact nomatch h
  | byWash w => cases i with
    | gate l => exact nomatch h
    | sluice l => exact nomatch h
    | byWash v =>
      have hv := stationByWash_itemStation w
      rw [hs, stationByWash_itemStation] at hv
      rw [Option.some.inj hv]

theorem mem_placeEntry_of_mem {c : Command} {q : List QueueEntry} {e : QueueEntry} (he : e ∈ q)
    (hs : slotCode e.command ≠ slotCode c) : e ∈ placeEntry c q := by
  induction q with
  | nil => exact absurd he List.not_mem_nil
  | cons x q ih =>
    rw [placeEntry]
    rcases List.mem_cons.1 he with rfl | he
    · rw [if_neg (fun h => hs (sameSlot_iff.1 h))]
      exact List.mem_cons_self
    · split
      · split
        · exact List.mem_append_left _ he
        · exact List.mem_cons_of_mem _ he
      · exact List.mem_cons_of_mem _ (ih he)

theorem State.setQueue_keepsStop (s : State) (k : Station) {q : List QueueEntry}
    (h : k = itemStation i → ∀ e ∈ (s.station k).queue, e.command = .item i .stops → e ∈ q) :
    State.KeepsStop i s (s.setQueue k q) := by
  refine ⟨rfl, fun ⟨e, he, hc⟩ => ⟨e, ?_, hc⟩⟩
  rw [State.station_setQueue]
  split
  · rename_i hk
    exact h hk.symm e (hk ▸ he) hc
  · exact he

theorem State.placeFace_keepsStop (s : State) (f : Face) (a : Aspect) : State.KeepsStop i s (s.placeFace f a) := by
  refine s.setQueue_keepsStop _ fun _ e he hc => mem_placeEntry_of_mem he ?_
  rw [hc]
  cases i <;> cases hx : f.side <;> simp [slotCode]

theorem State.setMovement_keepsStop (s : State) (hne : j ≠ i) (m : Option Movement) :
    State.KeepsStop i s (s.setMovement j m) := by
  refine ⟨?_, id⟩
  rw [State.item_setMovement, if_neg (Ne.symm hne)]

theorem State.setCommand_keepsStop (s : State) (hne : j ≠ i) (c : CmdState) : State.KeepsStop i s (s.setCommand j c) := by
  unfold State.setCommand
  split
  · exact .refl i s
  · exact ⟨(State.item_setItem s j i _).trans (if_neg (Ne.symm hne)), id⟩

theorem State.withdraw_keepsStop (s : State) (hne : j ≠ i) : State.KeepsStop i s (s.withdraw j) := by
  refine s.setQueue_keepsStop _ fun hs e he hc => mem_removeSlot.2 ⟨he, ?_⟩
  rw [hc]
  exact (slotCode_ne hne hs .stops .stops).symm

theorem State.orderStop_keepsStop (s : State) (hne : j ≠ i) : State.KeepsStop i s (s.orderStop j) := by
  refine State.KeepsStop.trans (s.setQueue_keepsStop (itemStation j) fun hs e he hc => ?_)
    (State.setCommand_keepsStop _ hne _)
  obtain ⟨x, heq, -, -⟩ := placeStop_eq j (s.station (itemStation j)).queue
  rw [heq]
  refine List.mem_cons_of_mem _ (mem_removeSlot.2 ⟨he, ?_⟩)
  rw [hc]
  exact (slotCode_ne hne hs .stops .stops).symm

theorem State.orderMove_keepsStop (s : State) (hne : j ≠ i) (x : Target) : State.KeepsStop i s (s.orderMove j x) := by
  refine State.KeepsStop.trans (s.setQueue_keepsStop (itemStation j) fun hs e he hc => mem_placeEntry_of_mem he ?_)
    (State.setCommand_keepsStop _ hne _)
  rw [hc]
  exact (slotCode_ne hne hs _ .stops).symm

theorem State.tryPlace_keepsStop (s : State) (hne : j ≠ i) : State.KeepsStop i s (s.tryPlace j) := by
  unfold State.tryPlace
  split
  · split
    · exact (s.orderMove_keepsStop hne _).trans (State.setMovement_keepsStop _ hne _)
    · exact .refl i s
  · exact .refl i s

theorem State.tryWithdraw_keepsStop (s : State) (hne : j ≠ i) : State.KeepsStop i s (s.tryWithdraw j) := by
  unfold State.tryWithdraw
  split
  · split
    · dsimp only
      split
      · exact (s.orderStop_keepsStop hne).trans (State.setMovement_keepsStop _ hne _)
      · exact ((s.withdraw_keepsStop hne).trans (State.setCommand_keepsStop _ hne _)).trans
          (State.setMovement_keepsStop _ hne _)
    · exact .refl i s
  · exact .refl i s

theorem State.withdrawMove_keepsStop (s : State) (hne : j ≠ i) : State.KeepsStop i s (s.withdrawMove j) := by
  unfold State.withdrawMove
  split
  · split
    · exact .refl i s
    · exact s.withdraw_keepsStop hne
  · exact .refl i s

theorem State.tryPlace_of_none (h : (s.item i).movement = none) : s.tryPlace i = s := by
  rw [State.tryPlace, h]

theorem State.tryWithdraw_of_none (h : (s.item i).movement = none) : s.tryWithdraw i = s := by
  rw [State.tryWithdraw, h]

/-- A test of waiting movements passes over an item with no movement. -/
theorem State.retest_keepsStop (h : (s.item i).movement = none) : State.KeepsStop i s s.retest := by
  have hone : ∀ (t : State) (j : Item), (t.item i).movement = none → State.KeepsStop i t ((t.tryWithdraw j).tryPlace j) := by
    intro t j ht
    by_cases hj : j = i
    · subst hj
      rw [State.tryWithdraw_of_none ht, State.tryPlace_of_none ht]
      exact .refl j t
    · exact (t.tryWithdraw_keepsStop hj).trans (State.tryPlace_keepsStop _ hj)
  have hall := foldl_keeps (I := fun t => State.KeepsStop i s t) (f := fun t j => (t.tryWithdraw j).tryPlace j)
    (fun t j ht => ht.trans (hone t j (by rw [ht.item, h]))) s.waitingItems s (.refl i s)
  exact hall

theorem State.requestMove_keepsStop (s : State) (hne : j ≠ i) (x : Target) (n : Nat) (st : Step) :
    State.KeepsStop i s (s.requestMove j x (.batch n st)).2 := by
  have hset : ∀ (u : State) (m : Option Movement), State.KeepsStop i u (u.setMovement j m) := fun u m =>
    u.setMovement_keepsStop hne m
  have hnew : ∀ (m : Option Movement) (k : Nat), State.KeepsStop i s
      { s.setMovement j m with mach := { (s.setMovement j m).mach with nextSerial := k } } := fun m k =>
    ⟨(hset s m).item, (hset s m).stop⟩
  unfold State.requestMove
  split
  · exact .refl i s
  · split
    · unfold State.requestNew
      dsimp only
      split
      · exact .refl i s
      · exact (hnew _ _).trans (State.tryPlace_keepsStop _ hne)
    · split
      · exact .refl i s
      · rename_i m _ _
        have hold : State.KeepsStop i s (if m.queued then s.withdrawMove j else s) := by
          split
          · exact s.withdrawMove_keepsStop hne
          · exact .refl i s
        unfold State.requestReverse
        simp only [State.supersede_batch]
        split
        · exact hset _ _
        · split
          · exact hold.trans (hset _ _)
          · exact (hold.trans (hset _ _)).trans (State.tryPlace_keepsStop _ hne)
        · exact (hset _ _).trans (State.tryPlace_keepsStop _ hne)

theorem State.setFace_keepsStop (s : State) (f : Face) (r : FaceRec) : State.KeepsStop i s (s.setFace f r) := ⟨rfl, id⟩

theorem State.deriveFace_keepsStop (s : State) (f : Face) : State.KeepsStop i s (s.deriveFace f) := by
  unfold State.deriveFace
  dsimp only
  split
  · exact .refl i s
  · exact (State.setFace_keepsStop _ _ _).trans (State.placeFace_keepsStop _ _ _)

theorem State.requestFaceStop_keepsStop (s : State) (f : Face) (n : Nat) (st : Step) :
    State.KeepsStop i s (s.requestFaceStop f n st) := by
  have hanswer : ∀ t : State, State.KeepsStop i t (t.answerStopWait f) := fun t => by
    unfold State.answerStopWait
    repeat' split
    all_goals exact .of_same rfl rfl
  exact (((s.setFace_keepsStop f _).trans (State.deriveFace_keepsStop _ f)).trans (State.setFace_keepsStop _ f _)).trans
    (hanswer _)

theorem State.withdrawStopWait_keepsStop (s : State) (f : Face) (n : Nat) :
    State.KeepsStop i s (s.withdrawStopWait f n) := by
  unfold State.withdrawStopWait
  repeat' split
  all_goals exact .of_same rfl rfl

/-! ### A stopped gate -/

/-- An item with no movement, commanded STOP, with the STOP in its queue. -/
def State.stoppedAt (s : State) (i : Item) : Prop :=
  (s.item i).movement = none ∧ (s.item i).command = .stops ∧ s.holdsOrder i .stops

theorem State.KeepsStop.stoppedAt (h : State.KeepsStop i s t) (hs : s.stoppedAt i) : t.stoppedAt i := by
  obtain ⟨hm, hc, hq⟩ := hs
  exact ⟨by rw [h.item, hm], by rw [h.item, hc], h.stop hq⟩

theorem State.setCommand_command (s : State) (i : Item) (c : CmdState) : ((s.setCommand i c).item i).command = c ∧
    ((s.setCommand i c).item i).movement = (s.item i).movement ∧ (s.setCommand i c).line = s.line := by
  unfold State.setCommand
  split
  · rename_i h
    exact ⟨h, rfl, rfl⟩
  · refine ⟨congrArg ItemRec.command (State.item_setItem_self s i _), ?_, rfl⟩
    have hset := congrArg ItemRec.movement (State.item_setItem_self s i { s.item i with command := c })
    exact hset

theorem State.orderStop_command (s : State) (i : Item) : ((s.orderStop i).item i).command = .stops ∧
    ((s.orderStop i).item i).movement = (s.item i).movement := by
  obtain ⟨hc, hm, -⟩ := (s.setQueue (itemStation i) (placeStop i (s.station (itemStation i)).queue)).setCommand_command i .stops
  exact ⟨hc, hm⟩

theorem State.requestStop_stoppedAt (s : State) (i : Item) : (s.requestStop i).stoppedAt i := by
  obtain ⟨hc, hm⟩ := (s.setMovement i none).orderStop_command i
  exact ⟨hm.trans (congrArg ItemRec.movement (State.item_setMovement_self s i none)), hc, State.orderStop_holds _ i⟩

theorem stepWork_path {st : Step} {p : Item} {e : WaterEnd} (h : stepWork st = .water p e) : isGate p = false := by
  cases st with
  | main d n =>
    simp only [stepWork] at h
    split at h
    · rw [← (Work.water.inj h).1]
      rfl
    · exact nomatch h
  | sub x => cases x <;> (rw [← (Work.water.inj h).1]; rfl)

/-- What a suspension does to the machinery and the line: it requests its path SHUT, or stops its gate and the face of
its step. What these keep, a suspension keeps. -/
theorem State.suspend_keeps {I : State → Prop} (hsame : ∀ s t : State, t.mach = s.mach → t.line = s.line → I s → I t)
    (hshut : ∀ (s : State) (p : Item) (n : Nat) (st : Step), isGate p = false → I s →
      I (s.requestMove p .shut (.batch n st)).2)
    (hstop : ∀ (s : State) (g : Station), I s → I (s.requestStop (.gate g)))
    (hface : ∀ (s : State) (f : Face) (n : Nat) (st : Step), I s → I (s.requestFaceStop f n st)) (n : Nat) (r : Reason)
    (hs : I s) : I (s.suspend n r) := by
  have hadd : ∀ (t : State) (m : Nat) (x : Reason), I t → I (t.addReason m x) := fun t m x ht => by
    unfold State.addReason
    split
    · exact ht
    · split
      · exact ht
      · dsimp only
        rw [State.noticeSuspended, State.notify_withNotices]
        exact hsame t _ rfl rfl ht
  have hanswer : ∀ (t : State) (m : Nat) (st : Step) (p : Item), isGate p = false → I t →
      I (addAnswer m (t.requestMove p .shut (.batch m st))) := fun t m st p hp ht => by
    unfold addAnswer
    split
    · exact hadd _ _ _ (hshut t p m st hp ht)
    · exact hshut t p m st hp ht
  have hwait : ∀ (t : State) (f : Face) (m : Nat), I t → I (t.withdrawStopWait f m) := fun t f m ht => by
    unfold State.withdrawStopWait
    repeat' split
    · exact hsame t _ rfl rfl ht
    · exact ht
    · exact ht
  have hsafe : ∀ (t : State) (m : Nat) (d : Direction) (st : Step) (p : Phase), I t → I (t.safeRequests m d st p) := by
    intro t m d st p ht
    unfold State.safeRequests
    split
    · exact hanswer _ _ _ _ (stepWork_path (by assumption)) ht
    · exact hanswer _ _ _ _ (stepWork_path (by assumption)) ht
    · exact hanswer _ _ _ _ (stepWork_path (by assumption)) ht
    · exact hstop _ _ ht
    · exact hstop _ _ ht
    · exact hwait _ _ _ (hface _ _ _ _ (hstop _ _ ht))
    · exact hwait _ _ _ (hstop _ _ ht)
    · exact ht
  have hmake : ∀ (t : State) (b : Batch), I t → I (t.makeSafe b) := by
    intro t b ht
    have htarget : ∀ p, I (t.withdrawTarget b.current p) := fun p => by
      unfold State.withdrawTarget
      split <;> exact hsame t _ rfl rfl ht
    have hmod : ∀ (u : State) (f : Batch → Batch), I u → I (u.modBatch b.number f) := fun u f hu => hsame u _ rfl rfl hu
    unfold State.makeSafe
    split
    · exact hmod _ _ ht
    · dsimp only
      split
      · exact hsafe _ _ _ _ _ (hmod _ _ (htarget _))
      · exact hmod _ _ (htarget _)
  unfold State.suspend
  split
  · exact hs
  · split
    · exact hadd _ _ _ hs
    · exact hmake _ _ (hadd _ _ _ hs)

/-- What may become of a gate: it stays as it is, or is stopped. -/
def State.GateStops (k : Station) (s t : State) : Prop :=
  State.KeepsStop (.gate k) s t ∨ t.stoppedAt (.gate k)

theorem State.GateStops.then {k : Station} (h : State.GateStops k s t) (ht : State.KeepsStop (.gate k) t u) :
    State.GateStops k s u :=
  h.imp (fun h => h.trans ht) fun h => ht.stoppedAt h

/-- A suspension stops the gate of its step, or leaves a gate as it is. -/
theorem State.suspend_gateStops (s : State) (n : Nat) (r : Reason) (k : Station) :
    State.GateStops k s (s.suspend n r) := by
  refine State.suspend_keeps (I := fun t => State.GateStops k s t) (fun t u hm hl ht => ht.then (.of_same hm hl))
    (fun t p m st hp ht => ?_) (fun t g ht => ?_) (fun t f m st ht => ht.then (State.requestFaceStop_keepsStop _ _ _ _))
    n r (.inl (.refl _ s))
  · have hne : p ≠ .gate k := fun h => by
      rw [h] at hp
      exact nomatch hp
    exact ht.then (t.requestMove_keepsStop hne .shut m st)
  · by_cases hg : g = k
    · subst hg
      exact .inr (t.requestStop_stoppedAt _)
    · have hne : Item.gate g ≠ .gate k := fun h => hg (Item.gate.inj h)
      exact ht.then ((t.setMovement_keepsStop hne none).trans (State.orderStop_keepsStop _ hne))

theorem State.GateStops.rests {k : Station} (h : State.GateStops k s t) (hs : (s.item (.gate k)).movement = none) :
    (t.item (.gate k)).movement = none := by
  rcases h with h | h
  · rw [h.item, hs]
  · exact h.1

theorem State.GateStops.stoppedAt {k : Station} (h : State.GateStops k s t) (hs : s.stoppedAt (.gate k)) :
    t.stoppedAt (.gate k) := h.elim (fun h => h.stoppedAt hs) id

/-! ### What suspensions and tests keep of a stopped gate -/

theorem State.settlesTo.holdsOrder (h : s.settlesTo t) {o : ItemOrder} (hs : s.holdsOrder i o) : t.holdsOrder i o := by
  obtain ⟨e, he, hc⟩ := hs
  have hface : isFaceEntry e = false := by rw [isFaceEntry, hc]
  have hmem : e ∈ (s.station (itemStation i)).queue.filter fun e => !isFaceEntry e := List.mem_filter.2 ⟨he, by rw [hface]; rfl⟩
  rw [← (h.2.1 (itemStation i)).2.2] at hmem
  exact ⟨e, (List.mem_filter.1 hmem).1, hc⟩

theorem State.settlesTo.item (h : s.settlesTo t) (i : Item) : t.item i = s.item i := by
  rw [State.item, h.mach]
  rfl

theorem State.OnlySuspends.finish_gateRests (hs : s.OnlySuspends) {k : Station}
    (h : (s.item (.gate k)).movement = none) : (s.finish.item (.gate k)).movement = none := by
  obtain ⟨v, -, hv, hset⟩ := hs.finish (I := fun t => (t.item (.gate k)).movement = none)
    (fun t n r _ _ ht => (State.suspend_gateStops t.popEvent n r k).rests ht) (fun _ _ ht _ => ht)
    (fun t ht => by rw [(State.retest_keepsStop ht).item, ht]) h
  rw [hset.item, hv]

theorem State.OnlySuspends.finish_gateStopped (hs : s.OnlySuspends) {k : Station} (h : s.stoppedAt (.gate k)) :
    s.finish.stoppedAt (.gate k) := by
  obtain ⟨v, -, hv, hset⟩ := hs.finish (I := fun t => t.stoppedAt (.gate k))
    (fun t n r _ _ ht => (State.suspend_gateStops t.popEvent n r k).stoppedAt ht) (fun _ _ ht _ => ht)
    (fun t ht => (State.retest_keepsStop ht.1).stoppedAt ht) h
  obtain ⟨hm, hc, hq⟩ := hv
  exact ⟨by rw [hset.item, hm], by rw [hset.item, hc], hset.holdsOrder hq⟩

end

/-! ### The overload blank timer (R44) -/

section

variable (s : State)

/-- The states held and the blank timers. -/
def State.panel : Quad InputStates × Quad OverloadBlank := (s.mach.inputs, s.mach.overload)

theorem State.panel_of_steady {s t : State} (h : t.steady = s.steady) : t.panel = s.panel :=
  Prod.ext (congrArg (·.seen.inputs) h) (congrArg Steady.overload h)

theorem State.changeFault_panel (old new : FaultRec) : (s.changeFault old new).panel = s.panel := by
  unfold State.changeFault
  split
  · rfl
  · rw [State.noticeRaised, State.notify_withNotices]
    rfl

theorem State.raiseInput_panel (k : Station) (i : Input) (l : Bool) : (s.raiseInput k i l).panel = s.panel := by
  unfold State.raiseInput
  dsimp only
  split
  · obtain ⟨ns, h⟩ := s.newFault_eq (.input i) (.station k) l (s.capture (.gate k) (s.movementBatch (.gate k)))
    rw [h]
    rfl
  · rfl

theorem State.stopForHold_panel (i : Item) : (s.stopForHold i).panel = s.panel := by
  unfold State.stopForHold
  split
  · exact State.panel_of_steady (s.orderStop_steady i)
  · exact State.panel_of_steady (s.orderStop_steady i)
  · rfl

theorem State.holdGate_panel (k : Station) : (s.holdGate k).panel = s.panel := by
  have hhold : ∀ m : Movement, (if m.phase = .held then s
      else (s.stopForHold (.gate k)).setMovement (.gate k) (some (heldMovement s.now m))).panel = s.panel := by
    intro m
    split
    · rfl
    · exact s.stopForHold_panel _
  unfold State.holdGate
  dsimp only
  split
  · rfl
  · split <;> exact hhold _

theorem State.inputActive_panel (k : Station) (i : Input) (b : Option Bool) :
    (s.inputActive k i b).panel = s.panel := by
  have hcause : ∀ (t : State) (c : HaltCause), (t.handCause c).panel = t.panel := fun _ _ => rfl
  unfold State.inputActive
  dsimp only
  repeat' split
  all_goals simp [hcause, State.changeFault_panel, State.holdGate_panel, State.raiseInput_panel]

theorem State.testLocalStop_panel : s.testLocalStop.panel = s.panel := by
  have hnotice : ∀ t : State, t.noticeHalt.panel = t.panel := fun t => State.panel_of_steady t.noticeHalt_steady
  unfold State.testLocalStop State.endCause
  split
  · rfl
  · split
    · exact hnotice _
    · rfl

theorem State.inputInactive_panel (k : Station) (i : Input) : (s.inputInactive k i).panel = s.panel := by
  have hset : ∀ t : State, (t.setUnrecorded k i false).panel = t.panel := fun _ => rfl
  have hcease : (if s.unrecorded k i then
      let t := s.setUnrecorded k i false
      if isGateInput i then t else t.testLocalStop else s).panel = s.panel := by
    dsimp only
    repeat' split
    · exact hset s
    · exact (State.testLocalStop_panel _).trans (hset s)
    · rfl
  unfold State.inputInactive
  dsimp only at hcease ⊢
  generalize (if s.unrecorded k i then _ else s) = t at hcease ⊢
  split
  · split
    · exact hcease
    · exact (State.changeFault_panel _ _ _).trans hcease
  · exact hcease

/-- An input state taken from a report is held, and no other; the blank timers stand. -/
theorem State.applyInput_panel (k : Station) (i : Input) (v : Bool) :
    (s.applyInput k i v).panel = (s.setHeld k i (some v)).panel := by
  unfold State.applyInput
  dsimp only
  repeat' split
  · rfl
  · exact State.inputActive_panel _ _ _ _
  · exact State.inputInactive_panel _ _ _

/-- What the expiry of a blank timer leaves. -/
theorem State.endOverloadBlank_panel {k : Station} {e : Nat} (h : (s.mach.overload.get k).expiry = some e) :
    (s.endOverloadBlank k).mach.overload.get k = { expiry := none, aside := none } ∧
      (∀ v, (s.mach.overload.get k).aside = some v → (s.endOverloadBlank k).held k .overload = some v) ∧
      (s.endOverloadBlank k).told = s.told ∧ (s.endOverloadBlank k).fixed = { s.fixed with now := max s.now e } := by
  have hset : ((s.reach e).setOverload k { expiry := none, aside := none }).mach.overload.get k =
      { expiry := none, aside := none } := Quad.get_set_self _ _ _
  have htold : ((s.reach e).setOverload k { expiry := none, aside := none }).told = s.told := rfl
  have hfixed : ((s.reach e).setOverload k { expiry := none, aside := none }).fixed =
      { s.fixed with now := max s.now e } := rfl
  unfold State.endOverloadBlank
  rw [h]
  dsimp only
  generalize (s.reach e).setOverload k { expiry := none, aside := none } = t at hset htold hfixed ⊢
  cases ha : (s.mach.overload.get k).aside with
  | none => exact ⟨hset, nofun, htold, hfixed⟩
  | some v =>
    have hpanel := t.applyInput_panel k .overload v
    have hover : (t.applyInput k .overload v).mach.overload = t.mach.overload := congrArg Prod.snd hpanel
    have hheld : (t.applyInput k .overload v).held k .overload = some v := by
      have hsame : (t.applyInput k .overload v).mach.inputs = (t.setHeld k .overload (some v)).mach.inputs :=
        congrArg Prod.fst hpanel
      rw [State.held, hsame]
      exact State.held_setHeld_self t k .overload (some v)
    refine ⟨?_, fun w hw => ?_, (State.applyInput_told _ _ _ _).trans htold, (State.applyInput_fixed _ _ _ _).trans hfixed⟩
    · rw [hover]
      exact hset
    · rw [← Option.some.inj hw]
      exact hheld

/-- To hold a gate hands over at most the suspension of its movement's batch. -/
theorem State.holdGate_duty (k : Station) : ∃ es, (s.holdGate k).duty = { s.duty with events := s.hand.toRun ++ es } ∧
    ∀ e ∈ es, ∃ n, e = .suspend n .fault := by
  have hhold : ∀ m : Movement, (if m.phase = .held then s
      else (s.stopForHold (.gate k)).setMovement (.gate k) (some (heldMovement s.now m))).duty = s.duty := by
    intro m
    have hstop : (s.stopForHold (.gate k)).duty = s.duty := by
      unfold State.stopForHold
      split <;> simp
    split
    · rfl
    · exact hstop
  have hnone : ∀ t : State, t.duty = s.duty → t.duty = { s.duty with events := s.hand.toRun ++ [] } := fun t ht => by
    rw [ht, List.append_nil]
    rfl
  unfold State.holdGate
  dsimp only
  split
  · exact ⟨[], hnone s rfl, nofun⟩
  · rename_i m _
    have ht := hhold m
    generalize (if m.phase = .held then s
      else (s.stopForHold (.gate k)).setMovement (.gate k) (some (heldMovement s.now m))) = t at ht ⊢
    split
    · rename_i n _ _ _
      refine ⟨[.suspend n .fault], ?_, fun e he => ⟨n, List.mem_singleton.1 he⟩⟩
      have hevents : t.hand.toRun = s.hand.toRun := congrArg Duty.events ht
      rw [← ht, ← hevents]
      rfl
    · exact ⟨[], hnone t ht, nofun⟩

/-- An input that becomes active, its mode not OFF and with room for a record, is recorded, holds its gate and suspends
at most its batch. -/
theorem State.inputActive_recorded {k : Station} {i : Input} (hgate : isGateInput i = true) (b : Option Bool)
    (hmode : inputMode (s.mach.modes.get k) i ≠ .off) (hnone : s.faultOf (.input i) (.station k) = none)
    (hroom : s.mach.faults.length < 16) :
    ∃ es, (s.inputActive k i b).duty = { s.duty with
        faults := s.mach.faults ++ [s.freshFault (.input i) (.station k)
          (decide (inputMode (s.mach.modes.get k) i = .latch)) (s.capture (.gate k) (s.movementBatch (.gate k)))]
        events := s.hand.toRun ++ es } ∧ ∀ e ∈ es, ∃ n, e = .suspend n .fault := by
  have hfree : s.hasFaultRoom = true := decide_eq_true hroom
  obtain ⟨ns, hnew⟩ := s.newFault_eq (.input i) (.station k) (decide (inputMode (s.mach.modes.get k) i = .latch))
    (s.capture (.gate k) (s.movementBatch (.gate k)))
  have hraise : s.raiseInput k i (decide (inputMode (s.mach.modes.get k) i = .latch)) =
      ((s.newFault (.input i) (.station k) (decide (inputMode (s.mach.modes.get k) i = .latch))
        (s.capture (.gate k) (s.movementBatch (.gate k)))).setUnrecorded k i false) := if_pos hfree
  have hact : s.inputActive k i b =
      (s.raiseInput k i (decide (inputMode (s.mach.modes.get k) i = .latch))).holdGate k := by
    unfold State.inputActive
    rw [hnone]
    dsimp only
    split
    · rename_i hoff
      exact absurd hoff hmode
    · rw [if_pos hgate, if_neg (by rw [hfree]; decide)]
  obtain ⟨es, hes, hall⟩ := (s.raiseInput k i (decide (inputMode (s.mach.modes.get k) i = .latch))).holdGate_duty k
  refine ⟨es, ?_, hall⟩
  rw [hact, hes, hraise, hnew]
  rfl

end

end Sys2Proof.Machine
end

section
/-! OVERLOAD BLANK AND RESUME DELAY: the expiries of the two timers of the faults (O31). -/

namespace Sys2Proof.Machine

/-! ### The resume delay (R47) -/

section

variable {s : State}

theorem State.resumeDelayOf_some {n e : Nat} {r : FaultRec} {k : Station}
    (hr : s.mach.faults.find? (fun x => x.number == n) = some r) (he : r.releasing = some e)
    (hk : isGateFault k r = true) : s.resumeDelayOf n = some (r, e, k) ∧ r.kind ≠ .input .localStop ∧ r.number = n := by
  simp only [isGateFault, Bool.and_eq_true, beq_iff_eq] at hk
  obtain ⟨hsource, hkind⟩ := hk
  refine ⟨?_, fun h => ?_, by simpa using List.find?_some hr⟩
  · rw [State.resumeDelayOf, hr]
    dsimp only
    rw [he, hsource]
  · rw [h] at hkind
    exact nomatch hkind

/-- With no unrecorded fault acting, none is recorded when a record leaves the table. -/
theorem State.recordAllUnrecorded_none (h : ∀ j i, s.unrecorded j i = false) : s.recordAllUnrecorded = s := by
  have hone : ∀ (k : Station) (i : Input), s.recordUnrecorded k i = s := fun k i => by
    rw [State.recordUnrecorded, h]
    rfl
  have hinputs : ∀ k : Station, allInputs.foldl (fun s i => s.recordUnrecorded k i) s = s := fun k =>
    foldl_keeps (I := fun t => t = s) (f := fun t i => t.recordUnrecorded k i) (fun t i ht => by rw [ht, hone]) allInputs s
      rfl
  exact foldl_keeps (I := fun t => t = s) (f := fun t k => allInputs.foldl (fun s i => s.recordUnrecorded k i) t)
    (fun t k ht => by rw [ht, hinputs]) allStations s rfl

/-- A record of no LOCAL STOP leaves the table with a notice, and nothing else, while no fault acts unrecorded. -/
theorem State.removed_eq (h : ∀ j i, s.unrecorded j i = false) {r : FaultRec} (hr : r.kind ≠ .input .localStop) (b : Bool) :
    ∃ ns, (s.dropFault r b).afterRemoval r =
      (s.setFaults (s.mach.faults.filter fun x => x.number != r.number)).withNotices ns := by
  have hdrop : ∃ ns, s.dropFault r b = (s.setFaults (s.mach.faults.filter fun x => x.number != r.number)).withNotices ns :=
    ⟨_, by rw [State.dropFault, State.noticeReleased, State.notify_withNotices]⟩
  obtain ⟨ns, hns⟩ := hdrop
  refine ⟨ns, ?_⟩
  rw [State.afterRemoval, if_neg hr, hns]
  exact State.recordAllUnrecorded_none h

/-- With no other fault on its gate, a record whose delay expires is not barred from its release. -/
theorem State.noOtherFault {k : Station} {r : FaultRec} (hno : ∀ j i, s.unrecorded j i = false)
    (hother : ∀ x ∈ s.mach.faults, x.number ≠ r.number → isGateFault k x = false) :
    ((s.mach.faults.any fun x => isGateFault k x && x.number != r.number) || s.unrecordedGate k) = false := by
  have hany : (s.mach.faults.any fun x => isGateFault k x && x.number != r.number) = false := by
    rw [List.any_eq_false]
    intro x hx
    simp only [Bool.and_eq_true, bne_iff_ne, ne_eq, not_and, not_not]
    intro hf
    by_contra hn
    rw [hother x hx hn] at hf
    exact Bool.false_ne_true hf
  rw [hany, State.unrecordedGate, hno, hno, hno]
  rfl

/-- The event of a resume delay, from a calm state whose owner's act leaves `u` with nothing handed over. -/
theorem exec_resume_settles {n e : Nat} {r : FaultRec} {k : Station} (hp : s.powered = true) (hcalm : s.calm)
    (hof : s.resumeDelayOf n = some (r, e, k)) {u : State} {ns : List Notice}
    (hact : (s.reach e).releaseFault r k = u.withNotices ns) (hhand : u.hand = s.hand)
    (hbatches : u.traffic.batches = s.traffic.batches) :
    ∃ t, exec (.resumeDelayExpiry n) s = .next t ∧ u.settlesTo t := by
  have hend : (if (s.resumeDelayOf n).isSome then (s.endResumeDelay n).finish else s) = (u.withNotices ns).finish := by
    have hrun : (s.resumeDelayOf n).isSome = true := by rw [hof]; rfl
    rw [if_pos hrun, State.endResumeDelay, hof]
    dsimp only
    rw [hact]
  have hquiet : (u.withNotices ns).quiet := by
    have hcalm' : (u.withNotices ns).calm := by
      obtain ⟨h1, h2⟩ := hcalm
      exact ⟨hhand.trans h1, fun b hb => h2 b (hbatches ▸ hb)⟩
    exact State.calm_quiet _ hcalm'
  have hempty : (u.withNotices ns).emptied = u.withNotices ns := State.emptied_of_calm hcalm hhand
  have hfinish := State.settlesTo_finish _ hquiet
  rw [hempty] at hfinish
  refine ⟨_, (exec_event (c := .resumeDelayExpiry n) rfl s).trans (congrArg _ (if_pos hp)), ?_⟩
  dsimp only
  rw [hend]
  exact State.settlesTo_trans ⟨rfl, fun _ => ⟨rfl, rfl, rfl⟩, fun _ => rfl⟩
    (State.settlesTo_trans hfinish (State.settlesTo_commit _ _))

/-- An escalation from a calm state hands over at most the suspension of the movement's batch. -/
theorem State.escalate_onlySuspends (hcalm : s.calm) {r : FaultRec} {k : Station} {e : Nat} (hrel : r.releasing = some e)
    (m : Movement) : (s.escalate r k m).OnlySuspends ∧
      (s.escalate r k m).mach.faults = (s.mach.faults.map fun x => if x.number = r.number then
        { r with latched := true, escalated := true, releasing := none } else x) ∧
      ((s.escalate r k m).item (.gate k)).movement = none ∧ (s.escalate r k m).fixed = s.fixed := by
  have hne : r ≠ { r with latched := true, escalated := true, releasing := none } := fun h => by
    have := congrArg FaultRec.releasing h
    rw [hrel] at this
    exact nomatch this
  obtain ⟨ns, hns⟩ : ∃ ns, s.changeFault r { r with latched := true, escalated := true, releasing := none } =
      (s.setFaults (s.mach.faults.map fun x => if x.number = r.number then
        { r with latched := true, escalated := true, releasing := none } else x)).withNotices ns :=
    ⟨_, by rw [State.changeFault, if_neg hne, State.noticeRaised, State.notify_withNotices]⟩
  have hfixed := State.escalate_fixed s r k m
  obtain ⟨hhand, hclaims⟩ := hcalm
  unfold State.escalate at hfixed ⊢
  dsimp only at hfixed ⊢
  rw [hns] at hfixed ⊢
  generalize m.owner = o at hfixed ⊢
  cases o with
  | batch n st =>
    refine ⟨⟨congrArg HandOvers.toHalt hhand, congrArg HandOvers.evaluate hhand, hclaims, fun e he => ?_⟩, rfl,
      congrArg ItemRec.movement (State.item_setItem_self _ _ _), hfixed⟩
    have hrun : e ∈ s.hand.toRun ++ [.suspend n .fault] := he
    rw [hhand] at hrun
    exact .inl ⟨n, .fault, List.mem_singleton.1 hrun⟩
  | protective =>
    refine ⟨⟨congrArg HandOvers.toHalt hhand, congrArg HandOvers.evaluate hhand, hclaims, fun e he => ?_⟩, rfl,
      congrArg ItemRec.movement (State.item_setItem_self _ _ _), hfixed⟩
    have hrun : e ∈ s.hand.toRun := he
    rw [hhand] at hrun
    exact absurd hrun List.not_mem_nil

/-- A resume delay expires with no other fault holding the gate (R47). -/
theorem resumeDelay_expires : ∀ (n e : Nat) (r : FaultRec) (k : Station) (s : State), s.powered = true → s.calm →
      (∀ j i, s.unrecorded j i = false) → s.mach.faults.find? (fun x => x.number == n) = some r →
      r.releasing = some e → isGateFault k r = true →
      (∀ x ∈ s.mach.faults, x.number ≠ n → isGateFault k x = false) →
        ((s.item (.gate k)).movement = none →
          ∃ t, exec (.resumeDelayExpiry n) s = .next t ∧ ({ s with
              now := max s.now e
              mach := { s.mach with
                faults := s.mach.faults.filter fun x => x.number != n } } : State).settlesTo t) ∧
        (∀ m, (s.item (.gate k)).movement = some m → m.phase = .held →
          (m.placed = false ∨ m.resumptions < s.mach.timing.resumeLimit) →
            ∃ t, exec (.resumeDelayExpiry n) s = .next t ∧
              ({ s with
                now := max s.now e
                mach := { s.mach with
                  faults := s.mach.faults.filter fun x => x.number != n
                  items := s.mach.items.set (.gate k) { s.item (.gate k) with
                    movement := some { m with
                      phase := .awaitTaken, queued := false
                      resumptions :=
                        if m.placed then m.resumptions + 1 else m.resumptions } } } } : State).settlesTo t) ∧
        (∀ m, (s.item (.gate k)).movement = some m → m.phase = .held → m.placed = true →
          s.mach.timing.resumeLimit ≤ m.resumptions →
            ∃ t, exec (.resumeDelayExpiry n) s = .next t ∧ t.fixed = { s.fixed with now := max s.now e } ∧
              (t.item (.gate k)).movement = none ∧
              t.mach.faults = s.mach.faults.map fun x =>
                if x.number = n then { r with latched := true, escalated := true, releasing := none } else x) := by
  intro n e r k s hp hcalm hno hfind hrel hgate hother
  obtain ⟨hof, hkind, rfl⟩ := State.resumeDelayOf_some hfind hrel hgate
  have hbar := State.noOtherFault (s := s.reach e) (r := r) hno hother
  refine ⟨fun hm => ?_, fun m hm hheld hmay => ?_, fun m hm hheld hplaced hlimit => ?_⟩
  · obtain ⟨ns, hns⟩ := State.removed_eq (s := s.reach e) hno hkind false
    refine exec_resume_settles hp hcalm hof (ns := ns) (u := { s with
      now := max s.now e
      mach := { s.mach with faults := s.mach.faults.filter fun x => x.number != r.number } }) ?_ rfl rfl
    have hnone : ((s.reach e).item (.gate k)).movement = none := hm
    unfold State.releaseFault
    dsimp only
    rw [hbar, hnone]
    exact hns
  · have hdrop : ∃ ns, (s.reach e).dropFault r false =
        ((s.reach e).setFaults (s.mach.faults.filter fun x => x.number != r.number)).withNotices ns :=
      ⟨_, by rw [State.dropFault, State.noticeReleased, State.notify_withNotices]; rfl⟩
    obtain ⟨ns, hns⟩ := hdrop
    have hescalate : (s.reach e).escalates m = false := by
      have hlimit : (s.reach e).mach.timing.resumeLimit = s.mach.timing.resumeLimit := rfl
      rw [State.escalates, hlimit]
      rcases hmay with h | h
      · simp [h]
      · simp [show ¬s.mach.timing.resumeLimit ≤ m.resumptions by omega]
    refine exec_resume_settles hp hcalm hof (ns := ns) (u := { s with
      now := max s.now e
      mach := { s.mach with
        faults := s.mach.faults.filter fun x => x.number != r.number
        items := s.mach.items.set (.gate k) { s.item (.gate k) with
          movement := some { m with
            phase := .awaitTaken, queued := false
            resumptions := if m.placed then m.resumptions + 1 else m.resumptions } } } }) ?_ rfl rfl
    have hsome : ((s.reach e).item (.gate k)).movement = some m := hm
    unfold State.releaseFault
    dsimp only
    rw [hbar, if_neg Bool.false_ne_true, hsome]
    dsimp only
    rw [hescalate, if_neg Bool.false_ne_true, hns, if_pos hheld, State.afterRemoval, if_neg hkind]
    exact State.recordAllUnrecorded_none (s := State.setMovement _ _ _) hno
  · have hescalate : (s.reach e).escalates m = true := by
      simp [State.escalates, hheld, hplaced, show (s.reach e).mach.timing = s.mach.timing from rfl, hlimit]
    have hsome : ((s.reach e).item (.gate k)).movement = some m := hm
    have hact : (s.reach e).releaseFault r k = (s.reach e).escalate r k m := by
      unfold State.releaseFault
      dsimp only
      rw [hbar, hsome]
      dsimp only
      rw [hescalate]
      rfl
    have hend : (if (s.resumeDelayOf r.number).isSome then (s.endResumeDelay r.number).finish else s) =
        ((s.reach e).escalate r k m).finish := by
      have hrun : (s.resumeDelayOf r.number).isSome = true := by rw [hof]; rfl
      rw [if_pos hrun, State.endResumeDelay, hof]
      dsimp only
      rw [hact]
    obtain ⟨honly, hfaults, hrest, hfixed⟩ := State.escalate_onlySuspends (s := s.reach e) (k := k) hcalm hrel m
    obtain ⟨t, hexec, ht⟩ := exec_event_flight (c := .resumeDelayExpiry r.number) rfl hp
    rw [hend] at ht
    refine ⟨t, hexec, ?_, ?_, ?_⟩
    · rw [ht.fixed, State.finish_fixed, hfixed]
      rfl
    · rw [State.item, ht.mach]
      exact honly.finish_gateRests hrest
    · rw [ht.mach, honly.finish_faults, hfaults]
      rfl

/-! ### The overload blank timer (R44) -/

theorem State.inputs_of_seen {s t : State} (h : t.seen = s.seen) : t.mach.inputs = s.mach.inputs :=
  congrArg Seen.inputs h

/-- Settles O31, from what the two expiries leave and what the end of the step keeps of it. -/
theorem overloadAndResumeTimersExpire : Obligations.OverloadAndResumeTimersExpire := by
  unfold Obligations.OverloadAndResumeTimersExpire
  refine ⟨⟨fun k e s hp he => ?_, fun k e s hp hcalm ho hheld hmode hnone hroom => ?_, fun k s hidle => ?_⟩,
    resumeDelay_expires⟩
  · obtain ⟨t, hexec, ht⟩ := exec_event_flight (c := .overloadBlankExpiry k) rfl hp
    rw [if_pos (by rw [he]; rfl)] at ht
    obtain ⟨hover, hheld, htold, hfixed⟩ := s.endOverloadBlank_panel he
    generalize s.endOverloadBlank k = u at ht hover hheld htold hfixed
    refine ⟨t, hexec, ?_, ?_, fun v hv hr => ?_⟩
    · rw [ht.fixed, State.finish_fixed, hfixed]
    · rw [ht.mach]
      exact u.finish_stands.blank k hover
    · have hrate : u.line.rate = s.line.rate := congrArg Told.rate htold
      rw [ht.line] at hr
      rw [State.held, ht.mach, State.inputs_of_seen (u.finish_stands.seen_of_rate (hr.trans hrate.symm))]
      exact hheld v hv
  · obtain ⟨t, hexec, ht⟩ := exec_event_flight (c := .overloadBlankExpiry k) rfl hp
    have hexp : (s.mach.overload.get k).expiry = some e := by rw [ho]
    have haside : (s.mach.overload.get k).aside = some true := by rw [ho]
    rw [if_pos (by rw [hexp]; rfl)] at ht
    have hact : s.endOverloadBlank k =
        ((((s.reach e).setOverload k { expiry := none, aside := none }).setHeld k .overload (some true)).inputActive k
          .overload (s.held k .overload)) := by
      unfold State.endOverloadBlank
      rw [hexp]
      dsimp only
      rw [haside]
      exact (if_neg hheld).trans (if_pos rfl)
    obtain ⟨es, hduty, hes⟩ := State.inputActive_recorded (s := (((s.reach e).setOverload k { expiry := none, aside := none
      }).setHeld k .overload (some true))) (k := k) (i := .overload) rfl (s.held k .overload) hmode hnone hroom
    rw [← hact] at hduty
    obtain ⟨hhand, hclaims⟩ := hcalm
    have honly : (s.endOverloadBlank k).OnlySuspends := by
      refine ⟨(congrArg Duty.causes hduty).trans (congrArg HandOvers.toHalt hhand),
        (congrArg Duty.evaluate hduty).trans (congrArg HandOvers.evaluate hhand), fun b hb => hclaims b ?_, fun e he => ?_⟩
      · rw [show (s.endOverloadBlank k).traffic.batches = s.traffic.batches from congrArg Duty.batches hduty] at hb
        exact hb
      · rw [show (s.endOverloadBlank k).hand.toRun = s.hand.toRun ++ es from congrArg Duty.events hduty, hhand] at he
        obtain ⟨n, rfl⟩ := hes e he
        exact .inl ⟨n, .fault, rfl⟩
    have hkept : t.mach.faults = (s.endOverloadBlank k).mach.faults := by rw [ht.mach, honly.finish_faults]
    refine ⟨t, _, hexec, hkept.trans (congrArg Duty.faults hduty), rfl, rfl, ?_⟩
    simp only [State.freshFault, decide_eq_true_eq]
    exact Iff.rfl
  · exact exec_event_idle (c := .overloadBlankExpiry k) rfl (if_neg (by rw [hidle]; decide))

end

end Sys2Proof.Machine
end

section
/-! MOVEMENT LIMITS: a start or travel limit that expires fails its movement, and what the suspension that follows
leaves of its item (O30). -/

namespace Sys2Proof.Machine

/-! ### A path that is only ever requested SHUT -/

/-- A movement that stands on the item waits to shut it. -/
def State.shutsOnly (s : State) (i : Item) : Prop :=
  ∀ m, (s.item i).movement = some m → m.target = .shut ∧ m.phase = .awaitTaken

section

variable {s t : State} {i : Item}

theorem State.KeepsStop.shutsOnly (h : State.KeepsStop i s t) (hs : s.shutsOnly i) : t.shutsOnly i := fun m hm =>
  hs m (by rwa [h.item] at hm)

theorem State.shutsOnly_setMovement {o : Option Movement} (h : ∀ m, o = some m → m.target = .shut ∧ m.phase = .awaitTaken) :
    (s.setMovement i o).shutsOnly i := fun m hm =>
  h m ((congrArg ItemRec.movement (State.item_setMovement_self s i o)).symm.trans hm)

theorem State.shutsOnly.tryPlace (h : s.shutsOnly i) : (s.tryPlace i).shutsOnly i := by
  unfold State.tryPlace
  split
  · rename_i m hm
    split
    · refine State.shutsOnly_setMovement fun m' hm' => ?_
      rw [← Option.some.inj hm']
      exact h m hm
    · exact h
  · exact h

theorem State.shutsOnly.tryWithdraw (h : s.shutsOnly i) : (s.tryWithdraw i).shutsOnly i := by
  unfold State.tryWithdraw
  split
  · rename_i m hm
    split
    · refine State.shutsOnly_setMovement fun m' hm' => ?_
      rw [← Option.some.inj hm']
      exact h m hm
    · exact h
  · exact h

theorem State.shutsOnly.retest (h : s.shutsOnly i) : s.retest.shutsOnly i := by
  refine foldl_keeps (I := fun t => t.shutsOnly i) (f := fun t j => (t.tryWithdraw j).tryPlace j) (fun t j ht => ?_) _ s h
  by_cases hj : j = i
  · subst hj
    exact ht.tryWithdraw.tryPlace
  · exact ((t.tryWithdraw_keepsStop hj).trans (State.tryPlace_keepsStop _ hj)).shutsOnly ht

theorem State.shutsOnly.requestShut (h : s.shutsOnly i) {j : Item} (hj : isGate j = false) (n : Nat) (st : Step) :
    (s.requestMove j .shut (.batch n st)).2.shutsOnly i := by
  by_cases hne : j = i
  · subst hne
    unfold State.requestMove
    split
    · exact h
    · split
      · unfold State.requestNew
        dsimp only
        split
        · exact h
        · refine State.shutsOnly.tryPlace fun m hm => ?_
          have hnew := Option.some.inj ((congrArg ItemRec.movement (State.item_setMovement_self s j _)).symm.trans hm)
          rw [← hnew]
          cases j with
          | gate k => exact nomatch hj
          | sluice k => exact ⟨rfl, rfl⟩
          | byWash w => exact ⟨rfl, rfl⟩
      · rename_i m hm
        rw [if_pos (h m hm).1]
        exact h
  · exact (s.requestMove_keepsStop hne .shut n st).shutsOnly h

theorem State.shutsOnly.suspend (h : s.shutsOnly i) (hi : isGate i = false) (n : Nat) (r : Reason) :
    (s.suspend n r).shutsOnly i := by
  refine State.suspend_keeps (I := fun t => t.shutsOnly i) (fun t u hm hl ht => (State.KeepsStop.of_same hm hl).shutsOnly ht)
    (fun t p m st hp ht => ht.requestShut hp m st) (fun t g ht => ?_)
    (fun t f m st ht => (State.requestFaceStop_keepsStop _ _ _ _).shutsOnly ht) n r h
  have hne : Item.gate g ≠ i := fun hg => by
    rw [← hg] at hi
    exact nomatch hi
  exact ((t.setMovement_keepsStop hne none).trans (State.orderStop_keepsStop _ hne)).shutsOnly ht

theorem State.OnlySuspends.finish_shutsOnly (hs : s.OnlySuspends) (hi : isGate i = false) (h : s.shutsOnly i) :
    s.finish.shutsOnly i := by
  obtain ⟨v, -, hv, hset⟩ := hs.finish (I := fun t => t.shutsOnly i)
    (fun t n r _ _ ht => State.shutsOnly.suspend (s := t.popEvent) ht hi n r) (fun _ _ ht _ => ht) (fun t ht => ht.retest) h
  exact fun m hm => hv m (by rwa [hset.item] at hm)

/-- With nothing to suspend, a stopped item stays stopped. -/
theorem State.OnlySuspends.finish_stopped (hs : s.OnlySuspends) (hrun : s.hand.toRun = []) (h : s.stoppedAt i) :
    s.finish.stoppedAt i := by
  obtain ⟨v, -, ⟨-, hm, hc, hq⟩, hset⟩ := hs.finish (I := fun t => t.hand.toRun = [] ∧ t.stoppedAt i)
    (fun t n r rest he ⟨hr, _⟩ => by rw [hr] at he; exact nomatch he)
    (fun t h ⟨hr, ht⟩ hsub => ⟨List.eq_nil_iff_forall_not_mem.2 fun e he => by
      have hmem := hsub e he
      rw [hr] at hmem
      exact List.not_mem_nil hmem, ht⟩)
    (fun t ⟨hr, ht⟩ => ⟨(congrArg Duty.events t.retest_duty).trans hr, (State.retest_keepsStop ht.1).stoppedAt ht⟩)
    ⟨hrun, h⟩
  exact ⟨by rw [hset.item, hm], by rw [hset.item, hc], hset.holdsOrder hq⟩

/-! ### The failure of a movement (R35) -/

/-- The record a failed movement leaves. -/
def State.failureRecord (s : State) (i : Item) (k : FaultKind) (m : Movement) : FaultRec :=
  s.freshFault k (.item i) true
    { time := s.toll.clock, position := (s.item i).position, travel := travelElapsed s.now m.travel
      above := s.levelAbove (itemStation i), below := s.levelBelow (itemStation i), batch := ownerBatch m.owner }

theorem State.orderStop_capture {m : Movement} (hm : (s.item i).movement = some m) (b : Option (Nat × Step)) :
    (s.orderStop i).capture i b =
      { time := s.toll.clock, position := (s.item i).position, travel := travelElapsed s.now m.travel
        above := s.levelAbove (itemStation i), below := s.levelBelow (itemStation i), batch := b } := by
  have hpos : ((s.orderStop i).item i).position = (s.item i).position :=
    congrFun (congrArg (·.seen.positions) (s.orderStop_steady i)) i
  obtain ⟨-, hmove⟩ := s.orderStop_command i
  have hrest : (s.orderStop i).toll = s.toll ∧ (s.orderStop i).now = s.now ∧ (s.orderStop i).level = s.level := by
    unfold State.orderStop State.setCommand
    dsimp only
    split <;> exact ⟨rfl, rfl, rfl⟩
  obtain ⟨htoll, hnow, hlevel⟩ := hrest
  have habove : ∀ k, (s.orderStop i).levelAbove k = s.levelAbove k ∧ (s.orderStop i).levelBelow k = s.levelBelow k := by
    intro k
    simp only [State.levelAbove, State.levelBelow, State.chamber, hlevel, and_self]
  rw [State.capture, hpos, hmove, hm, htoll, hnow, (habove _).1, (habove _).2]
  rfl

/-- A movement that fails, recorded while there is room, leaves its item stopped and suspends at most its batch. -/
theorem State.failMovement_recorded {m : Movement} (hm : (s.item i).movement = some m) {k : FaultKind}
    (hnone : s.faultOf k (.item i) = none) (hroom : s.mach.faults.length < 16) :
    (s.failMovement i k).duty = { s.duty with
        faults := s.mach.faults ++ [s.failureRecord i k m]
        events := s.hand.toRun ++ (ownerBatch m.owner).toList.map fun b => .suspend b.1 .fault } ∧
      (s.failMovement i k).stoppedAt i := by
  have hduty := s.orderStop_duty i
  have hfaults : (s.orderStop i).mach.faults = s.mach.faults := congrArg Duty.faults hduty
  have hnext : (s.orderStop i).mach.nextFault = s.mach.nextFault := by
    unfold State.orderStop State.setCommand
    dsimp only
    split <;> rfl
  have hnone' : (s.orderStop i).faultOf k (.item i) = none := by rwa [State.faultOf, hfaults]
  have hroom' : (s.orderStop i).hasFaultRoom = true := by
    rw [State.hasFaultRoom, hfaults]
    exact decide_eq_true hroom
  obtain ⟨ns, hns⟩ := (s.orderStop i).newFault_eq k (.item i) true ((s.orderStop i).capture i (ownerBatch m.owner))
  have hrecord : (s.orderStop i).freshFault k (.item i) true ((s.orderStop i).capture i (ownerBatch m.owner)) =
      s.failureRecord i k m := by
    rw [State.orderStop_capture hm, State.failureRecord, State.freshFault, State.freshFault, hfaults, hnext]
  have hraise : (s.orderStop i).raiseFault k (.item i) true true i (ownerBatch m.owner) =
      (s.orderStop i).withFault (s.failureRecord i k m) ns := by
    rw [← hrecord, ← hns, State.raiseFault, hnone']
    exact if_pos hroom'
  have hact : s.failMovement i k =
      (((s.orderStop i).withFault (s.failureRecord i k m) ns).setMovement i none).handOwner m.owner .fault := by
    unfold State.failMovement
    rw [hm]
    dsimp only
    rw [hraise]
  have hstop : (((s.orderStop i).withFault (s.failureRecord i k m) ns).setMovement i none).stoppedAt i := by
    obtain ⟨hcommand, -⟩ := s.orderStop_command i
    have hset := State.item_setMovement_self ((s.orderStop i).withFault (s.failureRecord i k m) ns) i none
    exact ⟨congrArg ItemRec.movement hset, (congrArg ItemRec.command hset).trans hcommand, s.orderStop_holds i⟩
  have hset : (((s.orderStop i).withFault (s.failureRecord i k m) ns).setMovement i none).duty =
      { s.duty with faults := s.mach.faults ++ [s.failureRecord i k m] } := by
    rw [← hduty, ← hfaults]
    rfl
  generalize ((s.orderStop i).withFault (s.failureRecord i k m) ns).setMovement i none = u at hact hstop hset
  have hrun : u.hand.toRun = s.hand.toRun := congrArg Duty.events hset
  rw [hact]
  cases m.owner with
  | batch n st =>
    refine ⟨?_, hstop⟩
    have hemit : (u.handOwner (.batch n st) .fault).duty =
        { u.duty with events := u.hand.toRun ++ [.suspend n .fault] } := rfl
    rw [hemit, hset, hrun]
    rfl
  | protective =>
    refine ⟨?_, hstop⟩
    have hsame : (u.handOwner .protective .fault).duty = { u.duty with events := u.hand.toRun ++ [] } := by
      rw [List.append_nil]
      rfl
    rw [hsame, hset, hrun]
    rfl

/-! ### The expiry of a limit (R34) -/

/-- A limit that runs fails its movement at its expiry. -/
theorem exec_limit {m : Movement} {e : Nat} {kind : FaultKind} {c : Instr} (hp : s.powered = true)
    (hm : (s.item i).movement = some m)
    (h : (m.phase = .awaitStart ∧ m.startLimit = some e ∧ kind = .startTimeout ∧ c = .startLimitExpiry i) ∨
      (m.phase = .travel ∧ m.travelLimit = some e ∧ kind = .travelTimeout ∧ c = .travelLimitExpiry i)) :
    ∃ t, exec c s = .next t ∧ (((s.reach e).failMovement i kind).finish).SameFlight t := by
  rcases h with ⟨hphase, hlimit, rfl, rfl⟩ | ⟨hphase, hlimit, rfl, rfl⟩
  · have hof : s.startLimitOf i = some e := by
      rw [State.startLimitOf, hm]
      exact (if_pos hphase).trans hlimit
    obtain ⟨t, hexec, ht⟩ := exec_event_flight (c := .startLimitExpiry i) rfl hp
    rw [if_pos (by rw [hof]; rfl), State.endStartLimit, hof] at ht
    exact ⟨t, hexec, ht⟩
  · have hof : s.travelLimitOf i = some e := by
      rw [State.travelLimitOf, hm]
      exact (if_pos hphase).trans hlimit
    obtain ⟨t, hexec, ht⟩ := exec_event_flight (c := .travelLimitExpiry i) rfl hp
    rw [if_pos (by rw [hof]; rfl), State.endTravelLimit, hof] at ht
    exact ⟨t, hexec, ht⟩

/-- Settles O30, from what the failure of a movement leaves and what the end of the step keeps of it. -/
theorem movementLimitsExpire : Obligations.MovementLimitsExpire := by
  unfold Obligations.MovementLimitsExpire
  refine ⟨fun i m e kind c s hp hcalm hm hlimit hnone hroom => ?_, fun i s hidle => ?_, fun i s hidle => ?_⟩
  · obtain ⟨t, hexec, ht⟩ := exec_limit hp hm hlimit
    obtain ⟨hduty, hstop⟩ := State.failMovement_recorded (s := s.reach e) hm hnone hroom
    have hfixed : ((s.reach e).failMovement i kind).fixed = { s.fixed with now := max s.now e } :=
      State.failMovement_fixed _ _ _
    have hbatches : ((s.reach e).failMovement i kind).traffic.batches = s.traffic.batches := congrArg Duty.batches hduty
    have hfaults : ((s.reach e).failMovement i kind).mach.faults = s.mach.faults ++ [(s.reach e).failureRecord i kind m] :=
      congrArg Duty.faults hduty
    have hrun : ((s.reach e).failMovement i kind).hand.toRun =
        (ownerBatch m.owner).toList.map fun b => .suspend b.1 .fault :=
      (congrArg Duty.events hduty).trans (by rw [State.reach, show s.hand.toRun = [] by rw [hcalm.1]]; rfl)
    have honly : ((s.reach e).failMovement i kind).OnlySuspends := by
      refine State.onlySuspends_of_calm hcalm hbatches ((congrArg Duty.causes hduty).trans ?_)
        ((congrArg Duty.evaluate hduty).trans ?_) fun x hx => ?_
      · exact congrArg HandOvers.toHalt hcalm.1
      · exact congrArg HandOvers.evaluate hcalm.1
      · rw [hrun] at hx
        obtain ⟨b, -, rfl⟩ := List.mem_map.1 hx
        exact ⟨b.1, .fault, rfl⟩
    generalize (s.reach e).failMovement i kind = u at ht hduty hstop hfixed hbatches hfaults hrun honly
    have hfresh : ((s.reach e).failureRecord i kind m).number ∉ s.mach.faults.map (·.number) :=
      freeNumber_not_mem (by rw [List.length_map]; change s.mach.faults.length ≤ 17; omega) (by decide)
    have hitem : ∀ j, t.item j = u.finish.item j := fun j => by rw [State.item, ht.mach]; rfl
    refine ⟨t, ((s.reach e).failureRecord i kind m).number, hexec, ?_, fun r hr hn => ?_, ?_, fun b st x howner hx => ?_,
      fun hwhich => ?_, fun m' hm' => ?_⟩
    · rw [ht.fixed, State.finish_fixed, hfixed]
    · exact hfresh (hn ▸ List.mem_map_of_mem hr)
    · rw [ht.mach, honly.finish_faults, hfaults]
      rfl
    · rw [howner] at hrun
      obtain ⟨y, hy, hr⟩ := honly.finish_reason (b := x) hrun ((State.batch?_of_batches hbatches b).trans hx)
      exact ⟨y, (State.batch?_of_batches (congrArg Traffic.batches ht.traffic) b).trans hy, hr⟩
    · have hstopped : u.finish.stoppedAt i := by
        rcases hwhich with hgate | hprot
        · cases i with
          | gate k => exact honly.finish_gateStopped hstop
          | sluice k => exact nomatch hgate
          | byWash w => exact nomatch hgate
        · exact honly.finish_stopped (by rw [hrun, hprot]; rfl) hstop
      obtain ⟨h1, h2, h3⟩ := hstopped
      rw [hitem]
      refine ⟨h1, h2, ?_⟩
      unfold State.holdsOrder State.station at h3 ⊢
      rwa [ht.line]
    · rw [hitem] at hm'
      cases hi : isGate i with
      | false =>
        refine honly.finish_shutsOnly hi (fun x hx => ?_) m' hm'
        rw [hstop.1] at hx
        exact nomatch hx
      | true =>
        cases i with
        | gate k =>
          have hnone' := honly.finish_gateRests hstop.1
          rw [hnone'] at hm'
          exact nomatch hm'
        | sluice k => exact nomatch hi
        | byWash w => exact nomatch hi
  · exact exec_event_idle (c := .startLimitExpiry i) rfl (if_neg (by rw [hidle]; decide))
  · exact exec_event_idle (c := .travelLimitExpiry i) rfl (if_neg (by rw [hidle]; decide))

end

end Sys2Proof.Machine
end

section
/-! LINE RATE AND RESETS: SET LINE RATE, by what a change of rate hands over, and RESET STATION (O34). -/

namespace Sys2Proof.Machine

/-! ### A change of rate hands nothing over -/

/-- What is handed over and what the batches are. -/
def State.tasks (s : State) : HandOvers × List Batch := (s.hand, s.traffic.batches)

section

variable (s : State)

theorem State.changeFault_tasks (old new : FaultRec) : (s.changeFault old new).tasks = s.tasks := by
  unfold State.changeFault
  split
  · rfl
  · rw [State.noticeRaised, State.notify_withNotices]
    rfl

theorem State.stationUnsynced_tasks (k : Station) : (s.stationUnsynced k).tasks = s.tasks := by
  have hreadings : (s.loseReadings k).tasks = s.tasks := by
    unfold State.loseReadings
    dsimp only
    split <;> split <;> rfl
  have hpositions : ∀ t : State, (t.forgetPositions k).tasks = t.tasks := fun t =>
    foldl_frame (f := fun u i => u.setItem i { u.item i with position := none }) State.tasks (fun _ _ => rfl) _ t
  have hinputs : ∀ t : State, (t.loseInputs k).tasks = t.tasks := fun t =>
    foldl_frame State.tasks (fun u r => u.changeFault_tasks r _) _ _
  exact (hinputs _).trans ((hpositions _).trans hreadings)

theorem State.enterStation_unsynced_tasks (k : Station) (n : Nat) : (s.enterStation k .unsynced n).tasks = s.tasks := by
  unfold State.enterStation
  dsimp only
  split
  · rfl
  · rw [State.noticeStation, State.notify_withNotices]
    exact State.stationUnsynced_tasks _ k

theorem State.abortRound_tasks : s.abortRound.tasks = s.tasks := by
  have hcarried : ∀ (t : State) (k : Station), (t.failCarried k).tasks = t.tasks := fun t k => by
    unfold State.failCarried State.markUnanswered
    dsimp only
    repeat' split
    all_goals rfl
  unfold State.abortRound
  split
  · exact hcarried _ _
  · rfl

theorem State.changeRate_tasks (r : LineRate) : (s.changeRate r).tasks = s.tasks := by
  have hunsync : ∀ t : State, t.unsyncAll.tasks = t.tasks := fun t =>
    foldl_frame State.tasks (fun u k => by
      split
      · rfl
      · exact u.enterStation_unsynced_tasks k 0) _ t
  exact (hunsync _).trans s.abortRound_tasks

/-! ### The stations after it -/

theorem State.unsyncEach_stations (ks : List Station) : ∀ (s : State) (k : Station),
    (ks.foldl (fun s k => if (s.station k).state = .lost then s else s.enterStation k .unsynced 0) s).told.stations k =
      if k ∈ ks ∧ (s.station k).state ≠ .lost then (.unsynced, 0) else s.told.stations k := by
  induction ks with
  | nil => exact fun s k => (if_neg (by simp)).symm
  | cons j js ih =>
    intro s k
    rw [List.foldl_cons, ih]
    by_cases hj : (s.station j).state = .lost
    · rw [if_pos hj]
      by_cases hk : k = j
      · subst hk
        simp [hj]
      · simp [hk]
    · rw [if_neg hj]
      obtain ⟨hst, -⟩ := s.enterStation_stations j .unsynced 0
      have hstate : ((s.enterStation j .unsynced 0).station k).state =
          (Function.update s.told.stations j (.unsynced, 0) k).1 := congrArg (fun f => (f k).1) hst
      rw [hstate, hst]
      by_cases hk : k = j
      · subst hk
        simp [hj]
      · simp [Function.update_of_ne hk, hk, State.told]

theorem State.changeRate_stations (r : LineRate) (k : Station) : (s.changeRate r).told.stations k =
    if (s.station k).state ≠ .lost then (.unsynced, 0) else s.told.stations k := by
  have hround : (s.abortRound.setLine { s.abortRound.line with rate := r }).told.stations = s.told.stations :=
    congrArg (·.seen.stations) s.abortRound_steady
  have hstate : ((s.abortRound.setLine { s.abortRound.line with rate := r }).station k).state = (s.station k).state :=
    congrArg (fun f => (f k).1) hround
  have hall : k ∈ allStations := by cases k <;> decide
  have hfold := State.unsyncEach_stations allStations (s.abortRound.setLine { s.abortRound.line with rate := r }) k
  simp only [hround, hstate, hall, true_and] at hfold
  exact hfold

end

theorem State.quiet_of_tasks {s t : State} (hcalm : s.calm) (h : t.tasks = s.tasks) : t.quiet := by
  obtain ⟨hhand, hbatches⟩ := Prod.mk.inj h
  obtain ⟨hs, hb⟩ := hcalm
  rw [hs] at hhand
  refine ⟨by rw [hhand], by rw [hhand], by rw [hhand], fun he => ?_, fun b hm => hb b (hbatches ▸ hm)⟩
  rw [hhand] at he
  exact nomatch he

theorem State.line_of_emptied {u t : State} (h : u.emptied.settlesTo t) : t.line.rate = u.line.rate ∧
    t.line.poll = u.line.poll ∧ t.line.slot = u.line.slot ∧ t.told.stations = u.told.stations := by
  obtain ⟨heq, hst, -⟩ := h
  refine ⟨congrArg (·.line.rate) heq, congrArg (·.line.poll) heq, congrArg (·.line.slot) heq, ?_⟩
  funext k
  exact Prod.ext (hst k).1 (hst k).2.1

/-! ### SET LINE RATE (R68) -/

theorem lineRateRequest_refused {n : Nat} {s : State} (hr : rateOf n = some .fast) (h : s.halt.state ≠ .running) :
    lineRateRequest n s = refuse .halted s := by
  simp only [lineRateRequest, hr, h, ne_eq, not_false_eq_true, and_self, if_true]

theorem lineRateRequest_taken {n : Nat} {r : LineRate} {s : State} (hr : rateOf n = some r)
    (h : r = .slow ∨ s.halt.state = .running) :
    lineRateRequest n s = accept [] (if s.line.rate = r then s else (s.changeRate r).finish) := by
  have hno : ¬ (r = .fast ∧ s.halt.state ≠ .running) := by
    rintro ⟨rfl, hne⟩
    exact h.elim (fun hs => nomatch hs) hne
  simp only [lineRateRequest, hr, if_neg hno]

/-! ### RESET STATION (R80) -/

theorem sameSlot_reset (c : Command) : sameSlot c .reset = (c == .reset) := by
  cases c with
  | item i o => cases i <;> rfl
  | face x a => cases x <;> rfl
  | reset => rfl

theorem placeReset_eq (q : List QueueEntry) : placeReset q =
    if q.any (fun e => e.command == .reset) then q else q ++ [freshEntry .reset] := by
  simp only [placeReset, sameSlot_reset]

/-- Settles O34: a change of rate hands nothing over, so its end leaves the line as the change does; a reset is placed
on a queue that has none. -/
theorem lineRateAndStationReset : Obligations.LineRateAndStationReset := by
  refine ⟨fun tag n r s hrate ht => ⟨fun hr hhalt => ?_, fun hr hsame => ?_, fun hr hne hcalm => ?_⟩,
    fun tag n k s hk ht => ⟨fun hhalt => ?_, fun hhalt huse => ?_, fun hhalt huse => ?_⟩⟩
  · subst hr
    exact exec_request_replied rfl ht (some .halted) [] rfl (lineRateRequest_refused (s := s.popRequest) hrate hhalt)
  · refine exec_request_replied rfl ht none [] rfl ((lineRateRequest_taken (s := s.popRequest) hrate hr).trans ?_)
    rw [if_pos (show s.popRequest.line.rate = r from hsame)]
    rfl
  · have hact : requestAct (.setLineRate tag n) s.popRequest = accept [] (s.popRequest.changeRate r).finish :=
      (lineRateRequest_taken (s := s.popRequest) hrate hr).trans (by rw [if_neg (show s.popRequest.line.rate ≠ r from hne)])
    obtain ⟨t, hexec, hfixed, hreply, -, hset⟩ := exec_request_finished (c := .setLineRate tag n) rfl ht rfl hact
    have hquiet : (s.popRequest.changeRate r).quiet :=
      State.quiet_of_tasks hcalm (State.changeRate_tasks _ r)
    obtain ⟨htr, htp, hts, hst⟩ := State.line_of_emptied (hset hquiet)
    obtain ⟨hr, hpoll, hslot⟩ := s.popRequest.changeRate_line r
    have hk : ∀ k, ((t.station k).state, (t.station k).failed) =
        if (s.station k).state ≠ .lost then (.unsynced, 0) else ((s.station k).state, (s.station k).failed) := by
      have hall := s.popRequest.changeRate_stations r
      rw [← hst] at hall
      exact hall
    refine ⟨t, hexec, hfixed.trans (State.changeRate_fixed _ r), hreply, htr.trans hr, htp.trans hpoll,
      hts.trans hslot, fun k => ⟨fun hl => ?_, fun hl => ?_⟩⟩
    · obtain ⟨h1, h2⟩ := Prod.mk.inj ((hk k).trans (if_neg (not_not.2 hl)))
      exact ⟨h1.trans hl, h2⟩
    · exact Prod.mk.inj ((hk k).trans (if_pos hl))
  · refine exec_request_replied rfl ht (some .halted) [] rfl ?_
    have hne : s.popRequest.halt.state ≠ .running := hhalt
    simp only [requestAct, resetStationRequest, hk, hne, ne_eq, not_false_eq_true, if_true]
    rfl
  · refine exec_request_replied rfl ht (some .inUse) [] rfl ?_
    have hrun : s.popRequest.halt.state = .running := hhalt
    have hin : s.popRequest.stationInUse k = true := huse
    simp only [requestAct, resetStationRequest, hk, hrun, hin, ne_eq, not_true_eq_false, if_false, if_true]
    rfl
  · have hrun : s.popRequest.halt.state = .running := hhalt
    have hin : s.popRequest.stationInUse k = false := huse
    have hact : requestAct (.resetStation tag n) s.popRequest = accept [] (s.placeStationReset k).popRequest := by
      simp only [requestAct, resetStationRequest, hk, hrun, hin, ne_eq, not_true_eq_false, if_false, Bool.false_eq_true]
      rfl
    have hplain := s.answering_plain (s.placeStationReset k) tag 0x95#8 none [] rfl rfl rfl
    rw [← placeReset_eq, exec_request_answering rfl ht (s.placeStationReset k) none [] rfl hact rfl rfl]
    exact congrArg _ hplain

end Sys2Proof.Machine
end

section
/-! SUSPENSION AND RESUMPTION: what RESUME BATCH makes of two batches of one number (O50). -/

namespace Sys2Proof.Machine

/-- A suspended batch that has yet to enter the flight. -/
def heldBatch (n : Nat) (d : Direction) (p : StepNo) (r : Option StepRec) : Batch :=
  { crowdBatch n with direction := d, position := p, reasons := [.byRequest], step := r }

/-- Batch 2 claims C3, for which the first batch of number 1 then waits; the second of that number needs C1 alone. -/
def twinned : State :=
  let s := crowded [heldBatch 1 .up .one none, heldBatch 1 .down .two none,
    heldBatch 2 .up .one (some { StepRec.start with phase := .levelWait, claims := [.c3] })]
  { s with line := { s.line with stations := Quad.const { state := .online, failed := 0, queue := [] } } }

theorem twinned_calm : twinned.calm := by
  refine ⟨rfl, fun b hb => .inl ?_⟩
  simp only [twinned, crowded, List.mem_cons, List.not_mem_nil, or_false] at hb
  rcases hb with rfl | rfl | rfl <;> rfl

/-- The phase of the first batch of a number, in the state a command leaves. -/
def phaseAfter (o : Host.Outcome State Fault Refusal) (n : Nat) : Option Phase :=
  match o with
  | .next t => (t.batch? n).bind Batch.phase?
  | _ => none

/-- The second batch of number 1 takes C1, and both its claim and its phase are written to the first. -/
theorem twinned_resumed : phaseAfter (exec (.resumeBatch 0#8 1) twinned) 1 = some .readying := by decide +kernel

/-- Refutes O50: where a second batch bears the number of the one resumed, its claim takes the first out of CLAIMING
too, though another batch claims a chamber the first needs. -/
theorem not_suspendAndResume : ¬ Obligations.SuspendAndResume := by
  unfold Obligations.SuspendAndResume
  rintro ⟨-, -, hresume⟩
  obtain ⟨-, -, -, haccepted⟩ := hresume 0#8 1 (heldBatch 1 .up .one none) twinned rfl rfl
  obtain ⟨t, hexec, -, -, hwaits⟩ := haccepted rfl rfl (by decide +kernel)
  have hbatch := hwaits twinned_calm ⟨heldBatch 2 .up .one
    (some { StepRec.start with phase := .levelWait, claims := [.c3] }), by simp [twinned, crowded], by decide,
    .c3, by decide, by decide⟩
  have hphase := twinned_resumed
  rw [hexec, phaseAfter, hbatch] at hphase
  exact absurd hphase (by decide)

end Sys2Proof.Machine
end

section
/-! THE STEPS OF A BATCH: what the expiry of a limit leaves of its batch, and how the step of a running batch goes on
(O51). -/

namespace Sys2Proof.Machine

/-! ### A batch suspended while it ran -/

section

variable {s : State} {n : Nat} {b : Batch} {r : Reason}

/-- The batch of a number stands, its reasons apart, and one of them is `r`. -/
def State.holdsBatch (s : State) (b : Batch) (r : Reason) : Prop :=
  ∃ rs, r ∈ rs ∧ s.batch? b.number = some { b with reasons := rs }

theorem State.holdsBatch_of_batches {t : State} (h : t.traffic.batches = s.traffic.batches) (hs : s.holdsBatch b r) :
    t.holdsBatch b r := by
  obtain ⟨rs, hr, hb⟩ := hs
  exact ⟨rs, hr, (State.batch?_of_batches h _).trans hb⟩

theorem State.holdsBatch_addReason (hs : s.holdsBatch b r) (x : Reason) : (s.addReason b.number x).holdsBatch b r := by
  obtain ⟨rs, hr, hb⟩ := hs
  obtain ⟨rs', hb', -, hkept⟩ := s.batch?_addReason hb x
  exact ⟨rs', hkept r hr, hb'⟩

theorem State.holdsBatch_safeRequests (hs : s.holdsBatch b r) (d : Direction) (st : Step) (p : Phase) :
    (s.safeRequests b.number d st p).holdsBatch b r := by
  have hduty : ∀ t : State, t.duty = s.duty → t.holdsBatch b r := fun t h =>
    State.holdsBatch_of_batches (congrArg Duty.batches h) hs
  have hface : ∀ (t : State) (f : Face), t.duty = s.duty → (t.requestFaceStop f b.number st).holdsBatch b r := by
    intro t f h
    refine State.holdsBatch_of_batches ?_ (hduty t h)
    rcases t.requestFaceStop_duty f b.number st with h | h <;> exact congrArg Duty.batches h
  have hwater : ∀ i : Item, (addAnswer b.number (s.requestMove i .shut (.batch b.number st))).holdsBatch b r := by
    intro i
    have hmove := hduty _ (s.requestMove_duty i .shut b.number st)
    unfold addAnswer
    split
    · exact State.holdsBatch_addReason hmove _
    · exact hmove
  unfold State.safeRequests
  split
  · exact hwater _
  · exact hwater _
  · exact hwater _
  · exact hduty _ (by simp)
  · exact hduty _ (by simp)
  · exact State.holdsBatch_of_batches (congrArg Duty.batches (State.withdrawStopWait_duty _ _ _))
      (hface _ _ (by simp))
  · exact hduty _ (by simp)
  · exact hs

/-- The first reason of a batch empties its list and halts its step. -/
theorem State.suspend_running (h : s.batch? n = some b) (hs : b.suspended = false) (r : Reason) :
    ∃ rs, r ∈ rs ∧ (s.suspend n r).batch? n =
      some { b with reasons := rs, preparation := [], step := b.step.map StepRec.halted } := by
  obtain ⟨hnum, -⟩ := State.batch?_some h
  obtain ⟨rs, hadd, hr, -⟩ := s.batch?_addReason h r
  have hsuspend : s.suspend n r = (s.addReason n r).makeSafe b := by
    unfold State.suspend
    rw [h]
    dsimp only
    rw [hs]
    exact if_neg Bool.false_ne_true
  rw [hsuspend]
  subst hnum
  have hmod : ∀ (u : State) (f : Batch → Batch), u.batch? b.number = some { b with reasons := rs } →
      (∀ b, (f b).number = b.number) → (u.modBatch b.number f).batch? b.number = some (f { b with reasons := rs }) := by
    intro u f hu hf
    rw [State.batch?_modBatch u _ _ hf, if_pos rfl, hu]
    rfl
  unfold State.makeSafe
  split
  · rename_i hnone
    refine ⟨rs, hr, (hmod _ (fun x => { x with preparation := [] }) hadd fun _ => rfl).trans ?_⟩
    rw [hnone]
    rfl
  · rename_i y hy
    dsimp only
    have htarget : ((s.addReason b.number r).withdrawTarget b.current y.phase).batch? b.number =
        some { b with reasons := rs } :=
      (State.batch?_of_batches (congrArg Duty.batches (State.withdrawTarget_duty _ _ _)) _).trans hadd
    have hhalted := hmod _ (fun x => { x with preparation := [], step := x.step.map StepRec.halted }) htarget fun _ => rfl
    split
    · have hkept := State.holdsBatch_safeRequests
        (b := { b with preparation := [], step := b.step.map StepRec.halted }) ⟨rs, hr, hhalted⟩ b.direction b.current y.phase
      obtain ⟨rs', hr', hb'⟩ := hkept
      exact ⟨rs', hr', hb'⟩
    · exact ⟨rs, hr, hhalted⟩

end

/-- No suspension waits among the hand-overs. -/
def State.noneToSuspend (s : State) : Prop := ∀ e ∈ s.hand.toRun, ∀ n r, e ≠ .suspend n r

/-- With no suspension handed over, the end of the step leaves every batch. -/
theorem State.OnlySuspends.finish_batches {s : State} (hs : s.OnlySuspends) (h : s.noneToSuspend) :
    s.finish.traffic.batches = s.traffic.batches := by
  obtain ⟨v, -, ⟨hv, -⟩, hset⟩ := hs.finish (I := fun t => t.traffic.batches = s.traffic.batches ∧ t.noneToSuspend)
    (fun t n r rest he ⟨_, hnone⟩ => absurd rfl (hnone _ (he ▸ List.mem_cons_self) n r))
    (fun _ _ ⟨ht, hnone⟩ hsub => ⟨ht, fun e he => hnone e (hsub e he)⟩)
    (fun t ⟨ht, hnone⟩ => by
      have hduty := t.retest_duty
      have hevents : t.retest.hand.toRun = t.hand.toRun := congrArg Duty.events hduty
      exact ⟨(congrArg Duty.batches hduty).trans ht, fun e he => hnone e (hevents ▸ he)⟩) ⟨rfl, h⟩
  exact (congrArg (·.traffic.batches) hset.1).trans hv

theorem State.suspend_noneToSuspend {s : State} (h : s.hand.toRun = []) (n : Nat) (r : Reason) :
    (s.suspend n r).noneToSuspend := by
  intro e he m x hex
  rcases (s.suspend_eases n r).events e he with hm | ⟨_, _, heq, -⟩
  · rw [h] at hm
    exact nomatch hm
  · rw [heq] at hex
    exact nomatch hex

/-! ### The limits (R138, R141) -/

theorem State.active?_some {s : State} {n : Nat} {b : Batch} {r : StepRec} (h : s.active? n = some (b, r)) :
    s.batch? n = some b ∧ b.step = some r ∧ b.suspended = false ∧ b.number = n := by
  unfold State.active? at h
  cases hb : s.batch? n with
  | none => rw [hb] at h; exact nomatch h
  | some x =>
    rw [hb] at h
    dsimp only at h
    split at h
    · rename_i y hy
      split at h
      · exact nomatch h
      · rename_i hs
        obtain ⟨rfl, rfl⟩ := Prod.mk.inj (Option.some.inj h)
        exact ⟨rfl, hy, Bool.eq_false_iff.2 hs, (State.batch?_some hb).1⟩
    · exact nomatch h

theorem exec_waterLimit {n e : Nat} {b : Batch} {r : StepRec} {s : State} (hp : s.powered = true)
    (hactive : s.active? n = some (b, r)) (hlimit : r.waterLimit = some e) :
    ∃ t, exec (.waterStepLimitExpiry n) s = .next t ∧
      (((s.reach e).stepFault b .levelTimeout (timeoutChamber (stepItem b.current)) .levelTimeout).finish).SameFlight t := by
  obtain ⟨t, hexec, ht⟩ := exec_event_flight (c := .waterStepLimitExpiry n) rfl hp
  have hruns : s.waterLimitRuns n = true := by
    simp only [State.waterLimitRuns, hactive, hlimit, Option.isSome]
  have hend : s.endWaterLimit n =
      (s.reach e).stepFault b .levelTimeout (timeoutChamber (stepItem b.current)) .levelTimeout := by
    simp only [State.endWaterLimit, hactive, hlimit]
  rw [if_pos hruns, hend] at ht
  exact ⟨t, hexec, ht⟩

theorem waterStepLimit_expires {n e : Nat} {b : Batch} {r : StepRec} {s : State} (hp : s.powered = true)
    (hcalm : s.calm) (hactive : s.active? n = some (b, r)) (hlimit : r.waterLimit = some e)
    (hnone : s.faultOf .levelTimeout (.chamber (timeoutChamber (stepItem b.current))) = none)
    (hroom : s.mach.faults.length < 16) : ∃ t f x, exec (.waterStepLimitExpiry n) s = .next t ∧
      t.fixed = { s.fixed with now := max s.now e } ∧ t.mach.faults = s.mach.faults ++ [f] ∧
      f.kind = .levelTimeout ∧ f.source = .chamber (timeoutChamber (stepItem b.current)) ∧
      f.latched = true ∧ f.capture.batch = some (n, b.current) ∧
      t.batch? n = some x ∧ Reason.levelTimeout ∈ x.reasons ∧
      x.step = some { r with claims := [], roomMade := [], waterLimit := none, moveWait := none } := by
  obtain ⟨hb, hstep, hsus, rfl⟩ := State.active?_some hactive
  obtain ⟨t, hexec, ht⟩ := exec_waterLimit hp hactive hlimit
  have hhand : s.hand.toRun = [] ∧ s.hand.toHalt = [] ∧ s.hand.evaluate = false := by
    rw [hcalm.1]
    exact ⟨rfl, rfl, rfl⟩
  obtain ⟨hrun, hhalt, heval⟩ := hhand
  obtain ⟨ns, hns⟩ := (s.reach e).newFault_eq .levelTimeout (.chamber (timeoutChamber (stepItem b.current))) true
    ((s.reach e).capture (stepItem b.current) (some (b.number, b.current)))
  have hraise : (s.reach e).raiseFault .levelTimeout (.chamber (timeoutChamber (stepItem b.current))) true true
      (stepItem b.current) (some (b.number, b.current)) = (s.reach e).withFault ((s.reach e).freshFault .levelTimeout
        (.chamber (timeoutChamber (stepItem b.current))) true
        ((s.reach e).capture (stepItem b.current) (some (b.number, b.current)))) ns := by
    rw [← hns, State.raiseFault, show (s.reach e).faultOf .levelTimeout
      (.chamber (timeoutChamber (stepItem b.current))) = none from hnone]
    exact if_pos (decide_eq_true hroom)
  rw [State.stepFault, hraise] at ht
  generalize hf : (s.reach e).freshFault .levelTimeout (.chamber (timeoutChamber (stepItem b.current))) true
    ((s.reach e).capture (stepItem b.current) (some (b.number, b.current))) = f at ht
  have honly : ((s.reach e).withFault f ns).OnlySuspends := ⟨hhalt, heval, hcalm.2, fun x hx => by
    rw [show ((s.reach e).withFault f ns).hand.toRun = [] from hrun] at hx
    exact nomatch hx⟩
  have heases := ((s.reach e).withFault f ns).suspend_eases b.number .levelTimeout
  have honly' := heases.onlySuspends honly
  obtain ⟨rs, hr, hx⟩ := State.suspend_running (s := (s.reach e).withFault f ns) hb hsus .levelTimeout
  have hbatches := honly'.finish_batches (State.suspend_noneToSuspend (s := (s.reach e).withFault f ns) hrun _ _)
  refine ⟨t, f, { b with reasons := rs, preparation := [], step := b.step.map StepRec.halted }, hexec, ?_, ?_, ?_, ?_, ?_,
    ?_, ?_, hr, ?_⟩
  · rw [ht.fixed, State.finish_fixed, State.suspend_fixed]
    rfl
  · rw [ht.mach, honly'.finish_faults, heases.faults]
    rfl
  · rw [← hf]
    rfl
  · rw [← hf]
    rfl
  · rw [← hf]
    rfl
  · rw [← hf]
    rfl
  · exact (State.batch?_of_batches ((congrArg Traffic.batches ht.traffic).trans hbatches) _).trans hx
  · rw [hstep]
    rfl

theorem moveWait_expires {n e : Nat} {b : Batch} {r : StepRec} {s : State} (hp : s.powered = true)
    (hactive : s.active? n = some (b, r)) (hwait : r.moveWait = some e) (hsent : r.overdueSent = false)
    (hmask : s.console.mask.traffic = true) : exec (.moveWaitExpiry n) s = .next { s with
        now := max s.now e
        traffic := { s.traffic with batches := s.traffic.batches.map fun x =>
          if x.number = n then
            { x with step := x.step.map fun y => { y with moveWait := none, overdueSent := true } }
          else x }
        console := { s.console with
          notices :=
            placeNotice ⟨.overdue, n, [num 1 n, num 1 (stepCodeOf b.current)]⟩ s.console.notices } } := by
  have hact : s.endMoveWait n = { s with
        now := max s.now e
        traffic := { s.traffic with batches := s.traffic.batches.map fun x =>
          if x.number = n then
            { x with step := x.step.map fun y => { y with moveWait := none, overdueSent := true } }
          else x }
        console := { s.console with
          notices :=
            placeNotice ⟨.overdue, n, [num 1 n, num 1 (stepCodeOf b.current)]⟩ s.console.notices } } := by
    have hon : noticeEnabled s.console.mask .overdue = true := hmask
    simp only [State.endMoveWait, hactive, hwait, hsent, Bool.false_eq_true, if_false]
    exact if_pos hon
  have hretained : (s.endMoveWait n).retainedOf = s.retainedOf := by
    rw [hact]
    have hmap : (s.traffic.batches.map fun x => if x.number = n then
        { x with step := x.step.map fun y => { y with moveWait := none, overdueSent := true } } else x).map
          Batch.retained = s.traffic.batches.map Batch.retained := by
      rw [List.map_map]
      refine List.map_congr_left fun x _ => ?_
      simp only [Function.comp_apply]
      split <;> rfl
    exact congrArg (fun bs => { s.retainedOf with batches := bs }) hmap
  rw [exec_event (c := .moveWaitExpiry n) rfl, State.event_plain _ _ hp hretained, hact]

/-! ### The step of a running batch -/

section

variable {s : State} {n : Nat} {b : Batch} {r : StepRec}

theorem State.batch?_modStep (h : s.batch? n = some b) (f : StepRec → StepRec) :
    (s.modStep n f).batch? n = some { b with step := b.step.map f } := by
  rw [State.modStep, State.batch?_modBatch s n n (f := fun b => { b with step := b.step.map f }) (fun _ => rfl), if_pos rfl, h]
  rfl

theorem State.batch?_setPhase (h : s.batch? n = some b) (p : Phase) :
    (s.setPhase n p).batch? n = some { b with step := b.step.map fun r => { r with phase := p } } :=
  State.batch?_modStep h _

/-- What no placing of a command changes. -/
structure Beside where
  now : Nat
  level : Levels
  signal : Signals
  halt : Halt
  traffic : Traffic
  toll : Tolls
  receipts : Receipts

def State.beside (s : State) : Beside :=
  { now := s.now, level := s.level, signal := s.signal, halt := s.halt, traffic := s.traffic, toll := s.toll
    receipts := s.receipts }

section

variable (s : State) (i : Item)

theorem State.setCommand_beside (c : CmdState) : (s.setCommand i c).beside = s.beside := by
  unfold State.setCommand
  split <;> rfl

theorem State.orderStop_beside : (s.orderStop i).beside = s.beside := State.setCommand_beside _ _ _

theorem State.orderMove_beside (x : Target) : (s.orderMove i x).beside = s.beside := State.setCommand_beside _ _ _

theorem State.tryPlace_beside : (s.tryPlace i).beside = s.beside := by
  unfold State.tryPlace
  repeat' split
  · exact s.orderMove_beside i _
  · rfl
  · rfl

theorem State.withdrawMove_beside : (s.withdrawMove i).beside = s.beside := by
  unfold State.withdrawMove
  repeat' split
  all_goals rfl

theorem State.supersede_beside (a b : Owner) : (s.supersede a b).beside = s.beside := by
  unfold State.supersede
  split <;> rfl

theorem State.requestMove_beside (x : Target) (o : Owner) : (s.requestMove i x o).2.beside = s.beside := by
  unfold State.requestMove
  repeat' split
  · rfl
  · unfold State.requestNew
    dsimp only
    split
    · rfl
    · exact State.tryPlace_beside _ _
  · unfold State.requestJoin
    split
    · exact State.supersede_beside _ _ _
    · rfl
  · rename_i m _ _
    have hwithdraw : (if m.queued then s.withdrawMove i else s).beside = s.beside := by
      split
      · exact s.withdrawMove_beside i
      · rfl
    unfold State.requestReverse
    split
    · exact State.supersede_beside _ _ _
    · dsimp only
      split
      · exact (State.supersede_beside _ _ _).trans hwithdraw
      · exact (State.tryPlace_beside _ _).trans ((State.supersede_beside _ _ _).trans hwithdraw)
    · exact (State.tryPlace_beside _ _).trans (State.supersede_beside _ _ _)

end

/-- A movement request that is available, for an item that does not stand at its target, leaves a movement to it. -/
theorem State.requestMove_moves {i : Item} {x : Target} {o : Owner} (h : s.notAvailable i x = none)
    (hpos : (s.item i).position ≠ some (endPosition x)) : (s.requestMove i x o).1 = .inProgress ∧
      ∃ m, ((s.requestMove i x o).2.item i).movement = some m ∧ m.target = x := by
  have hplace : ∀ (u : State) (m : Movement), m.target = x →
      ∃ m', (((u.setMovement i (some m)).tryPlace i).item i).movement = some m' ∧ m'.target = x := by
    intro u m hm
    have hself : ∀ (v : State) (y : Movement), ((v.setMovement i (some y)).item i).movement = some y := fun v y =>
      congrArg ItemRec.movement (State.item_setMovement_self v i (some y))
    unfold State.tryPlace
    rw [hself]
    dsimp only
    split
    · exact ⟨_, hself _ _, hm⟩
    · exact ⟨m, hself _ _, hm⟩
  unfold State.requestMove
  rw [h]
  dsimp only
  cases hm : (s.item i).movement with
  | none =>
    dsimp only
    unfold State.requestNew
    rw [if_neg hpos]
    exact ⟨rfl, hplace { s with mach := { s.mach with nextSerial := s.mach.nextSerial + 1 } } _ rfl⟩
  | some m =>
    dsimp only
    split
    · rename_i hx
      cases o with
      | batch k st => exact ⟨rfl, m, hm, hx⟩
      | protective =>
        refine ⟨rfl, { m with owner := .protective }, ?_, hx⟩
        have hitem : ∀ (u : State) (a b : Owner), (u.supersede a b).item i = u.item i := fun u a b => by
          unfold State.supersede
          split <;> rfl
        exact (congrArg ItemRec.movement ((hitem _ _ _).trans (State.item_setMovement_self s i _)))
    · unfold State.requestReverse
      split
      · refine ⟨rfl, { m with target := x, owner := o }, ?_, rfl⟩
        have hitem : ∀ (u : State) (a b : Owner), (u.supersede a b).item i = u.item i := fun u a b => by
          unfold State.supersede
          split <;> rfl
        exact (congrArg ItemRec.movement ((hitem _ _ _).trans (State.item_setMovement_self s i _)))
      · dsimp only
        rw [if_neg hpos]
        exact ⟨rfl, hplace _ _ rfl⟩
      · exact ⟨rfl, hplace _ _ rfl⟩

/-- R140: a gate step that takes its claims waits in READYING. -/
theorem State.takeClaims_readying (h : s.active? n = some (b, r)) {g : Station} (hwork : stepWork b.current = .passage g)
    (hmoved : b.moved = false) (hlevel : s.settledEqual g = false) : (s.takeClaims b).batch? n =
      some { b with step := some { r with phase := .readying, claims := stepClaims b.current } } := by
  obtain ⟨hb, hstep, -, rfl⟩ := State.active?_some h
  have htry : ∀ u : State, u.settledEqual g = false → u.tryReady b g = u := fun u hu => by
    unfold State.tryReady
    rw [hu]
    rfl
  have hact : s.takeClaims b =
      (s.modStep b.number fun r => { r with claims := stepClaims b.current }).setPhase b.number .readying := by
    simp only [State.takeClaims, hwork, hmoved, Bool.false_eq_true, if_false]
    exact htry _ hlevel
  rw [hact, State.batch?_setPhase (State.batch?_modStep hb _), hstep]
  rfl

/-- R133: a water step that takes its claims, with no prediction, waits in LEVEL WAIT. -/
theorem State.takeClaims_levelWait (h : s.active? n = some (b, r)) {path : Item} {e : WaterEnd}
    (hwork : stepWork b.current = .water path e)
    (hcond : ∀ c ∈ stepClaims b.current, (s.chamber c).condition ≠ .disputed) (hthere : s.alreadyThere e = false)
    (hband : ∀ c x, conditionOf b.current = some (c, x) → s.inBand c x = true)
    (hroom : s.predict path = .noPrediction) : (s.takeClaims b).batch? n =
      some { b with step := some { r with phase := .levelWait, claims := stepClaims b.current } } := by
  obtain ⟨hb, hstep, -, rfl⟩ := State.active?_some h
  generalize hu : (s.modStep b.number fun r => { r with claims := stepClaims b.current }) = u
  have hsame : (∀ c, u.chamber c = s.chamber c) ∧ u.alreadyThere e = s.alreadyThere e ∧
      (∀ c x, u.inBand c x = s.inBand c x) ∧ u.predict path = s.predict path := by
    subst hu
    exact ⟨fun _ => rfl, by cases e <;> rfl, fun _ _ => rfl, rfl⟩
  obtain ⟨hchamber, hthere', hband', hpredict⟩ := hsame
  have hcheck : ∀ y, u.roomCheck b y path = u.setPhase b.number .levelWait := fun y => by
    unfold State.roomCheck
    rw [hpredict, hroom]
    rfl
  have hdisputed : ((stepClaims b.current).any fun c => (u.chamber c).condition == .disputed) = false := by
    simp only [List.any_eq_false, beq_iff_eq, hchamber]
    exact hcond
  have hact : s.takeClaims b = u.setPhase b.number .levelWait := by
    simp only [State.takeClaims, hu, hwork]
    unfold State.waterTests
    rw [hdisputed, hthere', hthere, if_neg Bool.false_ne_true, if_neg Bool.false_ne_true]
    split
    · rename_i c x hc
      rw [hband', hband c x hc, if_pos rfl, hcheck]
    · exact hcheck _
  rw [hact, State.batch?_setPhase (b := { b with step := b.step.map fun r => { r with claims := stepClaims b.current } })
    (hu ▸ State.batch?_modStep hb _), hstep]
  rfl

theorem State.active?_of {s : State} {n : Nat} {b : Batch} {r : StepRec} (hb : s.batch? n = some b)
    (hstep : b.step = some r) (hs : b.suspended = false) : s.active? n = some (b, r) := by
  simp only [State.active?, hb, hstep, hs, Bool.false_eq_true, if_false]

/-- R140: a gate settled equal, its neighbours CLOSED, is requested OPEN. -/
theorem State.batchRoundEnd_opening (h : s.active? n = some (b, r)) {g : Station}
    (hwork : stepWork b.current = .passage g) (hphase : r.phase = .readying) (hlevel : s.settledEqual g = true)
    (hnear : ∀ j ∈ neighbourGates g, (s.item (.gate j)).position = some .shut)
    (hfree : s.notAvailable (.gate g) .opened = none) (hpos : (s.item (.gate g)).position ≠ some .opened) :
    (s.batchRoundEnd n).batch? n = some { b with step := some { r with phase := .opening } } ∧
      ∃ m, ((s.batchRoundEnd n).item (.gate g)).movement = some m ∧ m.target = .opened := by
  obtain ⟨hb, hstep, -, rfl⟩ := State.active?_some h
  obtain ⟨hanswer, hmove⟩ := State.requestMove_moves (s := s.setPhase b.number .opening) (i := .gate g)
    (x := .opened) (o := .batch b.number b.current) hfree hpos
  have hready : (s.settledEqual g && s.neighboursClosed g) = true := by
    rw [hlevel, Bool.true_and]
    exact List.all_eq_true.2 fun j hj => by simp [State.reported, hnear j hj]
  have hact : s.batchRoundEnd b.number =
      ((s.setPhase b.number .opening).requestMove (.gate g) .opened (.batch b.number b.current)).2 := by
    simp only [State.batchRoundEnd, h, hwork, hphase]
    rw [State.tryReady, hready, if_pos rfl]
    dsimp only
    rw [hanswer]
  rw [hact]
  refine ⟨?_, hmove⟩
  rw [State.batch?_of_batches (congrArg Duty.batches (State.requestMove_duty _ _ _ _ _)), State.batch?_setPhase hb, hstep]
  rfl

/-- R137: a path requested SHUT that does not stand there. -/
theorem State.requestClose_moves (hb : s.batch? n = some b) {path : Item} (hitem : stepItem b.current = path)
    (hfree : s.notAvailable path .shut = none) (hpos : (s.item path).position ≠ some .shut) :
    (s.requestClose n).batch? n = some { b with step := b.step.map fun r => { r with phase := .closing } } ∧
      (s.requestClose n).level = s.level ∧
      ∃ m, ((s.requestClose n).item path).movement = some m ∧ m.target = .shut := by
  obtain ⟨hanswer, hmove⟩ := State.requestMove_moves (s := s.setPhase n .closing) (i := path)
    (x := .shut) (o := .batch n b.current) hfree hpos
  have hact : s.requestClose n = ((s.setPhase n .closing).requestMove path .shut (.batch n b.current)).2 := by
    simp only [State.requestClose, hb, hitem, hanswer]
  rw [hact]
  refine ⟨?_, ?_, hmove⟩
  · rw [State.batch?_of_batches (congrArg Duty.batches (State.requestMove_duty _ _ _ _ _)), State.batch?_setPhase hb]
  · exact congrArg Beside.level (State.requestMove_beside _ _ _ _)

/-- R137: a step whose end condition holds withdraws its target, stops its limit and requests its path SHUT. -/
theorem State.batchRoundEnd_closing (h : s.active? n = some (b, r)) {path : Item} {e : WaterEnd}
    (hwork : stepWork b.current = .water path e) (hphase : r.phase = .flowing) (hend : s.endReached e = true)
    (hfree : s.notAvailable path .shut = none) (hpos : (s.item path).position ≠ some .shut) :
    (s.batchRoundEnd n).batch? n = some { b with step := some { r with phase := .closing, waterLimit := none } } ∧
      (∀ c x, e = .target c x → ((s.batchRoundEnd n).chamber c).target = none) ∧
      ∃ m, ((s.batchRoundEnd n).item path).movement = some m ∧ m.target = .shut := by
  obtain ⟨hb, hstep, -, rfl⟩ := State.active?_some h
  have hitem : stepItem b.current = path := by simp only [stepItem, hwork]
  generalize hu : (s.withdrawTarget b.current .flowing).modStep b.number (fun r => { r with waterLimit := none }) = u
  have hact : s.batchRoundEnd b.number = u.requestClose b.number := by
    simp only [State.batchRoundEnd, h, hwork, hphase, hend, if_true, State.closeWater, hu]
  have hbu : u.batch? b.number = some { b with step := b.step.map fun r => { r with waterLimit := none } } := by
    rw [← hu]
    exact State.batch?_modStep ((State.batch?_of_batches (congrArg Duty.batches (State.withdrawTarget_duty _ _ _)) _).trans hb) _
  have hmach : u.mach = s.mach ∧ u.halt = s.halt := by
    rw [← hu]
    unfold State.withdrawTarget
    split <;> exact ⟨rfl, rfl⟩
  obtain ⟨hmach, hhalt⟩ := hmach
  have hfree' : u.notAvailable path .shut = none := by
    rw [← hfree]
    have hbar : ∀ v : State, v.feedBarred path .shut = false := fun _ => rfl
    have hlatched : ∀ k, u.gateLatched k = s.gateLatched k := fun k => by
      simp only [State.gateLatched, State.unrecordedGate, State.unrecorded, hmach]
    simp only [State.notAvailable, State.item, hlatched, hbar, hmach, hhalt]
  have hpos' : (u.item path).position ≠ some .shut := by rwa [State.item, hmach]
  obtain ⟨hbatch, hlevel, hmove⟩ := State.requestClose_moves hbu hitem hfree' hpos'
  rw [hact]
  refine ⟨?_, fun c x he => ?_, hmove⟩
  · rw [hbatch, hstep]
    rfl
  · have htarget : (u.chamber c).target = none := by
      rw [← hu]
      have hset : s.withdrawTarget b.current .flowing = s.setTarget c none := by
        simp only [State.withdrawTarget, hwork, he]
      rw [hset]
      exact congrArg ChamberRec.target (State.chamber_setChamber_self s c _)
    rw [State.chamber, hlevel]
    exact htarget

/-- R141: a gate COMPLETE at OPEN brings the open phase. -/
theorem State.takeComplete_opened (h : s.active? n = some (b, r)) {g : Station}
    (hwork : stepWork b.current = .passage g) (hphase : r.phase = .opening) :
    (s.takeComplete n (.gate g) .opened).batch? n = some { b with step := some { r with
        phase := .opened, moveWait := some (s.now + s.traffic.moveWait), overdueSent := false, readySent := false } } ∧
      ((s.takeComplete n (.gate g) .opened).face (entryFace b.direction g)).request = some (n, b.current) := by
  obtain ⟨hb, hstep, -, rfl⟩ := State.active?_some h
  have hitem : stepItem b.current = .gate g := by simp only [stepItem, hwork]
  have hact : s.takeComplete b.number (.gate g) .opened = s.enterOpen b g := by
    simp only [State.takeComplete, h, hitem, if_true, hphase, hwork]
  rw [hact, State.enterOpen, State.requestProceed]
  refine ⟨?_, ?_⟩
  · rw [State.batch?_of_batches (congrArg Duty.batches (State.deriveFace_duty _ _))]
    refine (State.batch?_modStep hb _).trans ?_
    rw [hstep]
    rfl
  · obtain ⟨a, q, hface⟩ := State.deriveFace_shape ((s.modStep b.number fun r =>
      { r with phase := .opened, moveWait := some (s.after s.traffic.moveWait), overdueSent := false
               readySent := false }).setFace (entryFace b.direction g) { (s.modStep b.number fun r =>
      { r with phase := .opened, moveWait := some (s.after s.traffic.moveWait), overdueSent := false
               readySent := false }).face (entryFace b.direction g) with request := some (b.number, b.current) })
      (entryFace b.direction g)
    rw [hface]
    refine (congrArg FaceRec.request (State.face_setFace_self _ _ _)).trans ?_
    exact congrArg FaceRec.request (State.face_setFace_self _ _ _)

/-- A batch with no list to go through goes on to its next main step. -/
theorem Batch.advance_of_nil {b : Batch} (h : b.preparation = []) :
    b.advance = { b with position := nextStep b.position, moved := false, step := some StepRec.start } := by
  rw [Batch.advance, h]

theorem State.batch?_notify (s : State) (k : NoticeKind) (o : Nat) (p : List Field) (n : Nat) :
    (s.notify k o p).batch? n = s.batch? n := State.batch?_of_batches (congrArg Duty.batches (State.notify_duty _ _ _ _)) n

theorem Batch.advance_number (b : Batch) : b.advance.number = b.number := by
  unfold Batch.advance
  split <;> rfl

theorem State.batch?_advance (hb : s.batch? n = some b) : (s.modBatch n Batch.advance).batch? n = some b.advance := by
  rw [State.batch?_modBatch s n n Batch.advance_number, if_pos rfl, hb]
  rfl

/-- R137: a path COMPLETE at SHUT ends the water step. -/
theorem State.takeComplete_shut (h : s.active? n = some (b, r)) {path : Item} {e : WaterEnd}
    (hwork : stepWork b.current = .water path e) (hphase : r.phase = .closing) (hlist : b.preparation = []) :
    (s.takeComplete n path .shut).batch? n = some { b with
      position := nextStep b.position, moved := false
      meter := if path = .sluice .k0 then b.meter.close s.meterLevel else b.meter
      step := some StepRec.start } := by
  obtain ⟨hb, hstep, -, rfl⟩ := State.active?_some h
  have hitem : stepItem b.current = path := by simp only [stepItem, hwork]
  have hact : s.takeComplete b.number path .shut = s.endWaterStep b true := by
    simp only [State.takeComplete, h, hitem, if_true, hphase, State.endStep, hwork]
  rw [hact, State.endWaterStep, hitem]
  by_cases hp : path = .sluice .k0
  · have hclose : (s.closeSegment b.number).batch? b.number = some { b with meter := b.meter.close s.meterLevel } := by
      rw [State.closeSegment, State.batch?_modBatch s _ _ (f := fun b => { b with meter := b.meter.close s.meterLevel })
        (fun _ => rfl), if_pos rfl, hb]
      rfl
    rw [if_pos hp, if_pos hp]
    exact (State.batch?_advance ((State.batch?_notify _ _ _ _ _).trans hclose)).trans
      (congrArg some (Batch.advance_of_nil hlist))
  · rw [if_neg hp, if_neg hp]
    refine (State.batch?_advance ((State.batch?_notify _ _ _ _ _).trans hb)).trans ?_
    rw [Batch.advance_of_nil hlist]

/-- R143: a gate COMPLETE at CLOSED ends the gate step. -/
theorem State.takeComplete_closed (h : s.active? n = some (b, r)) {g : Station}
    (hwork : stepWork b.current = .passage g) (hphase : r.phase = .closing) (hlist : b.preparation = []) :
    (b.position ≠ .eight → (s.takeComplete n (.gate g) .shut).batch? n = some { b with
      position := nextStep b.position, moved := false, step := some StepRec.start }) ∧
    (b.position = .eight → (s.takeComplete n (.gate g) .shut).batch? n = none) := by
  obtain ⟨hb, hstep, -, rfl⟩ := State.active?_some h
  have hitem : stepItem b.current = .gate g := by simp only [stepItem, hwork]
  have hact : s.takeComplete b.number (.gate g) .shut = s.endGateStep b := by
    simp only [State.takeComplete, h, hitem, if_true, hphase, State.endStep, hwork]
  rw [hact, State.endGateStep]
  refine ⟨fun hp => ?_, fun hp => ?_⟩
  · rw [if_neg hp]
    refine (State.batch?_advance ((State.batch?_notify _ _ _ _ _).trans hb)).trans ?_
    rw [Batch.advance_of_nil hlist]
  · rw [if_pos hp]
    refine (State.batch?_notify _ _ _ _ _).trans ?_
    obtain ⟨ns, hns⟩ := (((s.noticeStepDone b false).assess b).removeBatch b.number).evaluateReceipts_spec
    rw [hns]
    refine List.find?_eq_none.2 fun x hx => ?_
    have hmem := (List.mem_filter.1 (show x ∈ ((s.noticeStepDone b false).assess b).traffic.batches.filter
      (fun b' => b'.number != b.number) from hx)).2
    simpa using hmem

end

/-- Settles O51, from the two expiries and one lemma for each way a step goes on. -/
theorem stepLimitsExpire : Obligations.StepLimitsExpire := by
  unfold Obligations.StepLimitsExpire
  refine ⟨fun n e b r s hp hcalm ha hl hnone hroom => waterStepLimit_expires hp hcalm ha hl hnone hroom,
    fun n e b r s hp ha hw hsent hmask => moveWait_expires hp ha hw hsent hmask, fun n s hidle => ?_, fun n s hidle => ?_,
    fun n b r s ha => ⟨fun g hwork hmoved hlevel => State.takeClaims_readying ha hwork hmoved hlevel,
      fun path e hwork hcond hthere hband hroom => State.takeClaims_levelWait ha hwork hcond hthere hband hroom,
      fun g hwork hphase hlevel hnear hfree hpos => State.batchRoundEnd_opening ha hwork hphase hlevel hnear hfree hpos,
      fun path e hwork hphase hend hfree hpos => State.batchRoundEnd_closing ha hwork hphase hend hfree hpos,
      fun g hwork hphase => State.takeComplete_opened ha hwork hphase,
      fun path e hwork hphase hlist => State.takeComplete_shut ha hwork hphase hlist,
      fun g hwork hphase hlist => State.takeComplete_closed ha hwork hphase hlist⟩⟩
  · refine exec_event_idle (c := .waterStepLimitExpiry n) rfl (if_neg ?_)
    unfold State.waterLimitRuns
    split
    · rename_i b r ha
      rw [hidle b r ha]
      exact Bool.false_ne_true
    · exact Bool.false_ne_true
  · refine exec_event_idle (c := .moveWaitExpiry n) rfl ?_
    unfold State.endMoveWait
    split
    · rfl
    · rename_i b r ha
      rw [hidle b r ha]

end Sys2Proof.Machine
end

section
/-! LINE EVENTS: poll slots, the halt pulse, dominant stretches, and the check of a station's frame (O35). -/

namespace Sys2Proof.Machine

/-! ### The check of a frame (R67) -/

theorem octetSum_eq_sum (os : List Octet) : octetSum os = os.sum := List.sum_eq_foldl.symm

theorem octetSum_lineFrame (a : Octet) (contents : List Octet) : octetSum (lineFrame a contents) = 0#8 := by
  have hcheck : lineFrame a contents = (a :: contents) ++ [lineCheck (a :: contents)] := rfl
  rw [hcheck, octetSum_eq_sum, List.sum_append, List.sum_singleton, lineCheck, octetSum_eq_sum]
  exact add_neg_cancel _

theorem linePasses_lineFrame (a : Octet) (contents : List Octet) : linePasses (lineFrame a contents) = true := by
  have hlength : 2 ≤ (lineFrame a contents).length := by simp [lineFrame]
  simp only [linePasses, octetSum_lineFrame, hlength, decide_true, BEq.rfl, Bool.and_self]

theorem lineSender_lineFrame (a : Octet) (contents : List Octet) : lineSender (lineFrame a contents) = stationAt a := by
  have hpass := linePasses_lineFrame a contents
  rw [show lineFrame a contents = a :: (contents ++ [lineCheck (a :: contents)]) from rfl] at hpass ⊢
  exact if_pos hpass

theorem stationAt_lineAddress (k : Station) : stationAt (lineAddress k) = some k := by cases k <;> rfl

theorem stationAt_none {a : Octet} (h : a.toNat < 1 ∨ 4 < a.toNat) : stationAt a = none := by
  unfold stationAt
  split <;> first | omega | rfl

theorem lineSender_none {os : List Octet} (h : linePasses os = false) : lineSender os = none := by
  cases os with
  | nil => rfl
  | cons a rest => exact if_neg (by rw [h]; exact Bool.false_ne_true)

/-- One octet changed takes the sum away from 0. -/
theorem linePasses_changed {before after : List Octet} {x y : Octet} (hne : x ≠ y)
    (h : linePasses (before ++ x :: after) = true) : linePasses (before ++ y :: after) = false := by
  rw [Bool.eq_false_iff]
  intro hy
  have hsum : ∀ z : Octet, linePasses (before ++ z :: after) = true → before.sum + (z + after.sum) = 0#8 := by
    intro z hz
    rw [linePasses, Bool.and_eq_true, beq_iff_eq, octetSum_eq_sum, List.sum_append, List.sum_cons] at hz
    exact hz.2
  have hxy := (hsum x h).trans (hsum y hy).symm
  exact hne (add_right_cancel (add_left_cancel hxy))

/-! ### Poll slots (R69, R70) -/

theorem State.slotDue_iff (s : State) (k : Station) : s.slotDue k = true ↔
    s.line.pulse = false ∧ s.line.poll = none ∧ slotAfter s.line.slot = some k := by
  simp only [State.slotDue, Bool.and_eq_true, Bool.not_eq_true', Option.isNone_iff_eq_none, beq_iff_eq, and_assoc]

theorem exec_line_event {c : Instr} {act : State → State} (hc : eventAct c = some act) {s : State} (hp : s.powered = true)
    {l : Line} (h : act s = { s with line := l }) : exec c s = .next { s with line := l } := by
  rw [exec_event hc, State.event_plain _ _ hp (by rw [h]; rfl), h]

theorem exec_pollSlot {s : State} {k : Station} (hp : s.powered = true) (hpulse : s.line.pulse = false)
    (hpoll : s.line.poll = none) (hslot : slotAfter s.line.slot = some k) {l : Line}
    (h : s.beginPoll k = { s with line := l }) : exec (.pollSlotStart k) s = .next { s with line := l } :=
  exec_line_event (c := .pollSlotStart k) rfl hp
    ((if_pos ((s.slotDue_iff k).2 ⟨hpulse, hpoll, hslot⟩)).trans h)

/-! ### Frames that arrive (R67, R72, R74) -/

theorem State.frameArrives_discarded {s : State} {octets : List Octet} (h : s.discards octets = true) :
    s.frameArrives octets = s := by
  unfold State.discards at h
  unfold State.frameArrives
  cases hs : lineSender octets with
  | none => rfl
  | some k =>
    rw [hs] at h
    simp only [Bool.and_eq_true, Bool.not_eq_true'] at h
    obtain ⟨hanswer, halarm⟩ := h
    simp only [hanswer, halarm, Bool.false_eq_true, if_false]

theorem State.answerDue_poll {s : State} {k : Station} (h : s.answerDue k = true) : (s.pollOf k).isSome = true := by
  unfold State.answerDue at h
  cases hp : s.pollOf k with
  | none => simp [hp] at h
  | some p => rfl

theorem State.answerDue_openSlot {s : State} (h : s.alarmHeard = true) (k : Station) : s.answerDue k = false := by
  have hpoll : s.pollOf k = none := by
    simp only [State.alarmHeard, State.inOpenSlot, Bool.and_eq_true, Option.isNone_iff_eq_none] at h
    obtain ⟨⟨⟨⟨-, hnone⟩, -⟩, -⟩, -⟩ := h
    rw [State.pollOf, hnone]
  simp [State.answerDue, hpoll]

/-- Settles O35: each line event in its place and out of it, and the sum of a frame's octets. -/
theorem lineEventsMoveTheRound : Obligations.LineEventsMoveTheRound := by
  unfold Obligations.LineEventsMoveTheRound
  refine ⟨fun k s hp hpulse hpoll hslot hfree => ?_, fun k s hp hpulse hpoll hslot hheld => ?_, fun k s hout => ?_,
    fun s hp hpulse => ?_, fun s hpulse => ?_, fun s hnone => ?_, fun s hheld => ?_, fun s => rfl,
    fun octets s hd => ?_, fun octets k s hs ha => ?_, fun octets k s hs hp halarm => ?_,
    fun k contents => (lineSender_lineFrame _ _).trans (stationAt_lineAddress k),
    fun a contents => ⟨linePasses_lineFrame a contents, fun h => (lineSender_lineFrame a contents).trans (stationAt_none h)⟩,
    fun before after x y hne h => lineSender_none (linePasses_changed hne h)⟩
  · refine exec_pollSlot hp hpulse hpoll hslot ?_
    unfold State.beginPoll
    dsimp only
    rw [if_neg (show ¬(s.setSlot (some k)).line.stretch.isSome = true by
      rw [show (s.setSlot (some k)).line.stretch = none from hfree]
      exact Bool.false_ne_true)]
    rfl
  · refine exec_pollSlot hp hpulse hpoll hslot ?_
    unfold State.beginPoll
    dsimp only
    rw [if_pos (show (s.setSlot (some k)).line.stretch.isSome = true from hheld)]
    rfl
  · refine exec_event_idle (c := .pollSlotStart k) rfl (if_neg fun hdue => ?_)
    obtain ⟨hpulse, hpoll, hslot⟩ := (s.slotDue_iff k).1 hdue
    rcases hout with h | h | h
    · rw [hpulse] at h
      exact nomatch h
    · rw [hpoll] at h
      exact nomatch h
    · exact h hslot
  · exact exec_line_event (c := .haltPulseEnd) rfl hp (if_pos hpulse)
  · exact exec_event_idle (c := .haltPulseEnd) rfl (if_neg (by rw [hpulse]; exact Bool.false_ne_true))
  · exact congrArg Host.Outcome.next (if_pos (by rw [hnone]; rfl))
  · refine congrArg Host.Outcome.next (if_neg ?_)
    cases hs : s.line.stretch with
    | none => rw [hs] at hheld; exact nomatch hheld
    | some _ => exact Bool.false_ne_true
  · exact exec_event_idle (c := .stationFrameDiscarded octets) rfl (State.frameArrives_discarded hd)
  · have hact : s.frameArrives octets = if (s.pollOf k).isSome then (s.failPoll k).finish else s := by
      rw [State.frameArrives, hs, if_pos (State.answerDue_poll ha)]
      exact if_pos ha
    rw [exec_event (c := .stationFrameDiscarded octets) rfl, exec_event (c := .pollFailed k) rfl, State.event, State.event,
      hact]
  · refine exec_line_event (c := .stationFrameDiscarded octets) rfl hp ?_
    rw [State.frameArrives, hs]
    dsimp only
    rw [State.answerDue_openSlot halarm, if_neg Bool.false_ne_true, if_pos halarm]
    rfl

end Sys2Proof.Machine
end

section
/-! THE INTERLOCKS OF AN OPEN COMMAND: what a request, the test of a waiting movement and the test of all of them place,
and what the others they place leave of the interlock (O60). -/

namespace Sys2Proof.Machine

/-! ### The interlock -/

/-- What the interlock of an item looks at. -/
structure Interlocking where
  level : Levels
  now : Nat
  changeover : Trio (Option Nat)
  limits : MovementLimits
  items : Item → Option Position × CmdState

def State.interlocking (s : State) : Interlocking :=
  { level := s.level, now := s.now, changeover := s.mach.changeover, limits := s.mach.limits
    items := fun i => ((s.item i).position, (s.item i).command) }

/-- The look of the interlock of `i` in `t`, where no item but `i` is commanded OPEN that was not in `s`. -/
structure State.OpensOnly (i : Item) (s t : State) : Prop where
  level : t.level = s.level
  now : t.now = s.now
  changeover : t.mach.changeover = s.mach.changeover
  limits : t.mach.limits = s.mach.limits
  position : ∀ j, (t.item j).position = (s.item j).position
  command : ∀ j, j ≠ i → (t.item j).command = .opens → (s.item j).command = .opens

section

variable {i j : Item} {s t u : State}

theorem State.OpensOnly.of_interlocking (h : t.interlocking = s.interlocking) : State.OpensOnly i s t := by
  have hitem : ∀ j, ((t.item j).position, (t.item j).command) = ((s.item j).position, (s.item j).command) :=
    congrFun (congrArg Interlocking.items h)
  refine ⟨congrArg Interlocking.level h, congrArg Interlocking.now h, congrArg Interlocking.changeover h,
    congrArg Interlocking.limits h, fun j => congrArg (·.1) (hitem j), fun j _ hc => ?_⟩
  rw [← hc]
  exact (congrArg (·.2) (hitem j)).symm

theorem State.OpensOnly.trans (h : State.OpensOnly i s t) (k : State.OpensOnly i t u) : State.OpensOnly i s u :=
  ⟨k.level.trans h.level, k.now.trans h.now, k.changeover.trans h.changeover, k.limits.trans h.limits,
    fun j => (k.position j).trans (h.position j), fun j hj hc => h.command j hj (k.command j hj hc)⟩

theorem not_mem_neighbourGates (k : Station) : k ∉ neighbourGates k := by cases k <;> decide

/-- The interlock stands while nothing else is commanded OPEN. -/
theorem State.OpensOnly.interlockHolds (h : State.OpensOnly i s t) (hs : s.interlockHolds i) : t.interlockHolds i := by
  obtain ⟨hgate, hpath, hfeed⟩ := hs
  refine ⟨fun k hk => ?_, fun c hc => ?_, fun c hc => ?_⟩
  · obtain ⟨hequal, hnear⟩ := hgate k hk
    rw [h.level]
    refine ⟨hequal, fun g hg => ?_⟩
    obtain ⟨hpos, hcmd⟩ := hnear g hg
    have hne : Item.gate g ≠ i := fun heq => not_mem_neighbourGates k (by
      rw [hk] at heq
      exact Item.gate.inj heq ▸ hg)
    exact ⟨(h.position _).trans hpos, fun ho => hcmd (h.command _ hne ho)⟩
  · obtain ⟨hothers, htimer⟩ := hpath c hc
    rw [h.changeover, h.limits, h.now]
    refine ⟨fun p hp hne => ?_, htimer⟩
    obtain ⟨hpos, hcmd⟩ := hothers p hp hne
    exact ⟨(h.position _).trans hpos, fun ho => hcmd (h.command _ hne ho)⟩
  · rw [State.chamber, h.level]
    exact hfeed c hc

theorem State.changeoverElapsed_iff (s : State) (c : Chamber) : s.changeoverElapsed c = true ↔
    s.mach.changeover.get c = none ∨
      ∃ t0, s.mach.changeover.get c = some t0 ∧ t0 + s.mach.limits.changeover ≤ s.now := by
  unfold State.changeoverElapsed
  cases s.mach.changeover.get c <;> simp

/-- The conditions for placing an OPEN are its interlock. -/
theorem State.mayPlace_opened_iff (s : State) (i : Item) : s.mayPlace i .opened = true ↔ s.interlockHolds i := by
  have hpath : ∀ i : Item, s.pathMayOpen i = true ↔ ∀ c ∈ pathChambers i,
      (∀ p ∈ chamberPaths c, p ≠ i → (s.item p).position = some .shut ∧ (s.item p).command ≠ .opens) ∧
      (s.mach.changeover.get c = none ∨
        ∃ t0, s.mach.changeover.get c = some t0 ∧ t0 + s.mach.limits.changeover ≤ s.now) := by
    intro i
    simp only [State.pathMayOpen, State.chamberClear, List.all_eq_true, Bool.and_eq_true, Bool.or_eq_true, beq_iff_eq,
      State.reported, decide_eq_true_eq, bne_iff_ne, State.changeoverElapsed_iff, or_iff_not_imp_left]
  have hfeed : ∀ i : Item, (!s.feedBarred i .opened) = true ↔ ∀ c, fedChamber i = some c → (s.chamber c).high = false := by
    intro i
    unfold State.feedBarred
    cases fedChamber i <;> simp
  have hgate : ∀ k, s.gateMayOpen k = true ↔ s.level.acting.settleCount ≤ s.level.equal.get k ∧
      ∀ g ∈ neighbourGates k, (s.item (.gate g)).position = some .shut ∧ (s.item (.gate g)).command ≠ .opens := by
    intro k
    simp only [State.gateMayOpen, State.settledEqual, State.neighboursClosed, Bool.and_eq_true, List.all_eq_true,
      State.reported, decide_eq_true_eq, bne_iff_ne, and_assoc, ← forall_and]
  have hrest : (s.pathMayOpen i && !s.feedBarred i .opened) = true → (∀ k, i ≠ .gate k) → s.interlockHolds i := by
    intro h hno
    rw [Bool.and_eq_true, hpath, hfeed] at h
    exact ⟨fun k hk => absurd hk (hno k), h⟩
  cases i with
  | gate k =>
    refine (hgate k).trans ⟨fun h => ⟨fun l hl => Item.gate.inj hl ▸ h, fun c hc => absurd hc List.not_mem_nil,
      fun c hc => nomatch (show none = some c from hc)⟩, ?_⟩
    rintro ⟨h, -⟩
    exact h k rfl
  | sluice k =>
    refine ⟨fun h => hrest h fun _ => nofun, ?_⟩
    rintro ⟨-, h⟩
    rwa [← hpath, ← hfeed, ← Bool.and_eq_true] at h
  | byWash w =>
    refine ⟨fun h => hrest h fun _ => nofun, ?_⟩
    rintro ⟨-, h⟩
    rwa [← hpath, ← hfeed, ← Bool.and_eq_true] at h

/-! ### What each placing leaves of it -/

theorem State.setMovement_interlocking (s : State) (j : Item) (m : Option Movement) :
    (s.setMovement j m).interlocking = s.interlocking := by
  have hitems : ∀ k, ((s.setMovement j m).item k).position = (s.item k).position ∧
      ((s.setMovement j m).item k).command = (s.item k).command := by
    intro k
    rw [State.item_setMovement]
    split
    · rename_i h
      subst h
      exact ⟨rfl, rfl⟩
    · exact ⟨rfl, rfl⟩
  simp only [State.interlocking, hitems]
  rfl

theorem State.setCommand_opensOnly (s : State) (j : Item) {c : CmdState} (h : j = i ∨ c ≠ .opens) :
    State.OpensOnly i s (s.setCommand j c) := by
  unfold State.setCommand
  split
  · exact .of_interlocking rfl
  · refine ⟨rfl, rfl, rfl, rfl, fun k => ?_, fun k hk hc => ?_⟩
    · refine (congrArg ItemRec.position (State.item_setItem s j k _)).trans ?_
      split
      · rename_i hkj
        rw [hkj]
      · rfl
    · have hset := (congrArg ItemRec.command (State.item_setItem s j k { s.item j with command := c })).symm.trans hc
      split at hset
      · rename_i hkj
        exact (h.elim (fun hji => hk (hkj.trans hji)) fun hne => hne hset).elim
      · exact hset

theorem State.orderStop_opensOnly (s : State) (j : Item) : State.OpensOnly i s (s.orderStop j) := by
  have hset : State.OpensOnly i s (s.setQueue (itemStation j) (placeStop j (s.station (itemStation j)).queue)) :=
    .of_interlocking rfl
  exact hset.trans (State.setCommand_opensOnly _ j (.inr (by decide)))

/-- The order that a command to a target is. -/
def moveOrder : Target → ItemOrder
  | .opened => .opens
  | .shut => .closes

theorem State.orderMove_eq (s : State) (j : Item) (x : Target) : s.orderMove j x = (s.setQueue (itemStation j)
    (placeEntry (.item j (moveOrder x)) (s.station (itemStation j)).queue)).setCommand j (orderState (moveOrder x)) := by
  cases x <;> rfl

theorem State.orderMove_opensOnly (s : State) (j : Item) {x : Target} (h : j = i ∨ x = .shut) :
    State.OpensOnly i s (s.orderMove j x) := by
  have hset : State.OpensOnly i s (s.setQueue (itemStation j)
    (placeEntry (.item j (moveOrder x)) (s.station (itemStation j)).queue)) := .of_interlocking rfl
  rw [State.orderMove_eq]
  refine hset.trans (State.setCommand_opensOnly _ j (h.imp_right fun hx => ?_))
  rw [hx]
  decide

theorem State.setMovement_opensOnly (s : State) (j : Item) (m : Option Movement) :
    State.OpensOnly i s (s.setMovement j m) := .of_interlocking (s.setMovement_interlocking j m)

theorem mem_neighbourGates_symm (k : Station) : ∀ g ∈ neighbourGates k, k ∈ neighbourGates g := by cases k <;> decide

theorem mem_chamberPaths (c : Chamber) : ∀ p ∈ chamberPaths c, c ∈ pathChambers p := by cases c <;> decide

theorem mem_pathChambers (p : Item) : ∀ c ∈ pathChambers p, p ∈ chamberPaths c := by
  cases p with
  | gate k => exact fun c hc => absurd hc List.not_mem_nil
  | sluice k => cases k <;> decide
  | byWash w => cases w <;> decide

/-- Where `i` is commanded OPEN, no other item whose interlock holds is one that the interlock of `i` looks at. -/
theorem State.interlockHolds.beside (h : s.interlockHolds i) (hj : s.interlockHolds j) (hi : (s.item i).command = .opens)
    (hne : j ≠ i) (ht : State.OpensOnly j s t) : t.interlockHolds i := by
  obtain ⟨hgate, hpath, hfeed⟩ := h
  obtain ⟨jgate, jpath, -⟩ := hj
  refine ⟨fun k hk => ?_, fun c hc => ?_, fun c hc => ?_⟩
  · obtain ⟨hequal, hnear⟩ := hgate k hk
    rw [ht.level]
    refine ⟨hequal, fun g hg => ?_⟩
    obtain ⟨hpos, hcmd⟩ := hnear g hg
    have hgj : Item.gate g ≠ j := by
      rintro rfl
      obtain ⟨-, hother⟩ := jgate g rfl
      obtain ⟨-, hclosed⟩ := hother k (mem_neighbourGates_symm k g hg)
      exact hclosed (hk ▸ hi)
    exact ⟨(ht.position _).trans hpos, fun ho => hcmd (ht.command _ hgj ho)⟩
  · obtain ⟨hothers, htimer⟩ := hpath c hc
    rw [ht.changeover, ht.limits, ht.now]
    refine ⟨fun p hp hpi => ?_, htimer⟩
    obtain ⟨hpos, hcmd⟩ := hothers p hp hpi
    have hpj : p ≠ j := by
      rintro rfl
      obtain ⟨hother, -⟩ := jpath c (mem_chamberPaths c p hp)
      obtain ⟨-, hclosed⟩ := hother i (mem_pathChambers i c hc) (Ne.symm hpi)
      exact hclosed hi
    exact ⟨(ht.position _).trans hpos, fun ho => hcmd (ht.command _ hpj ho)⟩
  · rw [State.chamber, ht.level]
    exact hfeed c hc

/-! ### The OPEN entries -/

theorem State.holdsOrder_of_queue {o : ItemOrder} (h : (t.station (itemStation i)).queue = (s.station (itemStation i)).queue) :
    t.holdsOrder i o ↔ s.holdsOrder i o := by
  rw [State.holdsOrder, State.holdsOrder, h]

theorem State.holdsOrder_setMovement {m : Option Movement} {o : ItemOrder} :
    (s.setMovement j m).holdsOrder i o ↔ s.holdsOrder i o := Iff.rfl

theorem State.setCommand_queue (s : State) (j : Item) (c : CmdState) (k : Station) :
    ((s.setCommand j c).station k).queue = (s.station k).queue := by
  unfold State.setCommand
  split <;> rfl

/-- A queue set anew holds an order of the item only from what it is set to. -/
theorem State.holdsOrder_setQueue {o : ItemOrder} {k : Station} {q : List QueueEntry}
    (h : (s.setQueue k q).holdsOrder i o) :
    k ≠ itemStation i ∧ s.holdsOrder i o ∨ k = itemStation i ∧ ∃ e ∈ q, e.command = .item i o := by
  obtain ⟨e, he, hc⟩ := h
  rw [State.station_setQueue] at he
  split at he
  · rename_i hk
    exact .inr ⟨hk.symm, e, he, hc⟩
  · rename_i hk
    exact .inl ⟨Ne.symm hk, e, he, hc⟩

theorem slotCode_item (i : Item) (a b : ItemOrder) : slotCode (.item i a) = slotCode (.item i b) := by
  cases i <;> rfl

theorem mem_removeSlot_open {q : List QueueEntry} {e : QueueEntry} (he : e ∈ removeSlot (.item j .stops) q)
    (hc : e.command = .item i .opens) : e ∈ q ∧ j ≠ i := by
  obtain ⟨hmem, hslot⟩ := mem_removeSlot.1 he
  refine ⟨hmem, fun heq => hslot ?_⟩
  rw [hc, heq, slotCode_item]

theorem State.withdraw_holdsOpen (h : (s.withdraw j).holdsOrder i .opens) : s.holdsOrder i .opens ∧ j ≠ i := by
  rcases State.holdsOrder_setQueue h with ⟨hk, h⟩ | ⟨hk, e, he, hc⟩
  · exact ⟨h, fun heq => hk (congrArg itemStation heq)⟩
  · obtain ⟨hmem, hne⟩ := mem_removeSlot_open he hc
    exact ⟨⟨e, hk ▸ hmem, hc⟩, hne⟩

theorem State.orderStop_holdsOpen (h : (s.orderStop j).holdsOrder i .opens) : s.holdsOrder i .opens ∧ j ≠ i := by
  rw [State.orderStop, State.holdsOrder_of_queue (State.setCommand_queue _ _ _ _)] at h
  rcases State.holdsOrder_setQueue h with ⟨hk, h⟩ | ⟨hk, e, he, hc⟩
  · exact ⟨h, fun heq => hk (congrArg itemStation heq)⟩
  · obtain ⟨x, heq, hx, -⟩ := placeStop_eq j (s.station (itemStation j)).queue
    rw [heq] at he
    rcases List.mem_cons.1 he with rfl | he
    · rw [hc] at hx
      exact nomatch (Command.item.inj hx).2
    · obtain ⟨hmem, hne⟩ := mem_removeSlot_open he hc
      exact ⟨⟨e, hk ▸ hmem, hc⟩, hne⟩

theorem State.orderMove_holdsOpen {x : Target} (h : (s.orderMove j x).holdsOrder i .opens) :
    s.holdsOrder i .opens ∨ j = i ∧ x = .opened := by
  rw [State.orderMove_eq, State.holdsOrder_of_queue (State.setCommand_queue _ _ _ _)] at h
  rcases State.holdsOrder_setQueue h with ⟨-, h⟩ | ⟨hk, e, he, hc⟩
  · exact .inl h
  · rcases mem_placeEntry he with hnew | hold
    · rw [hc] at hnew
      obtain ⟨rfl, horder⟩ := Command.item.inj hnew
      cases x with
      | opened => exact .inr ⟨rfl, rfl⟩
      | shut => exact nomatch horder
    · exact .inl ⟨e, hk ▸ hold, hc⟩

/-! ### Tests and requests -/

/-- An OPEN of the item stands under its interlock, commanded, with a movement whose command is queued. -/
def State.opensSafely (s : State) (i : Item) : Prop :=
  s.holdsOrder i .opens →
    (s.item i).command = .opens ∧ s.interlockHolds i ∧ ∃ m, (s.item i).movement = some m ∧ m.queued = true

theorem State.tryPlace_cases (s : State) (j : Item) : s.tryPlace j = s ∨
    ∃ m, (s.item j).movement = some m ∧ m.queued = false ∧ s.mayPlace j m.target = true ∧ s.tryPlace j =
      (s.orderMove j m.target).setMovement j (some { m with queued := true, unanswered := false, placed := true }) := by
  unfold State.tryPlace
  split
  · rename_i m hm
    split
    · rename_i h
      obtain ⟨-, hq, hp⟩ := h
      exact .inr ⟨m, hm, hq, hp, rfl⟩
    · exact .inl rfl
  · exact .inl rfl

theorem State.orderMove_command (s : State) (j : Item) (x : Target) :
    ((s.orderMove j x).item j).command = orderState (moveOrder x) := by
  rw [State.orderMove_eq]
  exact (State.setCommand_command _ j _).1

/-- The test of an item leaves an OPEN of `i` that was not there only for `i`, under its interlock. -/
theorem State.tryPlace_interlock (hno : ¬s.holdsOrder i .opens) (h : (s.tryPlace j).holdsOrder i .opens) :
    s.interlockHolds i := by
  rcases s.tryPlace_cases j with heq | ⟨m, -, -, hmay, heq⟩
  · rw [heq] at h
    exact absurd h hno
  · rw [heq, State.holdsOrder_setMovement] at h
    rcases State.orderMove_holdsOpen h with h | ⟨rfl, hx⟩
    · exact absurd h hno
    · rw [hx] at hmay
      exact (s.mayPlace_opened_iff j).1 hmay

theorem State.opensSafely.tryPlace (h : s.opensSafely i) (j : Item) : (s.tryPlace j).opensSafely i := by
  rcases s.tryPlace_cases j with heq | ⟨m, hm, hq, hmay, heq⟩
  · rwa [heq]
  · rw [heq]
    intro hopen
    rw [State.holdsOrder_setMovement] at hopen
    have hlook : ∀ {i'}, j = i' ∨ m.target = .shut → State.OpensOnly i' s ((s.orderMove j m.target).setMovement j
        (some { m with queued := true, unanswered := false, placed := true })) := fun hx =>
      (s.orderMove_opensOnly j hx).trans (State.setMovement_opensOnly _ j _)
    by_cases hj : j = i
    · subst hj
      have hnone : ¬s.holdsOrder j .opens := fun hs => by
        obtain ⟨-, -, m', hm', hq'⟩ := h hs
        rw [hm] at hm'
        rw [← Option.some.inj hm', hq] at hq'
        exact nomatch hq'
      rcases State.orderMove_holdsOpen hopen with hs | ⟨-, hx⟩
      · exact absurd hs hnone
      · have hself := State.item_setMovement_self (s.orderMove j m.target) j
          (some { m with queued := true, unanswered := false, placed := true })
        refine ⟨?_, (hlook (.inl rfl)).interlockHolds ?_, _, congrArg ItemRec.movement hself, rfl⟩
        · rw [hself]
          dsimp only
          rw [State.orderMove_command, hx]
          rfl
        · rw [hx] at hmay
          exact (s.mayPlace_opened_iff j).1 hmay
    · rcases State.orderMove_holdsOpen hopen with hs | ⟨hji, -⟩
      · obtain ⟨hcmd, hlock, m', hm', hq'⟩ := h hs
        have hitem : ((s.orderMove j m.target).setMovement j
            (some { m with queued := true, unanswered := false, placed := true })).item i = s.item i :=
          ((s.orderMove_keepsStop hj m.target).trans (State.setMovement_keepsStop _ hj _)).item
        rw [hitem]
        refine ⟨hcmd, ?_, m', hm', hq'⟩
        cases hx : m.target with
        | shut => exact hx ▸ (hlook (.inr hx)).interlockHolds hlock
        | opened =>
          have hlock' : s.interlockHolds j := (s.mayPlace_opened_iff j).1 (hx ▸ hmay)
          exact hx ▸ hlock.beside hlock' hcmd hj (hlook (.inl rfl))
      · exact absurd hji hj

theorem State.opensSafely.tryWithdraw (h : s.opensSafely i) (j : Item) : (s.tryWithdraw j).opensSafely i := by
  have hkept : ∀ t : State, (t.holdsOrder i .opens → s.holdsOrder i .opens ∧ j ≠ i) →
      (j ≠ i → State.KeepsStop i s t) → State.OpensOnly i s t → t.opensSafely i := by
    intro t hopen hitem hlook ht
    obtain ⟨hs, hj⟩ := hopen ht
    obtain ⟨hcmd, hlock, hmove⟩ := h hs
    rw [(hitem hj).item]
    exact ⟨hcmd, hlook.interlockHolds hlock, hmove⟩
  unfold State.tryWithdraw
  split
  · split
    · dsimp only
      split
      · refine hkept _ (fun ht => State.orderStop_holdsOpen ?_)
          (fun hj => (s.orderStop_keepsStop hj).trans (State.setMovement_keepsStop _ hj _))
          ((s.orderStop_opensOnly j).trans (State.setMovement_opensOnly _ j _))
        rwa [State.holdsOrder_setMovement] at ht
      · refine hkept _ (fun ht => State.withdraw_holdsOpen ?_)
          (fun hj => ((s.withdraw_keepsStop hj).trans (State.setCommand_keepsStop _ hj _)).trans
            (State.setMovement_keepsStop _ hj _)) ?_
        · rwa [State.holdsOrder_setMovement, State.holdsOrder_of_queue (State.setCommand_queue _ _ _ _)] at ht
        · have hset : State.OpensOnly i s (s.withdraw j) := .of_interlocking rfl
          exact (hset.trans (State.setCommand_opensOnly _ j (.inr (by decide)))).trans (State.setMovement_opensOnly _ j _)
    · exact h
  · exact h

theorem State.opensSafely.retest (h : s.opensSafely i) : s.retest.opensSafely i :=
  foldl_keeps (I := fun t => t.opensSafely i) (f := fun t j => (t.tryWithdraw j).tryPlace j)
    (fun _ j ht => (ht.tryWithdraw j).tryPlace j) s.waitingItems s h

/-- A state that looks the same to the interlock and holds no OPEN that was not there. -/
def State.sameOpens (i : Item) (s u : State) : Prop :=
  u.interlocking = s.interlocking ∧ (u.holdsOrder i .opens → s.holdsOrder i .opens)

theorem State.sameOpens.setMovement (h : State.sameOpens i s u) (j : Item) (m : Option Movement) :
    State.sameOpens i s (u.setMovement j m) :=
  ⟨(u.setMovement_interlocking j m).trans h.1, h.2⟩

theorem State.sameOpens.numbered (h : State.sameOpens i s u) (n : Nat) :
    State.sameOpens i s { u with mach := { u.mach with nextSerial := n } } := h

theorem State.sameOpens.supersede (h : State.sameOpens i s u) (a b : Owner) : State.sameOpens i s (u.supersede a b) := by
  unfold State.supersede
  split <;> exact h

theorem State.sameOpens.withdrawn (s : State) (q : Bool) : State.sameOpens i s (if q then s.withdrawMove i else s) := by
  have hsame : State.sameOpens i s s := ⟨rfl, id⟩
  split
  · unfold State.withdrawMove
    split
    · split
      · exact hsame
      · exact ⟨rfl, fun h => (State.withdraw_holdsOpen h).1⟩
    · exact hsame
  · exact hsame

theorem State.sameOpens.placed (h : State.sameOpens i s u) (hno : ¬s.holdsOrder i .opens)
    (hopen : (u.tryPlace i).holdsOrder i .opens) : s.interlockHolds i :=
  (State.OpensOnly.of_interlocking h.1.symm).interlockHolds (State.tryPlace_interlock (fun hu => hno (h.2 hu)) hopen)

/-- A request leaves an OPEN that was not there only under its interlock. -/
theorem State.requestMove_interlock (hno : ¬s.holdsOrder i .opens) (o : Owner)
    (h : (s.requestMove i .opened o).2.holdsOrder i .opens) : s.interlockHolds i := by
  have hsame : State.sameOpens i s s := ⟨rfl, id⟩
  have hnot : ∀ u : State, State.sameOpens i s u → u.holdsOrder i .opens → s.interlockHolds i := fun u hu hopen =>
    absurd (hu.2 hopen) hno
  unfold State.requestMove at h
  split at h
  · exact absurd h hno
  · split at h
    · unfold State.requestNew at h
      split at h
      · exact absurd h hno
      · exact State.sameOpens.placed (((hsame.setMovement i _)).numbered _) hno h
    · rename_i m _
      split at h
      · unfold State.requestJoin at h
        split at h
        · exact hnot _ ((hsame.setMovement i _).supersede _ _) h
        · exact absurd h hno
      · unfold State.requestReverse at h
        split at h
        · exact hnot _ ((hsame.setMovement i _).supersede _ _) h
        · have hwithdrawn := (State.sameOpens.withdrawn (i := i) s m.queued).supersede m.owner o
          dsimp only at h
          split at h
          · exact hnot _ (hwithdrawn.setMovement i none) h
          · exact (hwithdrawn.setMovement i _).placed hno h
        · exact ((hsame.supersede m.owner o).setMovement i _).placed hno h

end

/-- Settles O60: the three ways place an OPEN only where `State.mayPlace` holds, and no later placing of a retest takes
an interlock away. -/
theorem openWaitsForItsInterlock : Obligations.OpenWaitsForItsInterlock := by
  intro i s hno
  refine ⟨fun o h => State.requestMove_interlock hno o h, fun j h => State.tryPlace_interlock hno h, fun h => ?_⟩
  have hsafe : s.opensSafely i := fun hs => absurd hs hno
  obtain ⟨-, hlock, -⟩ := hsafe.retest h
  exact hlock

end Sys2Proof.Machine
end

section
/-! PACKING AND THE CHOICE OF DIRECTION, and what an AUTOMATIC evaluation admits (O59). -/

namespace Sys2Proof.Machine

/-! ### Records passed over (R118) -/

section

variable (s : State)

/-- A record of the queue that the walk passes over while it takes one behind it has skips left. -/
theorem State.walk_passes_over (limit : Nat) : ∀ q set : List Passage, q.Nodup → ∃ ms, s.walk limit q set = set ++ ms ∧
    ms.Sublist q ∧ ∀ before p behind, q = before ++ p :: behind → (∃ x ∈ behind, x ∈ ms) →
      p ∈ ms ∨ p.skips < s.traffic.skipLimit := by
  have hnone : ∀ q set : List Passage, ∃ ms, set = set ++ ms ∧ ms.Sublist q ∧
      ∀ before p behind, q = before ++ p :: behind → (∃ x ∈ behind, x ∈ ms) →
        p ∈ ms ∨ p.skips < s.traffic.skipLimit := fun q set =>
    ⟨[], by simp, List.nil_sublist q, fun _ _ _ _ ⟨_, _, hx⟩ => absurd hx List.not_mem_nil⟩
  intro q
  induction q with
  | nil => exact fun set _ => hnone [] set
  | cons y rest ih =>
    intro set hnodup
    obtain ⟨hy, hrest⟩ := List.nodup_cons.1 hnodup
    rw [State.walk]
    split_ifs with hfull htake hskip
    · exact hnone _ set
    · obtain ⟨ms, hwalk, hsub, hpass⟩ := ih (set ++ [y]) hrest
      refine ⟨y :: ms, by rw [hwalk]; simp, hsub.cons_cons y, fun before p behind hq hx => ?_⟩
      obtain ⟨x, hx, hxm⟩ := hx
      cases before with
      | nil =>
        obtain ⟨rfl, -⟩ := List.cons.inj hq
        exact .inl List.mem_cons_self
      | cons z before =>
        obtain ⟨rfl, rfl⟩ := List.cons.inj hq
        have hne : x ≠ y := by
          rintro rfl
          exact hy (List.mem_append_right _ (List.mem_cons_of_mem p hx))
        exact (hpass before p behind rfl ⟨x, hx, (List.mem_cons.1 hxm).resolve_left hne⟩).imp_left
          (List.mem_cons_of_mem _)
    · obtain ⟨ms, hwalk, hsub, hpass⟩ := ih set hrest
      refine ⟨ms, hwalk, hsub.cons y, fun before p behind hq hx => ?_⟩
      cases before with
      | nil =>
        obtain ⟨rfl, -⟩ := List.cons.inj hq
        exact .inr hskip
      | cons z before => exact hpass before p behind (List.cons.inj hq).2 hx
    · exact hnone _ set

theorem State.pack_passes_over (d : Direction) (hnodup : (s.queueOf d).Nodup) {before behind : List Passage} {p : Passage}
    (hq : s.queueOf d = before ++ p :: behind) (hx : ∃ x ∈ behind, x ∈ s.pack d) :
    p ∈ s.pack d ∨ p.skips < s.traffic.skipLimit := by
  obtain ⟨ms, hwalk, -, hpass⟩ := s.walk_passes_over (min Config.memberLimit s.freeSlots) (s.queueOf d) [] hnodup
  have hms : s.pack d = ms := hwalk
  rw [hms] at hx ⊢
  exact hpass before p behind hq hx

/-! ### The direction (R116) -/

theorem firstGroup_iff (p : Passage) : firstGroup p = true ↔ p.priority ≠ .ordinary := bne_iff_ne

theorem State.keeps_iff (d : Direction) : s.keeps d = true ↔ s.keepsDirection d := by
  simp only [State.keeps, State.keepsDirection, Bool.and_eq_true, Bool.or_eq_true, Bool.not_eq_true',
    List.isEmpty_eq_false_iff, List.isEmpty_iff, decide_eq_true_eq, List.any_eq_false, firstGroup_iff, ne_eq, not_not,
    and_assoc]

theorem firstGroup_eq_false (p : Passage) : firstGroup p = false ↔ p.priority = .ordinary := by
  rw [← Bool.not_eq_true, firstGroup_iff, not_not]

/-- R116: the choice by the heads of the queues. -/
theorem State.firstDirection_of {d : Direction} (h : s.firstChoice d) : s.firstDirection = some d := by
  obtain ⟨p, rest, hq, hchoice⟩ := h
  have hgroups : ∀ a b : Passage, (a.priority ≠ .ordinary ∧ b.priority = .ordinary) ∨
      ((a.priority ≠ .ordinary ↔ b.priority ≠ .ordinary) ∧ a.stamp < b.stamp) →
      (firstGroup a = true ∧ firstGroup b = false) ∨ (firstGroup a = firstGroup b ∧ a.stamp < b.stamp) := by
    intro a b h
    rcases h with ⟨ha, hb⟩ | ⟨hab, hlt⟩
    · exact .inl ⟨(firstGroup_iff a).2 ha, (firstGroup_eq_false b).2 hb⟩
    · exact .inr ⟨Bool.eq_iff_iff.2 ((firstGroup_iff a).trans (hab.trans (firstGroup_iff b).symm)), hlt⟩
  unfold State.firstDirection
  cases d with
  | up =>
    have hup : s.traffic.up = p :: rest := hq
    cases hdown : s.traffic.down with
    | nil => rw [hup]
    | cons q more =>
      rw [hup]
      dsimp only
      rcases hgroups p q (hchoice q more hdown) with ⟨hp, hq⟩ | ⟨hpq, hlt⟩
      · simp [hp, hq]
      · simp [hpq, hlt]
  | down =>
    have hdown : s.traffic.down = p :: rest := hq
    cases hup : s.traffic.up with
    | nil => rw [hdown]
    | cons q more =>
      rw [hdown]
      dsimp only
      rcases hgroups p q (hchoice q more hup) with ⟨hp, hq⟩ | ⟨hpq, hlt⟩
      · simp [hp, hq]
      · simp [hpq, Nat.not_lt.2 hlt.le]

theorem State.firstDirection_none {d : Direction} (h : s.queueOf d = []) (h' : s.queueOf (otherDirection d) = []) :
    s.firstDirection = none := by
  have hboth : s.traffic.up = [] ∧ s.traffic.down = [] := by
    cases d with
    | up => exact ⟨h, h'⟩
    | down => exact ⟨h', h⟩
  obtain ⟨hup, hdown⟩ := hboth
  rw [State.firstDirection, hup, hdown]

theorem otherDirection_other (d : Direction) : otherDirection (otherDirection d) = d := by cases d <;> rfl

/-! ### What an evaluation takes (R114, R115) -/

/-- The members packed from one queue, or else from the other. -/
def State.taken (s : State) (a b : Direction) : Option (Direction × List Passage) :=
  if s.pack a ≠ [] then some (a, s.pack a) else if s.pack b ≠ [] then some (b, s.pack b) else none

section

variable {s : State} {d : Direction}

theorem State.automaticBatch_full (h : s.freeSlots = 0) : s.automaticBatch = none := by
  rw [State.automaticBatch, if_pos h]

theorem State.automaticBatch_chosen (hb : s.traffic.batches = []) (hfree : s.freeSlots ≠ 0)
    (h : s.emptyChoice = some d) : s.automaticBatch = s.taken d (otherDirection d) := by
  rw [State.automaticBatch, if_neg hfree, hb]
  dsimp only
  rw [h]
  dsimp only
  unfold State.taken
  cases hp : s.pack d with
  | nil => cases ho : s.pack (otherDirection d) <;> rfl
  | cons x xs => rfl

theorem State.automaticBatch_unchosen (hb : s.traffic.batches = []) (h : s.emptyChoice = none) :
    s.automaticBatch = none := by
  rw [State.automaticBatch, hb]
  dsimp only
  rw [h]
  exact ite_self _

theorem State.emptyChoice_kept {e : Direction} (hlast : s.traffic.lastDirection = some e) (h : s.keepsDirection e) :
    s.emptyChoice = some e := by
  rw [State.emptyChoice, hlast]
  exact if_pos ((s.keeps_iff e).2 h)

theorem State.emptyChoice_turned {e : Direction} (hlast : s.traffic.lastDirection = some e) (h : ¬s.keepsDirection e) :
    s.emptyChoice = if s.queueOf (otherDirection e) = [] then none else some (otherDirection e) := by
  rw [State.emptyChoice, hlast]
  dsimp only
  rw [if_neg (mt (s.keeps_iff e).1 h)]
  simp only [List.isEmpty_iff]

theorem State.emptyChoice_none (h : s.queueOf d = []) (h' : s.queueOf (otherDirection d) = []) : s.emptyChoice = none := by
  cases hlast : s.traffic.lastDirection with
  | none =>
    rw [State.emptyChoice, hlast]
    exact s.firstDirection_none h h'
  | some e =>
    have hempty : s.queueOf e = [] ∧ s.queueOf (otherDirection e) = [] := by
      cases d <;> cases e
      · exact ⟨h, h'⟩
      · exact ⟨h', h⟩
      · exact ⟨h', h⟩
      · exact ⟨h, h'⟩
    obtain ⟨he, ho⟩ := hempty
    rw [State.emptyChoice_turned hlast fun hk => hk.1 he, if_pos ho]

theorem State.automaticBatch_behind {b : Batch} (hb : s.traffic.batches = [b]) (hfree : s.freeSlots ≠ 0) :
    s.automaticBatch = s.leader.bind fun b =>
      if s.keeps b.direction ∧ s.pack b.direction ≠ [] then some (b.direction, s.pack b.direction) else none := by
  rw [State.automaticBatch, if_neg hfree, hb]
  dsimp only
  cases hl : s.leader with
  | none => rfl
  | some x =>
    dsimp only [Option.bind_some]
    cases hp : s.pack x.direction with
    | nil => simp
    | cons y ys => simp

end

end

theorem State.leader_of_one {s : State} {b : Batch} (hb : s.traffic.batches = [b]) :
    s.leader = if s.traffic.followOn = true ∧ b.cleared = true then some b else none := by
  rw [State.leader, hb]
  simp only [Bool.and_eq_true]

theorem State.automaticBatch_follows {s : State} {b : Batch} (hb : s.traffic.batches = [b]) (hfree : s.freeSlots ≠ 0)
    (hfollow : s.traffic.followOn = true) (hclear : b.cleared = true) (hkeep : s.keepsDirection b.direction)
    (hpack : s.pack b.direction ≠ []) : s.automaticBatch = some (b.direction, s.pack b.direction) := by
  rw [State.automaticBatch_behind hb hfree, State.leader_of_one hb, if_pos ⟨hfollow, hclear⟩]
  exact if_pos ⟨(s.keeps_iff _).2 hkeep, hpack⟩

theorem State.automaticBatch_waits {s : State} {b : Batch} (hb : s.traffic.batches = [b]) (hfree : s.freeSlots ≠ 0)
    (h : s.traffic.followOn = false ∨ b.cleared = false ∨ ¬s.keepsDirection b.direction ∨ s.pack b.direction = []) :
    s.automaticBatch = none := by
  rw [State.automaticBatch_behind hb hfree, State.leader_of_one hb]
  by_cases hlead : s.traffic.followOn = true ∧ b.cleared = true
  · obtain ⟨hfollow, hclear⟩ := hlead
    rw [if_pos ⟨hfollow, hclear⟩]
    refine if_neg fun ⟨hkeep, hpack⟩ => ?_
    rcases h with h | h | h | h
    · rw [hfollow] at h
      exact nomatch h
    · rw [hclear] at h
      exact nomatch h
    · exact h ((s.keeps_iff _).1 hkeep)
    · exact hpack h
  · rw [if_neg hlead]
    rfl

theorem State.automaticBatch_crowded {s : State} (h : 2 ≤ s.traffic.batches.length) : s.automaticBatch = none := by
  unfold State.automaticBatch State.leader
  match hb : s.traffic.batches with
  | [] => rw [hb] at h; exact absurd h (by decide)
  | [x] => rw [hb] at h; exact absurd h (Nat.not_succ_le_self 1)
  | x :: y :: more => exact ite_self _

/-! ### The batch admitted (R112, R119) -/

/-- A new batch has the next number, one held being passed over. -/
theorem State.nextBatchNumber_newBatch {s : State} (h : s.traffic.batches.length ≤ 1) (d : Direction) (e : Edition)
    (ms : List Passage) : s.nextBatchNumber (s.newBatch d e ms).number := by
  have hmem : ∀ n, n ∈ s.traffic.batches.map (·.number) ↔ ∃ b ∈ s.traffic.batches, b.number = n := fun n => List.mem_map
  have hfree : ∀ n, (∀ b ∈ s.traffic.batches, b.number ≠ n) ↔ n ∉ s.traffic.batches.map (·.number) := by simp
  have hnumber : (s.newBatch d e ms).number =
      freeNumber 255 (s.traffic.batches.map (·.number)) 3 s.traffic.nextBatch := rfl
  rw [hnumber]
  refine ⟨(hfree _).2 (freeNumber_not_mem (by rw [List.length_map]; omega) (by decide)), fun hn => ?_, fun hheld hn => ?_⟩
  · exact freeNumber_of_free ((hfree _).1 hn)
  · rw [freeNumber, if_pos (List.contains_iff_mem.2 ((hmem _).2 hheld))]
    exact freeNumber_of_free ((hfree _).1 hn)

theorem State.newBatch_eq (s : State) (d : Direction) (e : Edition) (ms : List Passage) : s.newBatch d e ms =
    { number := (s.newBatch d e ms).number, direction := d
      members := ms.zipIdx.map fun p =>
        { p.1 with state := .admitted, location := .approach, batch := some ((s.newBatch d e ms).number, p.2 + 1) }
      admitDay := s.toll.account.day, admitTime := s.toll.clock, night := isNight e s.toll.clock
      edition := e.number, reasons := [], position := .one, moved := false, preparation := []
      meter := { rise := 0, segment := none, estimated := false, startUpMark := false }
      entered := false, cleared := false
      step := some { phase := .claiming, claims := [], rounds := 0, roomMade := [], waterLimit := none
                     moveWait := none, overdueSent := false, readySent := false } } :=
  congrArg (fun m => ({ s.newBatch d e ms with members := m } : Batch)) (admitAll_eq (s.newBatch d e ms).number ms 0)

theorem State.automaticBatch_length {s : State} {d : Direction} {ms : List Passage}
    (h : s.automaticBatch = some (d, ms)) : s.traffic.batches.length ≤ 1 := by
  by_contra hlen
  rw [State.automaticBatch_crowded (by omega)] at h
  exact nomatch h

theorem State.evaluateAdmission_automatic {s : State} {d : Direction} {ms : List Passage}
    (hmode : s.traffic.mode = .automatic) (hopen : s.admissionOpen = true) (h : s.automaticBatch = some (d, ms)) :
    s.evaluateAdmission = s.admitBatch d ms := by
  rw [State.evaluateAdmission, hmode]
  dsimp only
  rw [if_pos hopen, h]

/-- Settles O59: the walk over a queue, the choice by its cases, and the batch that an admission adds. -/
theorem packingKeepsWithinTheFlight : Obligations.PackingKeepsWithinTheFlight := by
  unfold Obligations.PackingKeepsWithinTheFlight
  intro d s
  obtain ⟨hsub, helig, hlen, hfits⟩ := s.pack_spec d
  refine ⟨hsub, hlen.trans (Nat.min_le_left _ _), hlen.trans (Nat.min_le_right _ _),
    fun p hp => Option.isNone_iff_eq_none.1 (helig p hp), fun dims hdims hne => ?_,
    fun before p behind hq hnodup hx => s.pack_passes_over d hnodup hq hx,
    ⟨State.automaticBatch_full, fun hb hfree => ⟨fun hlast hfirst => ?_, fun hlast hkeep => ?_, fun hlast hkeep ho => ?_,
      fun hlast hkeep ho => ?_, fun hd ho => State.automaticBatch_unchosen hb (State.emptyChoice_none hd ho)⟩,
    fun b hb hfree hd => ?_, State.automaticBatch_crowded⟩, fun ms e hmode hopen hauto he => ?_⟩
  · have h := hfits hne
    rw [State.setFits, hdims] at h
    exact of_decide_eq_true h
  · refine State.automaticBatch_chosen hb hfree ?_
    rw [State.emptyChoice, hlast]
    exact s.firstDirection_of hfirst
  · exact State.automaticBatch_chosen hb hfree (State.emptyChoice_kept hlast hkeep)
  · have h := State.automaticBatch_chosen hb hfree ((State.emptyChoice_turned hlast hkeep).trans (if_neg ho))
    rwa [otherDirection_other] at h
  · exact State.automaticBatch_unchosen hb ((State.emptyChoice_turned hlast hkeep).trans (if_pos ho))
  · subst hd
    exact ⟨State.automaticBatch_follows hb hfree, State.automaticBatch_waits hb hfree⟩
  · obtain ⟨hms, hne, -, htable⟩ := s.automaticBatch_some hauto
    obtain ⟨ns, hadmit⟩ := s.admitBatch_some (d := d) (ms := ms) he
    have heval := (State.evaluateAdmission_automatic hmode hopen hauto).trans hadmit
    have hqueue : ∀ x, s.evaluateAdmission.queueOf x =
        if x = d then leftBehind s.traffic.skipLimit (ms.map (·.number)) (s.queueOf d) else s.queueOf x := by
      intro x
      rw [heval, ← s.queueOf_withQueue]
      cases x <;> rfl
    have hnot : otherDirection d ≠ d := by cases d <;> decide
    refine ⟨hne, hms, htable, _, (s.newBatch d e ms).number, rfl,
      State.nextBatchNumber_newBatch (State.automaticBatch_length hauto) d e ms, ?_, ?_, ?_, ?_, ?_, ?_⟩
    · rw [← s.newBatch_eq d e ms, heval]
      rfl
    · rw [hqueue, if_pos rfl]
      rfl
    · rw [hqueue, if_neg hnot]
    · rw [heval]
      rfl
    · rw [heval]
      rfl
    · rw [heval]
      rfl

end Sys2Proof.Machine
end

section
/-! TIMERS OF THE PATHS: surge blanking and the changeover of a chamber (O32). -/

namespace Sys2Proof.Machine

/-! ### The waiting movements -/

theorem mem_insertSerial {x y : Nat × Item} {xs : List (Nat × Item)} : y ∈ insertSerial x xs ↔ y = x ∨ y ∈ xs := by
  induction xs with
  | nil => simp [insertSerial]
  | cons z zs ih =>
    rw [insertSerial]
    split
    · simp
    · simp only [List.mem_cons, ih]
      tauto

theorem mem_sortedSerials {y : Nat × Item} {xs : List (Nat × Item)} : y ∈ xs.foldr insertSerial [] ↔ y ∈ xs := by
  induction xs with
  | nil => rfl
  | cons x xs ih => rw [List.foldr_cons, mem_insertSerial, ih, List.mem_cons]

theorem mem_allItems (i : Item) : i ∈ allItems := by
  cases i with
  | gate k => cases k <;> decide
  | sluice k => cases k <;> decide
  | byWash w => cases w <;> decide

theorem State.mem_waitingItems {s : State} {i : Item} :
    i ∈ s.waitingItems ↔ ∃ m, (s.item i).movement = some m ∧ m.phase = .awaitTaken := by
  simp only [State.waitingItems, List.mem_map, mem_sortedSerials, List.mem_filterMap]
  constructor
  · rintro ⟨y, ⟨j, -, hj⟩, rfl⟩
    split at hj
    · rename_i m hm
      split at hj
      · rename_i hp
        obtain rfl := Option.some.inj hj
        exact ⟨m, hm, hp⟩
      · exact nomatch hj
    · exact nomatch hj
  · rintro ⟨m, hm, hp⟩
    refine ⟨(m.serial, i), ⟨i, mem_allItems i, ?_⟩, rfl⟩
    rw [hm]
    exact if_pos hp

section

variable {s : State} {i : Item}

theorem mem_placeEntry_self (c : Command) (q : List QueueEntry) : freshEntry c ∈ placeEntry c q := by
  induction q with
  | nil => exact List.mem_singleton_self _
  | cons e rest ih =>
    rw [placeEntry]
    split
    · split
      · exact List.mem_append_right _ (List.mem_singleton_self _)
      · exact List.mem_cons_self
    · exact List.mem_cons_of_mem _ ih

/-- Only the item waits, its command queued under conditions that hold, with the entry in its queue. -/
structure State.Placed (s : State) (i : Item) (m : Movement) : Prop where
  only : ∀ j ∈ s.waitingItems, j = i
  movement : (s.item i).movement = some { m with queued := true, unanswered := false, placed := true }
  entry : freshEntry (.item i (moveOrder m.target)) ∈ (s.station (itemStation i)).queue
  may : s.mayPlace i m.target = true
  none : s.noneToSuspend

/-- A test of the waiting movements then has nothing to do. -/
theorem State.Placed.retest {m : Movement} (h : s.Placed i m) : s.retest = s := by
  have hwithdraw : s.tryWithdraw i = s := by
    rw [State.tryWithdraw, h.movement]
    exact if_neg fun ⟨_, _, hno⟩ => by rw [h.may] at hno; exact nomatch hno
  have hplace : s.tryPlace i = s := by
    rw [State.tryPlace, h.movement]
    exact if_neg fun ⟨_, hq, _⟩ => nomatch hq
  have hall : ∀ js : List Item, (∀ j ∈ js, j = i) → js.foldl (fun s j => (s.tryWithdraw j).tryPlace j) s = s := by
    intro js
    induction js with
    | nil => exact fun _ => rfl
    | cons j js ih =>
      intro hjs
      rw [List.foldl_cons, hjs j List.mem_cons_self, hwithdraw, hplace]
      exact ih fun x hx => hjs x (List.mem_cons_of_mem j hx)
  exact hall _ h.only

/-- The test of the one waiting movement whose conditions hold. -/
theorem State.placed_retest {m : Movement} (hwait : s.waitingItems = [i]) (hm : (s.item i).movement = some m)
    (hq : m.queued = false) (hmay : s.mayPlace i m.target = true) (hnone : s.noneToSuspend) : s.retest.Placed i m := by
  have hphase : m.phase = .awaitTaken := by
    obtain ⟨m', hm', hp⟩ := State.mem_waitingItems.1 (hwait ▸ List.mem_singleton_self i)
    rwa [Option.some.inj (hm.symm.trans hm')]
  have hwithdraw : s.tryWithdraw i = s := by
    rw [State.tryWithdraw, hm]
    exact if_neg fun ⟨_, hno, _⟩ => by rw [hq] at hno; exact nomatch hno
  have hact : s.retest = (s.orderMove i m.target).setMovement i
      (some { m with queued := true, unanswered := false, placed := true }) := by
    rw [State.retest, hwait, List.foldl_cons, List.foldl_nil, hwithdraw, State.tryPlace, hm]
    exact if_pos ⟨hphase, hq, hmay⟩
  have hlook : State.OpensOnly i s s.retest := by
    rw [hact]
    exact (s.orderMove_opensOnly i (.inl rfl)).trans (State.setMovement_opensOnly _ i _)
  refine ⟨fun j hj => ?_, ?_, ?_, ?_, ?_⟩
  · by_contra hne
    obtain ⟨m', hm', hp⟩ := State.mem_waitingItems.1 hj
    have hsame : s.retest.item j = s.item j := by
      rw [hact]
      exact ((s.orderMove_keepsStop (Ne.symm hne) m.target).trans (State.setMovement_keepsStop _ (Ne.symm hne) _)).item
    rw [hsame] at hm'
    have hold : j ∈ s.waitingItems := State.mem_waitingItems.2 ⟨m', hm', hp⟩
    rw [hwait] at hold
    exact hne (List.mem_singleton.1 hold)
  · rw [hact]
    exact congrArg ItemRec.movement (State.item_setMovement_self _ i _)
  · rw [hact, State.orderMove_eq]
    have hqueue := State.setCommand_queue (s.setQueue (itemStation i) (placeEntry (.item i (moveOrder m.target))
      (s.station (itemStation i)).queue)) i (orderState (moveOrder m.target)) (itemStation i)
    have hset : ((s.setQueue (itemStation i) (placeEntry (.item i (moveOrder m.target))
        (s.station (itemStation i)).queue)).station (itemStation i)).queue =
        placeEntry (.item i (moveOrder m.target)) (s.station (itemStation i)).queue := by
      rw [State.station_setQueue, if_pos rfl]
    have hmem := mem_placeEntry_self (.item i (moveOrder m.target)) (s.station (itemStation i)).queue
    rwa [← hset, ← hqueue] at hmem
  · cases hx : m.target with
    | shut => cases i <;> rfl
    | opened =>
      rw [State.mayPlace_opened_iff]
      exact hlook.interlockHolds ((s.mayPlace_opened_iff i).1 (hx ▸ hmay))
  · intro e he
    have hduty : s.retest.hand.toRun = s.hand.toRun := congrArg Duty.events s.retest_duty
    exact hnone e (hduty ▸ he)

/-- The end of a step with nothing handed over but the test begins with the test. -/
theorem State.OnlySuspends.finish_tested {I : State → Prop} (hs : s.OnlySuspends) (hrun : s.hand.toRun = [])
    (htest : s.hand.retest = true)
    (hsus : ∀ s n r rest, s.hand.toRun = .suspend n r :: rest → I s → I (s.popEvent.suspend n r))
    (hhand : ∀ s h, I s → (∀ e ∈ h.toRun, e ∈ s.hand.toRun) → I { s with hand := h }) (hkeep : ∀ s, I s → I s.retest)
    (hi : I ({ s with hand := { s.hand with retest := false } } : State).retest) : ∃ v, I v ∧ v.settlesTo s.finish := by
  have hone : s.settleOne = some ({ s with hand := { s.hand with retest := false } } : State).retest := by
    unfold State.settleOne
    rw [hrun]
    dsimp only
    rw [hs.claim, hs.evaluate, htest]
    rfl
  have hclear : ({ s with hand := { s.hand with retest := false } } : State).OnlySuspends :=
    ⟨hs.causes, hs.evaluate, hs.claims, hs.events⟩
  have hfirst := (State.Eases.of_duty (State.retest_duty _)).onlySuspends hclear
  obtain ⟨hs1, hi1⟩ := State.OnlySuspends.settleLoop hsus hhand hkeep 399 _ hfirst hi
  obtain ⟨hs2, hi2⟩ := State.OnlySuspends.settleLoop hsus hhand hkeep settleFuel _ hs1 hi1
  have hloop : State.settleLoop settleFuel s =
      State.settleLoop 399 ({ s with hand := { s.hand with retest := false } } : State).retest := by
    rw [settleFuel, State.settleLoop, hone]
  have heq := s.finish_eq
  rw [hloop, State.takeCauses_of_none hs1.causes, State.takeCauses_of_none hs2.causes] at heq
  refine ⟨_, hi2, ?_⟩
  rw [heq]
  exact State.settlesTo_trans (State.settlesTo_deriveFaces _) (State.settlesTo_indications _)

/-! ### The expiries -/

theorem exec_changeover {c : Chamber} {t0 : Nat} (hp : s.powered = true) (hset : s.mach.changeover.get c = some t0)
    (hdue : s.now ≤ t0 + s.mach.limits.changeover) : ∃ t, exec (.changeoverTimerExpiry c) s = .next t ∧
      ((s.reach (t0 + s.mach.limits.changeover)).markRetest.finish).SameFlight t := by
  obtain ⟨t, hexec, ht⟩ := exec_event_flight (c := .changeoverTimerExpiry c) rfl hp
  have hact : s.endChangeover c = (s.reach (t0 + s.mach.limits.changeover)).markRetest.finish := by
    rw [State.endChangeover, hset]
    exact if_pos hdue
  rw [hact] at ht
  exact ⟨t, hexec, ht⟩

/-- The end of a step that tests the one waiting movement whose conditions hold. -/
theorem State.finish_placed {u : State} {m : Movement} (hs : u.OnlySuspends) (hrun : u.hand.toRun = [])
    (htest : u.hand.retest = true) (hwait : u.waitingItems = [i]) (hm : (u.item i).movement = some m)
    (hq : m.queued = false) (hmay : u.mayPlace i m.target = true) :
    (u.finish.item i).movement = some { m with queued := true, unanswered := false, placed := true } ∧
      freshEntry (.item i (moveOrder m.target)) ∈ (u.finish.station (itemStation i)).queue := by
  have hnone : u.noneToSuspend := fun e he => absurd (hrun ▸ he) List.not_mem_nil
  obtain ⟨v, hv, hset⟩ := hs.finish_tested (I := fun t => t.Placed i m) hrun htest
    (fun t n r rest he ht => absurd rfl (ht.none _ (he ▸ List.mem_cons_self) n r))
    (fun t h ht hsub => ⟨ht.only, ht.movement, ht.entry, ht.may, fun e he => ht.none e (hsub e he)⟩)
    (fun t ht => by rwa [ht.retest])
    (State.placed_retest (s := { u with hand := { u.hand with retest := false } }) hwait hm hq hmay hnone)
  refine ⟨?_, ?_⟩
  · rw [hset.item, hv.movement]
  · obtain ⟨-, hqueues, -⟩ := hset
    obtain ⟨-, -, hfilter⟩ := hqueues (itemStation i)
    have hmem := (List.mem_filter (p := fun e => !isFaceEntry e)).2 ⟨hv.entry, rfl⟩
    rw [← hfilter] at hmem
    exact (List.mem_filter.1 hmem).1

end

theorem State.endSurge_retained {s : State} {c : Chamber} (t : Nat) :
    ((s.reach t).setChamber c { s.chamber c with surge := none }).retainedOf = s.retainedOf := by
  cases c <;> rfl

/-- Settles O32: the test that a changeover hands over places the one command, and tests it no more. -/
theorem blankingAndChangeoverExpire : Obligations.BlankingAndChangeoverExpire := by
  unfold Obligations.BlankingAndChangeoverExpire
  refine ⟨fun c e s hp hset => ?_, fun c s hnone => ?_, fun c t0 i m s hp hcalm hset hdue hwait hm hq hmay => ?_,
    fun c s hidle => ?_⟩
  · have hact : s.endSurge c = (s.reach e).setChamber c { s.chamber c with surge := none } := by
      rw [State.endSurge, hset]
    rw [exec_event (c := .surgeBlankExpiry c) rfl, State.event_plain _ _ hp (by rw [hact, State.endSurge_retained]), hact]
    rfl
  · refine exec_event_idle (c := .surgeBlankExpiry c) rfl ?_
    rw [State.endSurge, hnone]
  · obtain ⟨t, hexec, ht⟩ := exec_changeover hp hset hdue
    have hhand : s.hand.toRun = [] ∧ s.hand.toHalt = [] ∧ s.hand.evaluate = false := by
      rw [hcalm.1]
      exact ⟨rfl, rfl, rfl⟩
    obtain ⟨hrun, hhalt, heval⟩ := hhand
    have honly : (s.reach (t0 + s.mach.limits.changeover)).markRetest.OnlySuspends := State.onlySuspends_of_calm hcalm rfl
      hhalt heval fun x hx => absurd (hrun ▸ hx) List.not_mem_nil
    obtain ⟨hmove, hentry⟩ := State.finish_placed (u := (s.reach (t0 + s.mach.limits.changeover)).markRetest) honly hrun
      rfl hwait hm hq hmay
    refine ⟨t, hexec, ?_, ?_, ?_⟩
    · rw [ht.fixed, State.finish_fixed]
      rfl
    · rw [State.item, ht.mach]
      exact hmove
    · rw [State.station, ht.line]
      cases hx : m.target <;> exact hx ▸ hentry
  · refine exec_event_idle (c := .changeoverTimerExpiry c) rfl ?_
    rcases hidle with hnone | ⟨t0, hset, hlate⟩
    · rw [State.endChangeover, hnone]
    · rw [State.endChangeover, hset]
      exact if_neg (by omega)

end Sys2Proof.Machine
end

section
/-! A BATCH JUST ADMITTED: what the rest of its step makes of it, while the other batches of the table wait. The requests
it sends, its suspension and its first two steps leave every other batch, the receipts and the rest of the traffic. -/

namespace Sys2Proof.Machine

/-! ### The batch and what it may become -/

/-- A batch of which no vessel has moved, with no list to go through. -/
structure Batch.Young (b : Batch) : Prop where
  moved : b.moved = false
  list : b.preparation = []
  place : b.position = .one ∨ b.position = .two
  step : b.step.isSome = true
  phase : b.phase? ≠ some .stopping

/-- What one batch may become of another: its run has gone on, its record stands. -/
def Batch.becomes (x y : Batch) : Prop :=
  (x.Young → y.Young) ∧ y = { x with
    reasons := y.reasons, position := y.position, moved := y.moved, preparation := y.preparation, meter := y.meter
    step := y.step }

theorem Batch.becomes.refl (x : Batch) : x.becomes x := ⟨id, rfl⟩

theorem Batch.becomes.trans {x y z : Batch} (h : x.becomes y) (k : y.becomes z) : x.becomes z := by
  obtain ⟨hy, hxy⟩ := h
  obtain ⟨hz, hyz⟩ := k
  refine ⟨hz ∘ hy, ?_⟩
  rw [hyz, hxy]

theorem Batch.becomes.number {x y : Batch} (h : x.becomes y) : y.number = x.number := by rw [h.2]

theorem Batch.becomes_reasons (x : Batch) (rs : List Reason) : x.becomes { x with reasons := rs } :=
  ⟨fun h => ⟨h.moved, h.list, h.place, h.step, h.phase⟩, rfl⟩

theorem Batch.becomes_meter (x : Batch) (m : Meter) : x.becomes { x with meter := m } :=
  ⟨fun h => ⟨h.moved, h.list, h.place, h.step, h.phase⟩, rfl⟩

theorem Batch.becomes_step (x : Batch) (f : StepRec → StepRec) (h : ∀ r : StepRec, r.phase ≠ .stopping → (f r).phase ≠ .stopping) :
    x.becomes { x with step := x.step.map f } := by
  refine ⟨fun hx => ⟨hx.moved, hx.list, hx.place, by simpa using hx.step, ?_⟩, rfl⟩
  have hphase := hx.phase
  unfold Batch.phase? at hphase ⊢
  dsimp only
  cases hs : x.step with
  | none => exact nofun
  | some r =>
    rw [hs] at hphase
    exact fun heq => h r (fun hr => hphase (congrArg some hr)) (Option.some.inj heq)

theorem Batch.becomes_halted (x : Batch) : x.becomes { x with preparation := [], step := x.step.map StepRec.halted } := by
  have hlist : x.becomes { x with preparation := [] } := ⟨fun h => ⟨h.moved, rfl, h.place, h.step, h.phase⟩, rfl⟩
  exact hlist.trans (Batch.becomes_step _ _ fun _ h => h)

theorem Batch.becomes_advance {x : Batch} (hlist : x.preparation = []) (hone : x.position = .one) : x.becomes x.advance := by
  rw [Batch.advance_of_nil hlist]
  exact ⟨fun _ => ⟨rfl, hlist, .inr (by rw [hone]; rfl), rfl, nofun⟩, rfl⟩

/-! ### The table while it runs -/

/-- The traffic and the receipts. -/
def State.ledger (s : State) : Traffic × Receipts := (s.traffic, s.receipts)

/-- The table is `T`'s with the batch `x` of number `n` behind it; all that is handed over are answers to stop waits of
`x`. -/
structure State.Attends (T : Traffic) (R : Receipts) (n : Nat) (x : Batch) (s : State) : Prop where
  number : x.number = n
  traffic : s.traffic = { T with batches := T.batches ++ [x] }
  receipts : s.receipts = R
  causes : s.hand.toHalt = []
  evaluate : s.hand.evaluate = false
  events : ∀ e ∈ s.hand.toRun, ∃ st, e = .faceStopped n st

/-- As `State.Attends`, of some batch that `x` has become. -/
def State.Leads (T : Traffic) (R : Receipts) (n : Nat) (x : Batch) (s : State) : Prop :=
  ∃ y, x.becomes y ∧ s.Attends T R n y

section

variable {T : Traffic} {R : Receipts} {n : Nat} {x y : Batch} {s t : State}

theorem State.Attends.leads (h : s.Attends T R n x) : s.Leads T R n x := ⟨x, .refl x, h⟩

theorem State.Leads.of_becomes (h : x.becomes y) (hs : s.Leads T R n y) : s.Leads T R n x := by
  obtain ⟨z, hz, ha⟩ := hs
  exact ⟨z, h.trans hz, ha⟩

theorem State.Leads.then (hs : s.Leads T R n x) (h : ∀ y, x.becomes y → s.Attends T R n y → t.Leads T R n y) :
    t.Leads T R n x := by
  obtain ⟨y, hy, ha⟩ := hs
  exact .of_becomes hy (h y hy ha)

theorem State.Attends.same (h : s.Attends T R n x) (hd : t.duty = s.duty) (hl : t.ledger = s.ledger) :
    t.Attends T R n x := by
  have hevents : t.hand.toRun = s.hand.toRun := congrArg Duty.events hd
  exact ⟨h.number, (congrArg Prod.fst hl).trans h.traffic, (congrArg Prod.snd hl).trans h.receipts,
    (congrArg Duty.causes hd).trans h.causes, (congrArg Duty.evaluate hd).trans h.evaluate,
    fun e he => h.events e (hevents ▸ he)⟩

theorem State.Leads.same (h : s.Leads T R n x) (hd : t.duty = s.duty) (hl : t.ledger = s.ledger) : t.Leads T R n x :=
  h.then fun _ _ ha => (ha.same hd hl).leads

theorem State.ledger_of_beside (h : t.beside = s.beside) : t.ledger = s.ledger :=
  Prod.ext (congrArg Beside.traffic h) (congrArg Beside.receipts h)

/-! ### What leaves the traffic and the receipts -/

section

variable (s : State)

@[simp] theorem State.setFace_ledger (f : Face) (r : FaceRec) : (s.setFace f r).ledger = s.ledger := rfl
@[simp] theorem State.placeFace_ledger (f : Face) (a : Aspect) : (s.placeFace f a).ledger = s.ledger := rfl

@[simp] theorem State.notify_ledger (k : NoticeKind) (o : Nat) (p : List Field) : (s.notify k o p).ledger = s.ledger := by
  rw [State.notify_withNotices]
  rfl

@[simp] theorem State.deriveFace_ledger (f : Face) : (s.deriveFace f).ledger = s.ledger := by
  obtain ⟨a, q, h⟩ := s.deriveFace_shape f
  rw [h]
  rfl

@[simp] theorem State.withdrawStopWait_ledger (f : Face) (n : Nat) : (s.withdrawStopWait f n).ledger = s.ledger := by
  obtain ⟨fs, h⟩ := s.withdrawStopWait_shape f n
  rw [h]
  rfl

@[simp] theorem State.requestFaceStop_ledger (f : Face) (n : Nat) (st : Step) :
    (s.requestFaceStop f n st).ledger = s.ledger := by
  have hanswer : ∀ u : State, (u.answerStopWait f).ledger = u.ledger := fun u => by
    unfold State.answerStopWait
    repeat' split
    all_goals rfl
  rw [State.requestFaceStop, hanswer]
  exact (s.setFace f _).deriveFace_ledger f

@[simp] theorem State.withdrawTarget_ledger (st : Step) (p : Phase) : (s.withdrawTarget st p).ledger = s.ledger := by
  unfold State.withdrawTarget
  split <;> rfl

@[simp] theorem State.requestStop_ledger (i : Item) : (s.requestStop i).ledger = s.ledger :=
  State.ledger_of_beside (State.orderStop_beside _ _)

@[simp] theorem State.requestMove_ledger (i : Item) (x : Target) (o : Owner) : (s.requestMove i x o).2.ledger = s.ledger :=
  State.ledger_of_beside (s.requestMove_beside i x o)

theorem State.retest_ledger : s.retest.ledger = s.ledger := by
  have hwithdraw : ∀ (u : State) (i : Item), (u.tryWithdraw i).ledger = u.ledger := fun u i => by
    unfold State.tryWithdraw
    dsimp only
    repeat' split
    · exact State.ledger_of_beside (u.orderStop_beside i)
    · exact State.ledger_of_beside (State.setCommand_beside (u.withdraw i) i .none)
    · rfl
    · rfl
  exact foldl_frame State.ledger
    (fun u i => (State.ledger_of_beside (State.tryPlace_beside _ i)).trans (hwithdraw u i)) _ s

end

/-! ### What is done to the batch -/

theorem State.Attends.batch? (h : s.Attends T R n x) (hfresh : ∀ b ∈ T.batches, b.number ≠ n) : s.batch? n = some x := by
  rw [State.batch?, h.traffic]
  dsimp only
  rw [List.find?_append, List.find?_eq_none.2 fun b hb => by simpa using hfresh b hb]
  simp [h.number]

theorem State.Attends.modBatch_of (h : s.Attends T R n x) (hfresh : ∀ b ∈ T.batches, b.number ≠ n) {f : Batch → Batch}
    (hf : (f x).number = x.number) : (s.modBatch n f).Attends T R n (f x) := by
  refine ⟨hf.trans h.number, ?_, h.receipts, h.causes, h.evaluate, h.events⟩
  have htable : (s.modBatch n f).traffic =
      { s.traffic with batches := s.traffic.batches.map fun b => if b.number = n then f b else b } := rfl
  have hold : T.batches.map (fun b => if b.number = n then f b else b) = T.batches := by
    conv_rhs => rw [← List.map_id T.batches]
    exact List.map_congr_left fun b hb => if_neg (hfresh b hb)
  rw [htable, h.traffic]
  dsimp only
  rw [List.map_append, hold, List.map_singleton, if_pos h.number]

theorem State.Attends.modBatch (h : s.Attends T R n x) (hfresh : ∀ b ∈ T.batches, b.number ≠ n) {f : Batch → Batch}
    (hf : x.becomes (f x)) : (s.modBatch n f).Leads T R n x :=
  ⟨f x, hf, h.modBatch_of hfresh hf.number⟩

theorem State.Attends.modStep (h : s.Attends T R n x) (hfresh : ∀ b ∈ T.batches, b.number ≠ n) {f : StepRec → StepRec}
    (hf : ∀ r : StepRec, r.phase ≠ .stopping → (f r).phase ≠ .stopping) : (s.modStep n f).Leads T R n x :=
  h.modBatch hfresh (f := fun b => { b with step := b.step.map f }) (x.becomes_step f hf)

theorem State.Attends.setPhase (h : s.Attends T R n x) (hfresh : ∀ b ∈ T.batches, b.number ≠ n) {p : Phase}
    (hp : p ≠ .stopping) : (s.setPhase n p).Leads T R n x :=
  h.modStep hfresh fun _ _ => hp

theorem State.Attends.addReason (h : s.Attends T R n x) (hfresh : ∀ b ∈ T.batches, b.number ≠ n) (r : Reason) :
    (s.addReason n r).Leads T R n x := by
  unfold State.addReason
  rw [h.batch? hfresh]
  dsimp only
  split
  · exact h.leads
  · exact (h.modBatch hfresh (f := fun b => { b with reasons := insertIn allReasons r x.reasons })
      (x.becomes_reasons _)).same (State.notify_duty _ _ _ _) (State.notify_ledger _ _ _ _)

theorem State.Attends.requestMove (h : s.Attends T R n x) (i : Item) (a : Target) (st : Step) :
    (s.requestMove i a (.batch n st)).2.Attends T R n x :=
  h.same (s.requestMove_duty i a n st) (s.requestMove_ledger i a _)

theorem State.Attends.requestFaceStop (h : s.Attends T R n x) (f : Face) (st : Step) :
    (s.requestFaceStop f n st).Attends T R n x := by
  rcases s.requestFaceStop_duty f n st with hd | hd
  · exact h.same hd (s.requestFaceStop_ledger f n st)
  · have hevents : (s.requestFaceStop f n st).hand.toRun = s.hand.toRun ++ [.faceStopped n st] :=
      congrArg Duty.events hd
    have hl := s.requestFaceStop_ledger f n st
    refine ⟨h.number, (congrArg Prod.fst hl).trans h.traffic, (congrArg Prod.snd hl).trans h.receipts,
      (congrArg Duty.causes hd).trans h.causes, (congrArg Duty.evaluate hd).trans h.evaluate, fun e he => ?_⟩
    rw [hevents] at he
    rcases List.mem_append.1 he with he | he
    · exact h.events e he
    · exact ⟨st, List.mem_singleton.1 he⟩

theorem State.Attends.safeRequests (h : s.Attends T R n x) (hfresh : ∀ b ∈ T.batches, b.number ≠ n) (d : Direction)
    (st : Step) (p : Phase) : (s.safeRequests n d st p).Leads T R n x := by
  have hwater : ∀ i : Item, (addAnswer n (s.requestMove i .shut (.batch n st))).Leads T R n x := by
    intro i
    unfold addAnswer
    split
    · exact (h.requestMove i .shut st).addReason hfresh _
    · exact (h.requestMove i .shut st).leads
  have hstop : ∀ g : Station, (s.requestStop (.gate g)).Attends T R n x := fun g =>
    h.same (s.requestStop_duty _) (s.requestStop_ledger _)
  unfold State.safeRequests
  split
  · exact hwater _
  · exact hwater _
  · exact hwater _
  · exact (hstop _).leads
  · exact (hstop _).leads
  · exact (((hstop _).requestFaceStop _ st).same (State.withdrawStopWait_duty _ _ _)
      (State.withdrawStopWait_ledger _ _ _)).leads
  · exact ((hstop _).same (State.withdrawStopWait_duty _ _ _) (State.withdrawStopWait_ledger _ _ _)).leads
  · exact h.leads

theorem State.Attends.makeSafe (h : s.Attends T R n x) (hfresh : ∀ b ∈ T.batches, b.number ≠ n) {b : Batch}
    (hb : b.number = n) : (s.makeSafe b).Leads T R n x := by
  unfold State.makeSafe
  rw [hb]
  split
  · exact h.modBatch hfresh (f := fun x => { x with preparation := [] })
      ⟨fun hx => ⟨hx.moved, rfl, hx.place, hx.step, hx.phase⟩, rfl⟩
  · rename_i r _
    have hhalted := (h.same (s.withdrawTarget_duty b.current r.phase) (s.withdrawTarget_ledger b.current r.phase)).modBatch
      hfresh (f := fun x => { x with preparation := [], step := x.step.map StepRec.halted }) x.becomes_halted
    dsimp only
    split
    · exact hhalted.then fun y _ hy => hy.safeRequests hfresh _ _ _
    · exact hhalted

theorem State.Attends.suspend (h : s.Attends T R n x) (hfresh : ∀ b ∈ T.batches, b.number ≠ n) (r : Reason) :
    (s.suspend n r).Leads T R n x := by
  unfold State.suspend
  rw [h.batch? hfresh]
  dsimp only
  split
  · exact h.addReason hfresh r
  · exact (h.addReason hfresh r).then fun y _ hy => hy.makeSafe hfresh h.number

theorem State.Attends.segment (h : s.Attends T R n x) (hfresh : ∀ b ∈ T.batches, b.number ≠ n) (f : Meter → Meter) :
    (s.modBatch n fun b => { b with meter := f b.meter }).Leads T R n x :=
  h.modBatch hfresh (f := fun b => { b with meter := f b.meter }) (x.becomes_meter _)

theorem State.Attends.enterFlowing (h : s.Attends T R n x) (hfresh : ∀ b ∈ T.batches, b.number ≠ n) :
    (s.enterFlowing n).Leads T R n x :=
  h.modStep hfresh fun _ _ => nofun

theorem State.Attends.requestOpen (h : s.Attends T R n x) (hfresh : ∀ b ∈ T.batches, b.number ≠ n) {b : Batch}
    (hb : b.number = n) : (s.requestOpen b).Leads T R n x := by
  unfold State.requestOpen
  rw [hb]
  have hopen : ((s.setPhase n .opening).nameTarget b.current).Leads T R n x := by
    have hduty : ((s.setPhase n .opening).nameTarget b.current).duty = (s.setPhase n .opening).duty := by
      unfold State.nameTarget
      split <;> rfl
    have hledger : ((s.setPhase n .opening).nameTarget b.current).ledger = (s.setPhase n .opening).ledger := by
      unfold State.nameTarget
      split <;> rfl
    exact (h.setPhase hfresh (p := .opening) nofun).same hduty hledger
  refine hopen.then fun y _ hy => ?_
  have hmove := hy.requestMove (stepItem b.current) .opened b.current
  dsimp only
  split
  · exact hmove.suspend hfresh _
  · exact hmove.leads
  · split
    · exact (hmove.segment hfresh fun m => m.begin _).then fun z _ hz => hz.enterFlowing hfresh
    · exact hmove.enterFlowing hfresh

theorem State.Attends.roomCheck (h : s.Attends T R n x) (hfresh : ∀ b ∈ T.batches, b.number ≠ n) {b : Batch}
    (hb : b.number = n) (r : StepRec) {path : Item} (hpath : path = .sluice .k0 ∨ path = .sluice .k3) :
    (s.roomCheck b r path).Leads T R n x := by
  unfold State.roomCheck
  split
  · exact h.requestOpen hfresh hb
  · rw [hb]
    exact h.setPhase hfresh nofun
  · rename_i hroom
    obtain rfl : path = .sluice .k0 := hpath.resolve_right fun h3 => by
      rw [h3] at hroom
      exact nomatch hroom
    rw [State.noRoom, if_pos rfl, hb]
    exact h.suspend hfresh _

theorem State.Attends.endWaterStep (h : s.Attends T R n x) (hfresh : ∀ b ∈ T.batches, b.number ≠ n) {b : Batch}
    (hb : b.number = n) (hlist : x.preparation = []) (hone : x.position = .one) (m : Bool) :
    (s.endWaterStep b m).Leads T R n x := by
  unfold State.endWaterStep
  rw [hb]
  have hadvance : ∀ (u : State) (y : Batch), u.Attends T R n y → y.preparation = [] → y.position = .one →
      ((u.noticeStepDone b m).modBatch n Batch.advance).Leads T R n y := fun u y hu hyl hyo =>
    (hu.same (State.notify_duty _ _ _ _) (State.notify_ledger _ _ _ _)).modBatch hfresh (Batch.becomes_advance hyl hyo)
  dsimp only
  split
  · refine .of_becomes (x.becomes_meter (x.meter.close s.meterLevel)) (hadvance _ _ ?_ hlist hone)
    exact h.modBatch_of hfresh (f := fun b => { b with meter := b.meter.close s.meterLevel }) rfl
  · exact hadvance s x h hlist hone

/-! ### Its first two steps -/

theorem State.Attends.waterTests (h : s.Attends T R n x) (hfresh : ∀ b ∈ T.batches, b.number ≠ n) {b : Batch}
    (hb : b.number = n) (hmain : b.current = .main b.direction .one) (hlist : x.preparation = [])
    (hone : x.position = .one) (r : StepRec) {path : Item} (hpath : path = .sluice .k0 ∨ path = .sluice .k3) (e : WaterEnd) :
    (s.waterTests b r path e).Leads T R n x := by
  have hcond : conditionOf b.current = none := by
    rw [hmain]
    cases b.direction <;> rfl
  unfold State.waterTests
  rw [hcond]
  split
  · rw [hb]
    exact h.suspend hfresh _
  · split
    · exact h.endWaterStep hfresh hb hlist hone _
    · exact h.roomCheck hfresh hb r hpath

theorem State.Attends.enterOpen (h : s.Attends T R n x) (hfresh : ∀ b ∈ T.batches, b.number ≠ n) {b : Batch}
    (hb : b.number = n) (g : Station) : (s.enterOpen b g).Leads T R n x := by
  unfold State.enterOpen State.requestProceed
  rw [hb]
  have hopen : (s.modStep n fun r => { r with
      phase := .opened, moveWait := some (s.after s.traffic.moveWait), overdueSent := false
      readySent := false }).Leads T R n x := h.modStep hfresh fun _ _ => nofun
  exact hopen.same (State.deriveFace_duty _ _) (State.deriveFace_ledger _ _)

theorem State.Attends.tryReady (h : s.Attends T R n x) (hfresh : ∀ b ∈ T.batches, b.number ≠ n) {b : Batch}
    (hb : b.number = n) (g : Station) : (s.tryReady b g).Leads T R n x := by
  unfold State.tryReady
  rw [hb]
  split
  · refine (h.setPhase hfresh (p := .opening) nofun).then fun y _ hy => ?_
    have hmove := hy.requestMove (.gate g) .opened b.current
    dsimp only
    split
    · exact hmove.suspend hfresh _
    · exact hmove.enterOpen hfresh hb g
    · exact hmove.leads
  · exact h.leads

theorem Batch.Young.work (h : x.Young) : x.current = .main x.direction x.position ∧
    (x.position = .one ∧ (∃ g, (g = .k0 ∨ g = .k3) ∧ stepWork x.current = .water (.sluice g) (.equal g)) ∨
      ∃ g, stepWork x.current = .passage g) := by
  have hcurrent : x.current = .main x.direction x.position := by rw [Batch.current, h.list]
  rw [hcurrent]
  refine ⟨rfl, h.place.imp (fun hone => ?_) fun htwo => ?_⟩
  · rw [hone]
    refine ⟨rfl, ?_⟩
    cases x.direction
    · exact ⟨.k3, .inr rfl, rfl⟩
    · exact ⟨.k0, .inl rfl, rfl⟩
  · rw [htwo]
    cases x.direction
    · exact ⟨.k3, rfl⟩
    · exact ⟨.k0, rfl⟩

theorem State.Attends.takeClaims (h : s.Attends T R n x) (hfresh : ∀ b ∈ T.batches, b.number ≠ n) (hyoung : x.Young) :
    (s.takeClaims x).Leads T R n x := by
  obtain ⟨hmain, hwork⟩ := hyoung.work
  have hclaims := h.modBatch_of hfresh
    (f := fun b => { b with step := b.step.map fun r => { r with claims := stepClaims x.current } }) rfl
  have hbec : x.becomes { x with step := x.step.map fun r => { r with claims := stepClaims x.current } } :=
    x.becomes_step _ fun _ hr => hr
  unfold State.takeClaims
  rw [h.number]
  rcases hwork with ⟨hone, g, hg, hwork⟩ | ⟨g, hwork⟩
  · rw [hwork]
    dsimp only
    exact .of_becomes hbec (hclaims.waterTests hfresh h.number (by rw [hmain, hone]) hyoung.list hone _
      (hg.imp (congrArg Item.sluice) (congrArg Item.sluice)) _)
  · rw [hwork, hyoung.moved]
    dsimp only
    rw [if_neg Bool.false_ne_true]
    exact .of_becomes hbec ((hclaims.setPhase hfresh (p := .readying) nofun).then
      fun y _ hy => hy.tryReady hfresh h.number g)

/-- A round of the rest of its step. -/
theorem State.Attends.round (h : s.Attends T R n x) (hfresh : ∀ b ∈ T.batches, b.number ≠ n)
    (hwait : ∀ b ∈ T.batches, b.suspended = true ∨ b.phase? ≠ some .claiming) (hyoung : x.Young)
    (hround : s.settleOne = some t) : t.Leads T R n x := by
  rcases State.settleOne_cases hround with ⟨e, rest, he, rfl⟩ | ⟨-, ⟨b, hb, rfl⟩ | ⟨heval, -⟩ | ⟨-, rfl⟩⟩
  · obtain ⟨st, rfl⟩ := h.events e (he ▸ List.mem_cons_self)
    have hpop : s.popEvent.Attends T R n x :=
      ⟨h.number, h.traffic, h.receipts, h.causes, h.evaluate, fun e hm => h.events e (List.mem_of_mem_drop hm)⟩
    have hpass : s.popEvent.deliver (.faceStopped n st) = s.popEvent := by
      rw [State.deliver, State.takeFaceStopped]
      split
      · rfl
      · rename_i b r hactive
        obtain ⟨hb, hstep, -, -⟩ := State.active?_some hactive
        obtain rfl := Option.some.inj ((hpop.batch? hfresh).symm.trans hb)
        refine if_neg fun ⟨_, hphase⟩ => hyoung.phase ?_
        rw [Batch.phase?, hstep, Option.map_some, hphase]
    rw [hpass]
    exact hpop.leads
  · obtain rfl : b = x := by
      have hmem := List.mem_of_find?_eq_some hb
      rw [h.traffic] at hmem
      refine List.mem_singleton.1 ((List.mem_append.1 hmem).resolve_left fun hold => ?_)
      have hclaim := List.find?_some hb
      rcases hwait b hold with hs | hp
      · simp [State.canClaim, hs] at hclaim
      · simp [State.canClaim, hp] at hclaim
    exact h.takeClaims hfresh hyoung
  · rw [h.evaluate] at heval
    exact nomatch heval
  · have hclear : ({ s with hand := { s.hand with retest := false } } : State).Attends T R n x :=
      ⟨h.number, h.traffic, h.receipts, h.causes, h.evaluate, h.events⟩
    exact (hclear.same (State.retest_duty _) (State.retest_ledger _)).leads

theorem State.Leads.settleLoop (hfresh : ∀ b ∈ T.batches, b.number ≠ n)
    (hwait : ∀ b ∈ T.batches, b.suspended = true ∨ b.phase? ≠ some .claiming) (hyoung : x.Young) (k : Nat)
    (h : s.Leads T R n x) : (State.settleLoop k s).Leads T R n x :=
  State.settleLoop_keeps (fun _ _ hround hu => hu.then fun _ hy ha => ha.round hfresh hwait (hy.1 hyoung) hround) k s h

theorem State.Leads.causes (h : s.Leads T R n x) : s.hand.toHalt = [] := by
  obtain ⟨_, -, ha⟩ := h
  exact ha.causes

/-- The end of the step that admitted it. -/
theorem State.Attends.finish (h : s.Attends T R n x) (hfresh : ∀ b ∈ T.batches, b.number ≠ n)
    (hwait : ∀ b ∈ T.batches, b.suspended = true ∨ b.phase? ≠ some .claiming) (hyoung : x.Young) :
    ∃ v : State, v.Leads T R n x ∧ v.settlesTo s.finish := by
  have h1 := h.leads.settleLoop hfresh hwait hyoung settleFuel
  have h2 := h1.settleLoop hfresh hwait hyoung settleFuel
  refine ⟨_, h2, ?_⟩
  rw [State.finish_eq, State.takeCauses_of_none h1.causes, State.takeCauses_of_none h2.causes]
  exact State.settlesTo_trans (State.settlesTo_deriveFaces _) (State.settlesTo_indications _)

end

end Sys2Proof.Machine
end

section
/-! KEEPER ORDERS: the rows of R122's table in order, and what an order that is pending or admitted leaves (O46). -/

namespace Sys2Proof.Machine

/-! ### The table of refusals (R122) -/

section

variable {s : State} {ns : List Nat}

/-- The rows of R122's table. -/
theorem State.orderRefusal_eq (s : State) (ns : List Nat) : s.orderRefusal ns =
    if ¬(1 ≤ ns.length ∧ ns.length ≤ 4 ∧ ns.Nodup) then some .badValue
    else if s.traffic.mode ≠ .keeper then some .wrongMode
    else if ¬(s.toll.current.isSome = true ∧ s.flightDims.isSome = true) then some .notConfigured
    else if s.traffic.order ≠ none then some .orderPending
    else if ∃ n ∈ ns, ∀ p ∈ s.allPassages, p.number ≠ n then some .noSuchVessel
    else if ∃ n ∈ ns, s.queued? n = none then some .inBatch
    else if ∃ p ∈ s.orderRecords ns, ∃ q ∈ s.orderRecords ns, p.direction ≠ q.direction then some .badValue
    else if s.orderFits ns = false then some .doesNotFit
    else if s.freeSlots < ns.length then some .receiptsFull else none := by
  have hsized : (ns.isEmpty || decide (4 < ns.length) || !noRepeats ns) = true ↔
      ¬(1 ≤ ns.length ∧ ns.length ≤ 4 ∧ ns.Nodup) := by
    rw [← noRepeats_iff, Nat.one_le_iff_ne_zero, ne_eq, List.length_eq_zero_iff]
    simp only [Bool.or_eq_true, List.isEmpty_iff, decide_eq_true_eq, Bool.not_eq_true', not_and_or, not_not, not_le,
      Bool.not_eq_true, or_assoc]
  have hconf : (s.toll.current.isNone || s.flightDims.isNone) = true ↔
      ¬(s.toll.current.isSome = true ∧ s.flightDims.isSome = true) := by
    cases s.toll.current <;> cases s.flightDims <;> simp
  have hpend : s.traffic.order.isSome = true ↔ s.traffic.order ≠ none := Option.isSome_iff_ne_none
  have hheld : (!(ns.all fun n => s.allPassages.any fun p => p.number == n)) = true ↔
      ∃ n ∈ ns, ∀ p ∈ s.allPassages, p.number ≠ n := by simp
  have hqueued : (!(ns.all fun n => (s.queued? n).isSome)) = true ↔ ∃ n ∈ ns, s.queued? n = none := by simp
  have hboth : ((s.orderRecords ns).any (fun p => p.direction == .up) &&
      (s.orderRecords ns).any fun p => p.direction == .down) = true ↔
      ∃ p ∈ s.orderRecords ns, ∃ q ∈ s.orderRecords ns, p.direction ≠ q.direction := by
    refine ⟨fun h => ?_, fun ⟨p, hp, q, hq, hne⟩ => ?_⟩
    · simp only [Bool.and_eq_true, List.any_eq_true, beq_iff_eq] at h
      obtain ⟨⟨p, hp, hup⟩, q, hq, hdown⟩ := h
      exact ⟨p, hp, q, hq, by rw [hup, hdown]; decide⟩
    · by_contra h
      exact hne (oneDirection_of_not_both h p hp q hq)
  have hfits : (!s.orderFits ns) = true ↔ s.orderFits ns = false := by simp
  unfold State.orderRefusal
  dsimp only
  simp only [hsized, hconf, hpend, hheld, hqueued, hboth, hfits]

/-- The records named, when they are `ps` in order. -/
theorem State.orderRecords_of_map {ps : List Passage} (h : ns.map s.queued? = ps.map some) : s.orderRecords ns = ps := by
  have hmap : s.orderRecords ns = (ns.map s.queued?).filterMap id := by rw [List.filterMap_map]; rfl
  rw [hmap, h, List.filterMap_map]
  exact List.filterMap_some

theorem State.orderFits_iff {dims : FlightDims} {ps : List Passage} (hdims : s.flightDims = some dims)
    (h : ns.map s.queued? = ps.map some) : s.orderFits ns = true ↔
      (∀ p ∈ ps, s.unfit p.length p.beam p.draught = none) ∧ batchLength s.traffic.spacing ps ≤ dims.usable := by
  have hlen : ps.length = ns.length := by simpa using (congrArg List.length h).symm
  have hset : s.setFits ps = decide (batchLength s.traffic.spacing ps ≤ dims.usable) := by rw [State.setFits, hdims]
  simp only [State.orderFits, State.orderRecords_of_map h, hset, hlen, State.eligible, Bool.and_eq_true, List.all_eq_true,
    decide_eq_true_eq, Option.isNone_iff_eq_none, true_and]

/-! ### An order that is not refused -/

/-- The state with the order pending. -/
def State.ordered (s : State) (ns : List Nat) : State :=
  s.setTraffic { s.traffic with order := some { passages := ns, direction := s.orderDirection ns } }

theorem orderRequest_taken (h : s.orderRefusal ns = none) : orderRequest ns s =
    accept (s.ordered ns).evaluateAdmission.orderReply (s.ordered ns).evaluateAdmission.finish := by
  simp only [orderRequest, h]
  rfl

theorem State.ordered_evaluate (h : s.OrderTaken ns) : (s.ordered ns).evaluateAdmission =
    if s.orderOpen { passages := ns, direction := s.orderDirection ns } = true then
      (s.ordered ns).discardOrder.admitBatch (s.orderDirection ns) (s.orderRecords ns)
    else s.ordered ns := by
  have hmode : (s.ordered ns).traffic.mode = .keeper := h.mode
  have hfits : (s.ordered ns).orderFits ns = true := h.fits
  rw [State.evaluateAdmission, hmode]
  exact if_pos hfits

/-- The traffic once the order of `ns` is admitted as the batch `x`. -/
def State.orderedTraffic (s : State) (ns : List Nat) (x : Batch) : Traffic :=
  { s.traffic.withQueue x.direction (leftBehind s.traffic.skipLimit ns (s.queueOf x.direction)) with
    order := none
    batches := s.traffic.batches ++ [x]
    nextBatch := nextNumber 255 x.number
    lastDirection := some x.direction
    consecutive := if s.traffic.lastDirection = some x.direction then min 255 (s.traffic.consecutive + 1) else 1 }

/-- The state an order admitted leaves at once. -/
theorem State.ordered_admits {e : Edition} (h : s.OrderTaken ns) (he : s.toll.current = some e)
    (hopen : s.orderOpen { passages := ns, direction := s.orderDirection ns } = true) {x : Batch}
    (hx : x = s.newBatch (s.orderDirection ns) e (s.orderRecords ns)) : ∃ notices, (s.ordered ns).evaluateAdmission =
      State.withNotices { s with traffic := s.orderedTraffic ns x } notices := by
  obtain ⟨notices, hn⟩ := (s.ordered ns).discardOrder.admitBatch_some (d := s.orderDirection ns)
    (ms := s.orderRecords ns) he
  refine ⟨notices, ?_⟩
  rw [State.ordered_evaluate h, if_pos hopen, hn, hx]
  have hnames := State.orderRecords_numbers h.queued
  rw [State.admittedTraffic, hnames]
  cases hd : s.orderDirection ns <;> simp only [State.orderedTraffic, State.newBatch, hd] <;> rfl

theorem State.orderedTraffic_queueOf {u : State} {x : Batch} {d : Direction} {up dn : Bool}
    (hu : u.traffic = { s.orderedTraffic ns x with
      batches := u.traffic.batches, nearUp := up, nearDown := dn }) : u.queueOf d =
      if d = x.direction then leftBehind s.traffic.skipLimit ns (s.queueOf x.direction) else s.queueOf d := by
  rw [← s.queueOf_withQueue]
  have hqueue : ∀ (T : Traffic), u.traffic = T → u.queueOf d = match d with | .up => T.up | .down => T.down := by
    rintro T rfl
    cases d <;> rfl
  rw [hqueue _ hu]
  cases d <;> rfl

theorem State.orderOpen_length {o : KeeperOrder} (h : s.orderOpen o = true) : s.traffic.batches.length ≤ 1 := by
  obtain ⟨-, -, htable | ⟨b, hlead, -⟩⟩ := s.orderOpen_spec h
  · rw [htable]
    exact Nat.zero_le 1
  · obtain ⟨htable, -⟩ := s.leader_eq_some hlead
    rw [htable]
    exact Nat.le_refl 1

theorem State.settlesTo.traffic {u t : State} (h : u.settlesTo t) :
    t.traffic = { u.traffic with nearUp := t.traffic.nearUp, nearDown := t.traffic.nearDown } :=
  congrArg (·.traffic) h.1

theorem State.settlesTo.order_none {u t : State} (h : u.settlesTo t) (hu : u.traffic.order = none) :
    t.traffic.order = none :=
  (congrArg Traffic.order h.traffic).trans hu

theorem State.newBatch_young (s : State) (d : Direction) (e : Edition) (ms : List Passage) : (s.newBatch d e ms).Young :=
  ⟨rfl, rfl, .inl rfl, rfl, nofun⟩

/-- From a calm state, an order admitted leaves its batch the one to go on with. -/
theorem State.ordered_attends {u : State} {x : Batch} {notices : List Notice} (hcalm : s.calm)
    (hu : u = State.withNotices { s.popRequest with traffic := s.popRequest.orderedTraffic ns x } notices) :
    u.Attends { s.orderedTraffic ns x with batches := s.traffic.batches } s.receipts x.number x := by
  have hhand : u.hand = { toRun := [], toHalt := [], retest := false, evaluate := false } := by
    rw [hu]
    exact hcalm.1
  have htraffic : u.traffic = s.orderedTraffic ns x := by
    rw [hu]
    rfl
  have hreceipts : u.receipts = s.receipts := by
    rw [hu]
    rfl
  refine ⟨rfl, htraffic, hreceipts, by rw [hhand], by rw [hhand], fun e he => ?_⟩
  rw [hhand] at he
  exact absurd he List.not_mem_nil

/-- Settles O46: the rows of R122's table, and the batch that `State.Attends.finish` follows through the step that
admits it. -/
theorem keeperOrdersAreTested : Obligations.KeeperOrdersAreTested := by
  unfold Obligations.KeeperOrdersAreTested
  refine ⟨fun tag ns c s hc ht => ?_, fun ns s => ?_, fun tag ns s hnone ht hopen hcalm => ?_,
    fun tag ns s hnone ht hopen => ?_⟩
  · refine exec_request_replied (c := .orderBatch tag ns) rfl ht (some c) [] rfl ?_
    have hrefused : s.popRequest.orderRefusal ns = some c := hc
    change orderRequest ns s.popRequest = _
    simp only [orderRequest, hrefused]
    rfl
  · intro sized configured
    have heq := s.orderRefusal_eq ns
    refine ⟨fun h => ?_, fun h hmode => ?_, fun h hmode hconf => ?_, fun h hmode hconf ho => ?_,
      fun h hmode hconf ho hheld => ?_, fun h hmode hconf ho hheld hq => ?_, fun dims ps h hmode hc hd ho hps => ?_⟩
    · rw [heq, if_pos h]
    · rw [heq, if_neg (not_not.2 h), if_pos hmode]
    · rw [heq, if_neg (not_not.2 h), if_neg (not_not.2 hmode), if_pos hconf]
    · rw [heq, if_neg (not_not.2 h), if_neg (not_not.2 hmode), if_neg (not_not.2 hconf), if_pos ho]
    · rw [heq, if_neg (not_not.2 h), if_neg (not_not.2 hmode), if_neg (not_not.2 hconf), if_neg (not_not.2 ho),
        if_pos hheld]
    · have hall : ¬∃ n ∈ ns, ∀ p ∈ s.allPassages, p.number ≠ n := fun ⟨n, hn, hno⟩ => by
        obtain ⟨p, hp, hpn⟩ := hheld n hn
        exact hno p hp hpn
      rw [heq, if_neg (not_not.2 h), if_neg (not_not.2 hmode), if_neg (not_not.2 hconf), if_neg (not_not.2 ho),
        if_neg hall, if_pos hq]
    · have hqueued : ∀ n ∈ ns, ∃ p, s.queued? n = some p := fun n hn => by
        obtain ⟨p, -, hp⟩ := List.mem_map.1 (hps ▸ List.mem_map_of_mem hn)
        exact ⟨p, hp.symm⟩
      have hall : ¬∃ n ∈ ns, ∀ p ∈ s.allPassages, p.number ≠ n := fun ⟨n, hn, hno⟩ => by
        obtain ⟨p, hp⟩ := hqueued n hn
        exact hno p (List.mem_append_left _ (List.mem_of_find?_eq_some hp)) (State.queued?_some hp).1
      have hnot : ¬∃ n ∈ ns, s.queued? n = none := fun ⟨n, hn, hno⟩ => by
        obtain ⟨p, hp⟩ := hqueued n hn
        rw [hp] at hno
        exact nomatch hno
      have hrest : s.orderRefusal ns = if ∃ p ∈ ps, ∃ q ∈ ps, p.direction ≠ q.direction then some .badValue
          else if s.orderFits ns = false then some .doesNotFit
          else if s.freeSlots < ns.length then some .receiptsFull else none := by
        rw [heq, if_neg (not_not.2 h), if_neg (not_not.2 hmode), if_neg (not_not.2 ⟨hc, by rw [hd]; rfl⟩),
          if_neg (not_not.2 ho), if_neg hall, if_neg hnot, State.orderRecords_of_map hps]
      refine ⟨fun hboth => by rw [hrest, if_pos hboth], fun hone => ⟨fun hunfit => ?_, fun hfit hlen => ?_⟩⟩
      · have hno : ¬∃ p ∈ ps, ∃ q ∈ ps, p.direction ≠ q.direction := fun ⟨p, hp, q, hq, hne⟩ => hne (hone p hp q hq)
        rw [hrest, if_neg hno, if_pos (Bool.eq_false_iff.2 fun hf => ?_)]
        obtain ⟨hall, hlen⟩ := (State.orderFits_iff hd hps).1 hf
        rcases hunfit with ⟨p, hp, hne⟩ | hlong
        · exact hne (hall p hp)
        · exact Nat.not_lt.2 hlen hlong
      · have hno : ¬∃ p ∈ ps, ∃ q ∈ ps, p.direction ≠ q.direction := fun ⟨p, hp, q, hq, hne⟩ => hne (hone p hp q hq)
        rw [hrest, if_neg hno, if_neg (by rw [(State.orderFits_iff hd hps).2 ⟨hfit, hlen⟩]; exact nofun)]
  · have htaken : s.popRequest.OrderTaken ns := State.orderTaken_of_refusal (s := s.popRequest) hnone
    have hstay : (s.popRequest.ordered ns).evaluateAdmission = s.popRequest.ordered ns := by
      rw [State.ordered_evaluate htaken]
      exact if_neg (by rw [show s.popRequest.orderOpen { passages := ns, direction := s.popRequest.orderDirection ns } =
        false from hopen]; exact nofun)
    have hact := orderRequest_taken (s := s.popRequest) hnone
    rw [hstay] at hact
    obtain ⟨t, hexec, hfixed, hreply, -, hsettles⟩ := exec_request_finished (c := .orderBatch tag ns) rfl ht rfl hact
    have hset := hsettles (State.quiet_of_tasks hcalm rfl)
    rw [show (s.popRequest.ordered ns).emptied = s.popRequest.ordered ns from State.emptied_of_calm hcalm rfl] at hset
    exact ⟨t, hexec, hfixed, hreply, hset⟩
  · have htaken : s.popRequest.OrderTaken ns := State.orderTaken_of_refusal (s := s.popRequest) hnone
    obtain ⟨e, he⟩ := Option.isSome_iff_exists.1 htaken.tariff
    have hnext := State.nextBatchNumber_newBatch (State.orderOpen_length hopen) (s.orderDirection ns) e (s.orderRecords ns)
    have hyoung := s.newBatch_young (s.orderDirection ns) e (s.orderRecords ns)
    have hbatch := s.newBatch_eq (s.orderDirection ns) e (s.orderRecords ns)
    obtain ⟨x, hx⟩ : ∃ x, x = s.newBatch (s.orderDirection ns) e (s.orderRecords ns) := ⟨_, rfl⟩
    obtain ⟨notices, hadm⟩ := State.ordered_admits htaken he hopen hx
    rw [← hx] at hnext hyoung hbatch
    have hact := orderRequest_taken (s := s.popRequest) hnone
    have hfix : (s.popRequest.ordered ns).evaluateAdmission.fixed = s.popRequest.fixed := State.evaluateAdmission_fixed _
    generalize (s.popRequest.ordered ns).evaluateAdmission = u at hact hadm hfix
    have hreply' : u.orderReply = [num 1 0, opt 2 (some x.number)] := by
      rw [hadm]
      exact congrArg (fun o : Option Batch => [num 1 0, opt 2 (o.map (·.number))]) List.getLast?_concat
    rw [hreply'] at hact
    obtain ⟨t, hexec, hfixed, hreply, hset, -⟩ := exec_request_finished (c := .orderBatch tag ns) rfl ht rfl hact
    refine ⟨t, x.number, hexec, hfixed.trans hfix, hreply, hnext, ?_, fun hcalm => ?_⟩
    · have horder : u.traffic.order = none := by rw [hadm]; rfl
      exact hset.order_none (State.finish_order_none horder)
    · have hatt := State.ordered_attends hcalm hadm
      obtain ⟨v, ⟨y, ⟨hybec, hy⟩, hv⟩, hvset⟩ := hatt.finish hnext.1 hcalm.2 hyoung
      have htraffic := (State.settlesTo_trans hvset hset).traffic
      rw [hv.traffic] at htraffic
      have hqueue : ∀ d, t.queueOf d =
          if d = x.direction then leftBehind s.traffic.skipLimit ns (s.queueOf x.direction) else s.queueOf d := by
        refine fun d => State.orderedTraffic_queueOf (up := t.traffic.nearUp) (dn := t.traffic.nearDown) ?_
        rw [htraffic]
      have hdir : y.direction = x.direction := by rw [hy]
      refine ⟨e, y, he, congrArg Traffic.batches htraffic, by rw [hy], ?_⟩
      have hnumbers : y.members.map (·.number) = ns := by
        have hmembers : y.members = admitAll x.number 1 (s.orderRecords ns) := by
          rw [hy, hx]
          rfl
        rw [hmembers, admitAll_numbers]
        exact State.orderRecords_numbers htaken.queued
      have hyx : y = { x with
          reasons := y.reasons, position := y.position, moved := y.moved, preparation := y.preparation
          meter := y.meter, step := y.step } := hy
      rw [hbatch] at hyx
      obtain ⟨hmoved, -, -, hstep, -⟩ := hybec hyoung
      have hxd : x.direction = s.orderDirection ns := by rw [hx]; rfl
      rw [hdir, hxd]
      rw [hxd] at hqueue
      refine ⟨rfl, by rw [hyx], hnumbers, by rw [hyx], by rw [hyx], by rw [hyx], by rw [hyx], hmoved, by rw [hyx],
        by rw [hyx], hstep, (hqueue _).trans (if_pos rfl), (hqueue _).trans (if_neg ?_), ?_, ?_, ?_⟩
      · cases s.orderDirection ns <;> decide
      · rw [htraffic, ← hxd]
        rfl
      · rw [htraffic, ← hxd]
        rfl
      · rw [htraffic]
        rfl

end

end Sys2Proof.Machine
end

section
/-! RECEIPTS RELEASED: RELEASE RECEIPTS, SET RECEIPT MARGIN and the repeat timer; a release may let one batch into the
table, and that batch completes in no such step (O53). -/

namespace Sys2Proof.Machine

/-! ### What a release finds and leaves -/

theorem releaseUpTo_append {day n : Nat} {r : Receipt} {rest : List Receipt} (hd : r.day = day) (hn : r.number = n)
    {older : List Receipt} (h : ∀ x ∈ older, ¬(x.day = day ∧ x.number = n)) :
    releaseUpTo day n (older ++ r :: rest) = some rest := by
  induction older with
  | nil => exact if_pos ⟨hd, hn⟩
  | cons x older ih =>
    rw [List.cons_append, releaseUpTo, if_neg (h x List.mem_cons_self)]
    exact ih fun y hy => h y (List.mem_cons_of_mem x hy)

theorem releaseUpTo_none {day n : Nat} {q : List Receipt} (h : ∀ x ∈ q, ¬(x.day = day ∧ x.number = n)) :
    releaseUpTo day n q = none := by
  induction q with
  | nil => rfl
  | cons x q ih =>
    rw [releaseUpTo, if_neg (h x List.mem_cons_self)]
    exact ih fun y hy => h y (List.mem_cons_of_mem x hy)

theorem receiptNamed {day n : Nat} (h1 : 1 ≤ day) (h2 : day ≤ 9999) (h3 : 1 ≤ n) (h4 : n ≤ 999999) :
    (!(between 1 9999 day && between 1 Config.receiptNumbers n)) = false := by
  simp [between, h1, h2, h3, show n ≤ Config.receiptNumbers from h4]

/-- The state whose receipts are those not released, their near-full indication evaluated. -/
def State.released (s : State) (rest : List Receipt) : State :=
  { s with receipts := receiptsEvaluated { s.receipts with queue := rest } s.now }

theorem State.release_eq (s : State) (rest : List Receipt) : ∃ ns, s.release rest =
    (State.withNotices { s.released rest with
      receipts := { (s.released rest).receipts with hold := decide ((s.released rest).freeSlots = 0) } } ns).markAdmit := by
  obtain ⟨n1, h1⟩ := ({ s with receipts := { s.receipts with queue := rest } } : State).evaluateReceipts_spec
  obtain ⟨n2, h2⟩ := (State.withNotices (s.released rest) n1).evaluateHold_spec
  refine ⟨n2, ?_⟩
  rw [State.release, h1]
  exact congrArg State.markAdmit h2

/-! ### The rest of the step -/

theorem State.evaluateAdmission_cases (s : State) : s.evaluateAdmission = s ∨ s.evaluateAdmission = s.discardOrder ∨
    ∃ u d ms e ns, Admits s u d ms ∧ s.toll.current = some e ∧
      s.evaluateAdmission = State.withNotices { u with traffic := u.admittedTraffic d e ms } ns := by
  have hadmit : ∀ {u d ms}, Admits s u d ms → u.toll.current = s.toll.current → (u = s ∨ u = s.discardOrder) →
      s.evaluateAdmission = u.admitBatch d ms → s.evaluateAdmission = s ∨ s.evaluateAdmission = s.discardOrder ∨
      ∃ u d ms e ns, Admits s u d ms ∧ s.toll.current = some e ∧
        s.evaluateAdmission = State.withNotices { u with traffic := u.admittedTraffic d e ms } ns := by
    intro u d ms ha hcur hu heval
    cases he : s.toll.current with
    | none =>
      have hsame : u.admitBatch d ms = u := by rw [State.admitBatch, hcur, he]
      rw [heval, hsame]
      exact hu.imp id .inl
    | some e =>
      obtain ⟨ns, h⟩ := u.admitBatch_some (d := d) (ms := ms) (hcur.trans he)
      exact .inr (.inr ⟨u, d, ms, e, ns, ha, rfl, heval.trans h⟩)
  cases hmode : s.traffic.mode with
  | closed => exact .inl (by rw [State.evaluateAdmission, hmode])
  | keeper =>
    cases ho : s.traffic.order with
    | none => exact .inl (by simp only [State.evaluateAdmission, hmode, ho])
    | some o =>
      have heval : s.evaluateAdmission = s.testOrder o := by simp only [State.evaluateAdmission, hmode, ho]
      by_cases hfits : s.orderFits o.passages = true
      · by_cases hopen : s.orderOpen o = true
        · exact hadmit (.order o ho hfits hopen) rfl (.inr rfl)
            (heval.trans ((if_pos hfits).trans (if_pos hopen)))
        · exact .inl (heval.trans ((if_pos hfits).trans (if_neg hopen)))
      · exact .inr (.inl (heval.trans (if_neg hfits)))
  | automatic =>
    by_cases hopen : s.admissionOpen = true
    · cases hauto : s.automaticBatch with
      | none => exact .inl (by simp only [State.evaluateAdmission, hmode, if_pos hopen, hauto])
      | some p =>
        obtain ⟨d, ms⟩ := p
        exact hadmit (.automatic hauto hmode) rfl (.inl rfl) (State.evaluateAdmission_automatic hmode hopen hauto)
    · exact .inl (by simp only [State.evaluateAdmission, hmode, if_neg hopen])

/-- A step that has an evaluation at most to hand over, or is at work for the batch the evaluation let in. -/
def State.AtMostAdmits (R : Receipts) (s : State) : Prop :=
  (s.receipts = R ∧ s.hand.toRun = [] ∧ s.hand.toHalt = [] ∧
      ∀ b ∈ s.traffic.batches, b.suspended = true ∨ b.phase? ≠ some .claiming) ∨
    ∃ T n x, (∀ b ∈ (T : Traffic).batches, b.number ≠ n ∧ (b.suspended = true ∨ b.phase? ≠ some .claiming)) ∧
      x.Young ∧ s.Attends T R n x

section

variable {R : Receipts} {s t : State}

theorem State.AtMostAdmits.causes (h : s.AtMostAdmits R) : s.hand.toHalt = [] := by
  rcases h with ⟨-, -, hcauses, -⟩ | ⟨_, _, _, -, -, h⟩
  · exact hcauses
  · exact h.causes

theorem State.AtMostAdmits.receipts (h : s.AtMostAdmits R) : s.receipts = R := by
  rcases h with ⟨hr, -⟩ | ⟨_, _, _, -, -, h⟩
  · exact hr
  · exact h.receipts

theorem State.AtMostAdmits.evaluates (hr : s.receipts = R) (hrun : s.hand.toRun = []) (hhalt : s.hand.toHalt = [])
    (heval : s.hand.evaluate = false)
    (hwait : ∀ b ∈ s.traffic.batches, b.suspended = true ∨ b.phase? ≠ some .claiming) :
    s.evaluateAdmission.AtMostAdmits R := by
  rcases s.evaluateAdmission_cases with h | h | ⟨u, d, ms, e, ns, ha, -, h⟩
  · rw [h]
    exact .inl ⟨hr, hrun, hhalt, hwait⟩
  · rw [h]
    exact .inl ⟨hr, hrun, hhalt, hwait⟩
  · have hu : u.traffic.batches = s.traffic.batches ∧ u.hand = s.hand ∧ u.receipts = s.receipts ∧
        u.traffic.batches.length ≤ 1 := by
      cases ha with
      | automatic hauto => exact ⟨rfl, rfl, rfl, State.automaticBatch_length hauto⟩
      | order o ho hf hopen => exact ⟨rfl, rfl, rfl, State.orderOpen_length hopen⟩
    obtain ⟨hub, huh, hur, hlen⟩ := hu
    have hnext := State.nextBatchNumber_newBatch hlen d e ms
    have hyoung := u.newBatch_young d e ms
    have htraffic : s.evaluateAdmission.traffic = { u.admittedTraffic d e ms with
        batches := u.traffic.batches ++ [u.newBatch d e ms] } := by
      rw [h]
      rfl
    have hhand : s.evaluateAdmission.hand = s.hand := by
      rw [h]
      exact huh
    have hreceipts : s.evaluateAdmission.receipts = R := by
      rw [h]
      exact hur.trans hr
    generalize u.newBatch d e ms = x at hnext hyoung htraffic
    refine .inr ⟨{ u.admittedTraffic d e ms with batches := u.traffic.batches }, x.number, x,
      fun b hb => ⟨hnext.1 b hb, hwait b (hub ▸ hb)⟩, hyoung, rfl, htraffic, hreceipts, ?_, ?_, fun e he => ?_⟩
    · rw [hhand, hhalt]
    · rw [hhand, heval]
    · rw [hhand, hrun] at he
      exact absurd he List.not_mem_nil

theorem State.AtMostAdmits.round (h : s.AtMostAdmits R) (hround : s.settleOne = some t) : t.AtMostAdmits R := by
  rcases h with ⟨hr, hrun, hhalt, hwait⟩ | ⟨T, n, x, hold, hyoung, ha⟩
  · rcases State.settleOne_cases hround with ⟨e, rest, he, -⟩ | ⟨-, ⟨b, hb, -⟩ | ⟨-, rfl⟩ | ⟨-, rfl⟩⟩
    · rw [hrun] at he
      exact nomatch he
    · have hclaim := List.find?_some hb
      rcases hwait b (List.mem_of_find?_eq_some hb) with hs | hp
      · simp [State.canClaim, hs] at hclaim
      · simp [State.canClaim, hp] at hclaim
    · exact .evaluates hr hrun hhalt rfl hwait
    · generalize hu : ({ s with hand := { s.hand with retest := false } } : State) = u
      have hd := u.retest_duty
      have hl := u.retest_ledger
      have hbatches : u.retest.traffic.batches = u.traffic.batches := congrArg Duty.batches hd
      refine .inl ⟨(congrArg Prod.snd hl).trans ?_, (congrArg Duty.events hd).trans ?_,
        (congrArg Duty.causes hd).trans ?_, fun b hb => hwait b ?_⟩
      · rw [← hu]
        exact hr
      · rw [← hu]
        exact hrun
      · rw [← hu]
        exact hhalt
      · rwa [hbatches, ← hu] at hb
  · obtain ⟨y, hy, hat⟩ := ha.round (fun b hb => (hold b hb).1) (fun b hb => (hold b hb).2) hyoung hround
    exact .inr ⟨T, n, y, hold, hy.1 hyoung, hat⟩

/-- The end of such a step leaves the receipts but for their hold. -/
theorem State.AtMostAdmits.finish (h : s.AtMostAdmits R) : s.finish.receipts = { R with hold := s.finish.receipts.hold } := by
  have hloop : ∀ {u : State}, u.AtMostAdmits R → (State.settleLoop settleFuel u).AtMostAdmits R := fun hu =>
    State.settleLoop_keeps (fun _ _ hround hi => hi.round hround) settleFuel _ hu
  have hset : (State.settleLoop settleFuel (State.settleLoop settleFuel s)).settlesTo s.finish := by
    rw [State.finish_eq, State.takeCauses_of_none (hloop h).causes, State.takeCauses_of_none (hloop (hloop h)).causes]
    exact State.settlesTo_trans (State.settlesTo_deriveFaces _) (State.settlesTo_indications _)
  have hreceipts := (hloop (hloop h)).receipts
  generalize s.finish = t at hset
  have := congrArg (·.receipts) hset.1
  dsimp only at this
  rw [this, hreceipts]

end

/-! ### RELEASE RECEIPTS (R170) -/

theorem releaseRequest_taken {s : State} {day n : Nat} {rest : List Receipt}
    (hnamed : (!(between 1 9999 day && between 1 Config.receiptNumbers n)) = false)
    (h : releaseUpTo day n s.receipts.queue = some rest) : releaseRequest day n s =
      accept [num 1 (s.receipts.queue.length - rest.length), num 1 rest.length, num 1 (s.release rest).freeSlots]
        (s.release rest).finish := by
  simp only [releaseRequest, hnamed, h, Bool.false_eq_true, if_false]

theorem releaseRequest_refused {s : State} {day n : Nat}
    (hnamed : (!(between 1 9999 day && between 1 Config.receiptNumbers n)) = false)
    (h : releaseUpTo day n s.receipts.queue = none) : releaseRequest day n s = refuse .noSuchReceipt s := by
  simp only [releaseRequest, hnamed, h, Bool.false_eq_true, if_false]

theorem release_taken {tag : Octet} {day n : Nat} {older rest : List Receipt} {r : Receipt} {s : State}
    (hnamed : (!(between 1 9999 day && between 1 Config.receiptNumbers n)) = false)
    (ht : s.takesRequest (.releaseReceipts tag day n) = true) (hq : s.receipts.queue = older ++ r :: rest)
    (hfound : releaseUpTo day n s.receipts.queue = some rest) :
    ∃ t, exec (.releaseReceipts tag day n) s = .next t ∧
      t.fixed = { s.fixed with order := s.console.order.drop 1 } ∧ rest <+: t.receipts.queue ∧
      (s.calm → t.receipts =
        { receiptsEvaluated { s.receipts with queue := rest } s.now with hold := t.receipts.hold }) ∧
      t.receipts.hold = decide (t.freeSlots = 0) ∧
      (s.calm → s.admitsNothing → (s.popRequest.released rest).settlesTo t) ∧
      t.replyIs tag 0xC2#8 none [num 1 (older.length + 1), num 1 rest.length,
        num 1 (min (64 - rest.length - s.reserved) s.numbersLeft)] := by
  obtain ⟨ns, hrelease⟩ := s.popRequest.release_eq rest
  have hact := releaseRequest_taken (s := s.popRequest) hnamed hfound
  have hlen : s.popRequest.receipts.queue.length - rest.length = older.length + 1 := by
    rw [show s.popRequest.receipts.queue = older ++ r :: rest from hq, List.length_append, List.length_cons]
    omega
  have hfree : (s.popRequest.release rest).freeSlots = min (64 - rest.length - s.reserved) s.numbersLeft := by
    rw [hrelease]
    rfl
  rw [hlen, hfree] at hact
  have hfixed' : (s.popRequest.release rest).fixed = { s.fixed with order := s.console.order.drop 1 } := by
    rw [hrelease]
    rfl
  have hqueue : (s.popRequest.release rest).receipts.queue = rest := by
    rw [hrelease]
    rfl
  obtain ⟨t, hexec, hfixed, hreply, hset, hsettles⟩ := exec_request_finished (c := .releaseReceipts tag day n) rfl ht rfl hact
  obtain ⟨htraffic, hreceipts, htoll, -⟩ := exec_request_frame (c := .releaseReceipts tag day n) rfl ht hact hexec
  refine ⟨t, hexec, hfixed.trans hfixed', ?_, fun hcalm => ?_, ?_, fun hcalm hadm => ?_, hreply⟩
  · have hgrows := (Deeds.finish (s := s.popRequest.release rest) .refl).receipts_prefix
    rwa [hqueue, ← hreceipts] at hgrows
  · have hat : (s.popRequest.release rest).AtMostAdmits (s.popRequest.release rest).receipts := by
      have hhand := hcalm.1
      refine .inl ⟨rfl, ?_, ?_, ?_⟩
      · rw [hrelease]
        exact congrArg HandOvers.toRun hhand
      · rw [hrelease]
        exact congrArg HandOvers.toHalt hhand
      · rw [hrelease]
        exact hcalm.2
    have hend := hat.finish
    rw [← hreceipts] at hend
    rw [hend, hrelease]
    rfl
  · have hhold := (s.popRequest.release rest).finish_hold
    generalize (s.popRequest.release rest).finish = u at hhold htraffic hreceipts htoll
    have hslots : t.freeSlots = u.freeSlots := by
      simp only [State.freeSlots, State.numbersLeft, State.reserved, htraffic, hreceipts, htoll]
    rw [hreceipts, hhold, hslots]
  · rw [hrelease] at hsettles
    exact State.settlesTo_sameWork (base := s.popRequest.released rest) hcalm rfl hcalm.2
      (State.admitsNothing_congr rfl rfl rfl hadm) ⟨rfl, fun _ => ⟨rfl, rfl, rfl⟩, fun _ => rfl⟩
      ⟨rfl, rfl, State.admitsNothing_congr rfl rfl rfl⟩ hsettles

/-! ### SET RECEIPT MARGIN and the repeat timer (R168) -/

theorem State.noticeReceipts_eq (s : State) :
    s.noticeReceipts = { s with console := { s.console with notices := s.receiptNotices } } := by
  have hfield : nearFullField s.receipts.nearFull = num 1 (if s.receipts.nearFull then 0 else 1) := by
    cases s.receipts.nearFull <;> rfl
  unfold State.noticeReceipts State.notify State.receiptNotices
  rw [hfield]
  cases hmask : s.console.mask.accounts
  · rw [if_neg (by rw [show noticeEnabled s.console.mask .receiptsNearFull = s.console.mask.accounts from rfl, hmask]; decide)]
    rfl
  · rw [if_pos (show noticeEnabled s.console.mask .receiptsNearFull = true from hmask)]
    rfl

/-- The near-full indication evaluated, its notice raised exactly when it changes. -/
theorem State.evaluateReceipts_eq (s : State) : s.evaluateReceipts = { s with
    receipts := receiptsEvaluated s.receipts s.now
    console := { s.console with
      notices := if decide (64 - s.receipts.margin ≤ s.receipts.queue.length) = s.receipts.nearFull then s.console.notices
        else ({ s with receipts := receiptsEvaluated s.receipts s.now } : State).receiptNotices } } := by
  have hthreshold : decide (s.receiptThreshold ≤ s.receipts.queue.length) =
      decide (64 - s.receipts.margin ≤ s.receipts.queue.length) := rfl
  unfold State.evaluateReceipts
  dsimp only
  rw [hthreshold]
  by_cases h : decide (64 - s.receipts.margin ≤ s.receipts.queue.length) = s.receipts.nearFull
  · have hsame : receiptsEvaluated s.receipts s.now = s.receipts := by simp only [receiptsEvaluated, h, if_true]
    rw [if_pos h, if_pos h, hsame]
  · have hnew : receiptsEvaluated s.receipts s.now = { s.receipts with
        nearFull := decide (64 - s.receipts.margin ≤ s.receipts.queue.length)
        repeatTimer := if decide (64 - s.receipts.margin ≤ s.receipts.queue.length) then
          some (s.after Config.receiptsRepeat) else none } := by
      simp only [receiptsEvaluated, h, if_false]
      rfl
    rw [if_neg h, if_neg h, State.noticeReceipts_eq, hnew]

theorem setReceiptMargin_taken {tag : Octet} {v : Nat} {s u : State} (ht : s.takesRequest (.setReceiptMargin tag v) = true)
    (hu : u = { s with receipts := receiptsEvaluated { s.receipts with margin := min 63 v } s.now }) :
    exec (.setReceiptMargin tag v) s = .next (s.answering
      { u with console := { s.console with
          notices := if decide (64 - min 63 v ≤ s.receipts.queue.length) = s.receipts.nearFull then s.console.notices
            else u.receiptNotices } }
      tag 0xC0#8 none [num 1 (min 63 v)]) := by
  have hclamp : clampReceiptMargin v = min 63 v := by
    rw [clampReceiptMargin, clampTo_eq_max_min (by decide), Nat.zero_max]
  subst hu
  refine exec_request_answering (c := .setReceiptMargin tag v) rfl ht _ none _ rfl ?_ rfl rfl
  change receiptMarginRequest v s.popRequest = _
  rw [receiptMarginRequest, hclamp]
  dsimp only
  rw [State.evaluateReceipts_eq]
  rfl

theorem receiptsRepeat_expires {e : Nat} {s : State} (hp : s.powered = true) (htimer : s.receipts.repeatTimer = some e) :
    exec .receiptsRepeatExpiry s = .next { s with
      now := max s.now e
      receipts := { s.receipts with repeatTimer := some (max s.now e + 100) }
      console := { s.console with notices := s.receiptNotices } } := by
  have hact : s.endReceiptsRepeat = { s with
      now := max s.now e
      receipts := { s.receipts with repeatTimer := some (max s.now e + 100) }
      console := { s.console with notices := s.receiptNotices } } := by
    simp only [State.endReceiptsRepeat, htimer, State.noticeReceipts_eq]
    rfl
  rw [exec_event (c := .receiptsRepeatExpiry) rfl, State.event_plain _ _ hp (by rw [hact]; rfl), hact]

/-- Settles O53: a release by the batch it may let in, the margin and the repeat timer by what they write. -/
theorem releaseRemovesTheOldestReceipts : Obligations.ReleaseRemovesTheOldestReceipts := by
  unfold Obligations.ReleaseRemovesTheOldestReceipts
  refine ⟨fun tag day n older rest r s h1 h2 h3 h4 ht hq hd hn hold => ?_, fun tag day n s h1 h2 h3 h4 ht hno => ?_,
    fun tag v m near s u ht hm hnear hu => ?_, fun e s hp htimer => ?_, fun s hnone => ?_⟩
  · obtain ⟨t, hexec, hrest⟩ := release_taken (receiptNamed h1 h2 h3 h4) ht hq (by rw [hq]; exact releaseUpTo_append hd hn hold)
    exact ⟨t, _, hexec, rfl, hrest⟩
  · exact exec_request_replied (c := .releaseReceipts tag day n) rfl ht (some .noSuchReceipt) [] rfl
      (releaseRequest_refused (s := s.popRequest) (receiptNamed h1 h2 h3 h4) (releaseUpTo_none hno))
  · subst hm hnear
    rw [hu]
    exact setReceiptMargin_taken ht rfl
  · exact receiptsRepeat_expires hp htimer
  · exact exec_event_idle (c := .receiptsRepeatExpiry) rfl (by rw [State.endReceiptsRepeat, hnone])

end Sys2Proof.Machine
end

section
/-! A REPORT OF WHAT IS ALREADY HELD: the positions, inputs and lamps that a report repeats leave the inputs, the fault
table, the causes and the lamps as they are. -/

namespace Sys2Proof.Machine

/-! ### What a repeated report leaves -/

/-- The line rate, what the stations are held to report of their inputs and lamps, the fault table, the causes handed
over, and all that no hand-over changes. -/
structure Posted where
  rate : LineRate
  inputs : Quad InputStates
  unrecorded : Quad InputFlags
  faults : List FaultRec
  causes : List HaltCause
  lamps : Face → Option Bool
  positions : Item → Option Position
  fixed : Fixed

def State.posted (s : State) : Posted :=
  { rate := s.line.rate, inputs := s.mach.inputs, unrecorded := s.mach.unrecorded, faults := s.mach.faults
    causes := s.hand.toHalt, lamps := fun f => (s.face f).lamp, positions := fun i => (s.item i).position
    fixed := s.fixed }

theorem State.posted_of {s t : State} (hs : t.steady = s.steady) (hf : t.fixed = s.fixed)
    (hfaults : t.mach.faults = s.mach.faults) (hcauses : t.hand.toHalt = s.hand.toHalt) : t.posted = s.posted := by
  have hseen : t.seen = s.seen := congrArg Steady.seen hs
  have hrate : t.line.rate = s.line.rate := congrArg Seen.rate hseen
  have hin : t.mach.inputs = s.mach.inputs := congrArg Seen.inputs hseen
  have hun : t.mach.unrecorded = s.mach.unrecorded := congrArg Seen.unrecorded hseen
  have hlamp : ∀ f, (t.face f).lamp = (s.face f).lamp := fun f => congrArg (·.2.1) (congrFun (congrArg Seen.faces hseen) f)
  have hpos : ∀ i, (t.item i).position = (s.item i).position := congrFun (congrArg Seen.positions hseen)
  simp only [State.posted, hrate, hin, hun, hfaults, hcauses, hlamp, hpos, hf]

theorem State.posted_of_duty {s t : State} (hs : t.steady = s.steady) (hf : t.fixed = s.fixed) (hd : t.duty = s.duty) :
    t.posted = s.posted :=
  State.posted_of hs hf (congrArg Duty.faults hd) (congrArg Duty.causes hd)

section

variable (s : State)

@[simp] theorem State.emit_posted (e : RunEvent) : (s.emit e).posted = s.posted := rfl
@[simp] theorem State.markRetest_posted : s.markRetest.posted = s.posted := rfl
@[simp] theorem State.markAlarm_posted : s.markAlarm.posted = s.posted := rfl

@[simp] theorem State.setMovement_posted (i : Item) (m : Option Movement) : (s.setMovement i m).posted = s.posted :=
  State.posted_of_duty (by simp) (by simp) (by simp)

@[simp] theorem State.placeFace_posted (f : Face) (a : Aspect) : (s.placeFace f a).posted = s.posted :=
  State.posted_of_duty (by simp) (by simp) (by simp)

@[simp] theorem State.handComplete_posted (i : Item) (m : Movement) : (s.handComplete i m).posted = s.posted := by
  unfold State.handComplete
  split <;> simp

@[simp] theorem State.reportMovement_posted (i : Item) (p : Position) : (s.reportMovement i p).posted = s.posted := by
  unfold State.reportMovement
  repeat' split
  all_goals simp

/-- A face's record with the lamp it had. -/
theorem State.setFace_posted (f : Face) {r : FaceRec} (h : r.lamp = (s.face f).lamp) : (s.setFace f r).posted = s.posted := by
  have hlamp : ∀ g, ((s.setFace f r).face g).lamp = (s.face g).lamp := by
    intro g
    rw [State.face_setFace]
    split
    · rename_i hg
      rw [hg, h]
    · rfl
  have hfixed : (s.setFace f r).fixed = s.fixed := State.setFace_fixed s f r
  simp only [State.posted, hlamp, hfixed]
  rfl

@[simp] theorem State.answerStopWait_posted (f : Face) : (s.answerStopWait f).posted = s.posted := by
  unfold State.answerStopWait
  repeat' split
  · rw [State.emit_posted]
    exact s.setFace_posted f rfl
  · rfl
  · rfl

end

/-! ### The positions of a report -/

section

variable {s : State} {k : Station} {r : StationReport}

theorem State.setItem_self (s : State) (i : Item) : s.setItem i (s.item i) = s := by
  unfold State.setItem
  have h : s.mach.items.set i (s.item i) = s.mach.items := by
    cases i with
    | gate k => cases k <;> rfl
    | sluice k => cases k <;> rfl
    | byWash w => cases w <;> rfl
  rw [h]

/-- A position already held starts nothing and is no uncommanded motion. -/
theorem State.reportPosition_repeats {i : Item} {p : Position} (h : (s.item i).position = some p) :
    s.reportPosition i p = if isGate i then (s.reportMovement i p).emit .gateReport else s.reportMovement i p := by
  have hstray : s.uncommanded i (some p) p = false := by simp [State.uncommanded]
  have hstarts : s.reportStarts i (some p) p = s := by
    have hmoves : (isMotion p && some p != some p) = false := by simp
    have hshuts : (p == .shut && leftShut (some p)) = false := by cases p <;> rfl
    rw [State.reportStarts_eq, hmoves, hshuts]
    cases i <;> rfl
  have hset : s.setItem i { s.item i with position := some p } = s := by
    rw [← h]
    exact s.setItem_self i
  unfold State.reportPosition
  dsimp only
  rw [h, hstarts, hset, hstray, if_pos rfl]
  exact congrArg (fun t => if isGate i then State.emit t .gateReport else t) (if_neg Bool.false_ne_true)

theorem State.reportPosition_posted {i : Item} {p : Position} (h : (s.item i).position = some p) :
    (s.reportPosition i p).posted = s.posted ∧ (s.reportPosition i p).mach.overload = s.mach.overload := by
  have hmove : (s.reportMovement i p).mach.overload = s.mach.overload := by
    unfold State.reportMovement State.handComplete
    repeat' split
    all_goals rfl
  rw [State.reportPosition_repeats h]
  split
  · exact ⟨by simp, hmove⟩
  · exact ⟨by simp, hmove⟩

theorem State.position_of_posted {s t : State} (h : t.posted = s.posted) (i : Item) :
    (t.item i).position = (s.item i).position := congrFun (congrArg Posted.positions h) i

theorem State.held_of_posted {s t : State} (h : t.posted = s.posted) (k : Station) (i : Input) :
    t.held k i = s.held k i := by
  rw [State.held, show t.mach.inputs = s.mach.inputs from congrArg Posted.inputs h]
  rfl

theorem State.lamp_of_posted {s t : State} (h : t.posted = s.posted) (f : Face) : (t.face f).lamp = (s.face f).lamp :=
  congrFun (congrArg Posted.lamps h) f

/-- A setting already held changes nothing. -/
theorem State.reportControl_repeats {v : Bool} (h : s.mach.inLocal.get k = v) : s.reportControl k v = s := by
  have hset : ({ s with mach := { s.mach with inLocal := s.mach.inLocal.set k v } } : State) = s := by
    rw [← h, Quad.set_get]
  unfold State.reportControl
  dsimp only
  rw [hset, h]
  exact if_neg (by cases v <;> decide)

/-- The setting and the positions of a report that repeats them. -/
theorem State.itemsRepeat_posted (h : s.itemsRepeat k r) :
    ((s.reportControl k r.inLocal).reportPositions k r).posted = s.posted ∧
      ((s.reportControl k r.inLocal).reportPositions k r).mach.overload = s.mach.overload := by
  obtain ⟨hlocal, hgate, hsluice, hwash⟩ := h
  rw [State.reportControl_repeats hlocal]
  obtain ⟨h1, o1⟩ := State.reportPosition_posted hgate
  obtain ⟨h2, o2⟩ := State.reportPosition_posted ((State.position_of_posted h1 _).trans hsluice)
  unfold State.reportPositions
  dsimp only
  split
  · rename_i w p hw hp
    obtain ⟨h3, o3⟩ := State.reportPosition_posted
      ((State.position_of_posted (h2.trans h1) (.byWash w)).trans ((hwash w hw).trans hp))
    exact ⟨h3.trans (h2.trans h1), o3.trans (o2.trans o1)⟩
  · exact ⟨h2.trans h1, o2.trans o1⟩

/-! ### Its inputs -/

theorem State.applyInput_repeats {i : Input} {v : Bool} (h : s.held k i = some v) : s.applyInput k i v = s := by
  have hset : s.setHeld k i (some v) = s := by
    rw [← h]
    unfold State.setHeld State.held
    have hsame : setInputState (s.mach.inputs.get k) i (inputState (s.mach.inputs.get k) i) = s.mach.inputs.get k := by
      cases i <;> rfl
    rw [hsame, Quad.set_get]
  unfold State.applyInput
  dsimp only
  rw [hset]
  exact if_pos h

theorem State.takeOverload_posted {v : Bool} (h : s.held k .overload = some v) : (s.takeOverload k v).posted = s.posted := by
  unfold State.takeOverload
  split
  · rfl
  · rw [State.applyInput_repeats h]

theorem inputState_setInputState {i j : Input} (x : InputStates) (v : Option Bool) (h : j ≠ i) :
    inputState (setInputState x i v) j = inputState x j := by
  revert h
  cases i <;> cases j <;> simp [inputState, setInputState]

/-- An input taken from a report is held, and the others as before. -/
theorem State.held_applyInput (i j : Input) (v : Bool) (hj : j ≠ i) : (s.applyInput k i v).held k j = s.held k j := by
  have hinputs : (s.applyInput k i v).mach.inputs = (s.setHeld k i (some v)).mach.inputs :=
    congrArg Prod.fst (s.applyInput_panel k i v)
  rw [State.held, hinputs]
  simp only [State.setHeld, Quad.get_set_self]
  exact inputState_setInputState _ _ hj

theorem State.applyInputs_eq (s : State) (k : Station) (r : InputReport) : s.applyInputs k r =
    (((s.applyInput k .obstruction (reportedInput r .obstruction)).takeOverload k (reportedInput r .overload)).applyInput k
      .ice (reportedInput r .ice)).applyInput k .localStop (reportedInput r .localStop) := rfl

/-- With every input repeated, the inputs of a report change nothing posted. -/
theorem State.applyInputs_posted (h : ∀ j, s.inputRepeats k r j) : (s.applyInputs k r.inputs).posted = s.posted := by
  rw [State.applyInputs_eq]
  rw [State.applyInput_repeats (h .obstruction)]
  have h2 := State.takeOverload_posted (h .overload)
  rw [State.applyInput_repeats ((State.held_of_posted h2 k .ice).trans (h .ice)),
    State.applyInput_repeats ((State.held_of_posted h2 k .localStop).trans (h .localStop))]
  exact h2

/-- With one input not repeated, the inputs of a report do what that one does. -/
theorem State.applyInputs_one {i : Input} (h : ∀ j, j ≠ i → s.inputRepeats k r j)
    (hblank : i = .overload → (s.mach.overload.get k).expiry = none) :
    ∃ u : State, u.posted = s.posted ∧
      (s.applyInputs k r.inputs).posted = (u.applyInput k i (reportedInput r.inputs i)).posted := by
  rw [State.applyInputs_eq]
  have hafter : ∀ (u : State) (j : Input), u.posted = s.posted → j ≠ i →
      (u.applyInput k i (reportedInput r.inputs i)).held k j = some (reportedInput r.inputs j) := fun u j hu hj => by
    rw [State.held_applyInput _ _ _ hj, State.held_of_posted hu]
    exact h j hj
  cases i with
  | obstruction =>
    refine ⟨s, rfl, ?_⟩
    have ho := State.takeOverload_posted (hafter s .overload rfl nofun)
    rw [State.applyInput_repeats ((State.held_of_posted ho k .ice).trans (hafter s .ice rfl nofun)),
      State.applyInput_repeats ((State.held_of_posted ho k .localStop).trans (hafter s .localStop rfl nofun))]
    exact ho
  | overload =>
    refine ⟨s, rfl, ?_⟩
    rw [State.applyInput_repeats (h .obstruction nofun)]
    have ho : s.takeOverload k (reportedInput r.inputs .overload) =
        s.applyInput k .overload (reportedInput r.inputs .overload) := by
      unfold State.takeOverload
      rw [hblank rfl]
    rw [ho, State.applyInput_repeats (hafter s .ice rfl nofun), State.applyInput_repeats (hafter s .localStop rfl nofun)]
  | ice =>
    rw [State.applyInput_repeats (h .obstruction nofun)]
    have ho := State.takeOverload_posted (h .overload nofun)
    refine ⟨s.takeOverload k (reportedInput r.inputs .overload), ho, ?_⟩
    rw [State.applyInput_repeats (hafter _ .localStop ho nofun)]
  | localStop =>
    rw [State.applyInput_repeats (h .obstruction nofun)]
    have ho := State.takeOverload_posted (h .overload nofun)
    refine ⟨s.takeOverload k (reportedInput r.inputs .overload), ho, ?_⟩
    rw [State.applyInput_repeats ((State.held_of_posted ho k .ice).trans (h .ice nofun))]

/-! ### Its faces -/

theorem State.reportFace_posted {f : Face} {x : FaceReport} (h : (s.face f).lamp = some x.proved) :
    (s.reportFace f x).posted = s.posted := by
  have hset : (s.setFace f { s.face f with
      reported := some x.aspect, lamp := some x.proved
      stopSince := stopSinceAfter s.now (s.face f) x.aspect }).posted = s.posted := s.setFace_posted f h.symm
  have hproved : ¬((s.face f).lamp = some true ∧ x.proved = false) := fun ⟨ht, hp⟩ => by
    rw [h, hp] at ht
    exact nomatch ht
  unfold State.reportFace
  dsimp only
  rw [if_neg hproved]
  generalize s.setFace f _ = t at hset ⊢
  have hshown : (if x.aspect = .proceed then (t.answerStopWait f).emit (.proceedShown f)
      else t.answerStopWait f).posted = s.posted := by
    split
    · simpa using hset
    · simpa using hset
  generalize (if x.aspect = .proceed then _ else _ : State) = u at hshown ⊢
  split
  · simpa using hshown
  · exact hshown

theorem State.reportFaces_posted (h : ∀ x, s.lampRepeats k r x) : (s.reportFaces k r).posted = s.posted := by
  have h1 := State.reportFace_posted (h .upper)
  exact (State.reportFace_posted ((State.lamp_of_posted h1 _).trans (h .lower))).trans h1

/-! ### An alarm frame with one change -/

theorem State.stationFaults_of_seen {s t : State} (h : t.seen = s.seen) (hn : (s.mach.faults.map (·.number)).Nodup) :
    t.stationFaults = s.stationFaults := by
  have hfaults : (if (t.mach.faults.map (·.number)).Nodup then some t.stationFaults else none) = some s.stationFaults :=
    (congrArg Seen.faults h).trans (if_pos hn)
  split at hfaults
  · exact Option.some.inj hfaults
  · exact nomatch hfaults

/-- What an alarm frame taken leaves of what is posted: all of it while the line rate stands, and its causes. -/
theorem exec_alarm_posted (hp : s.powered = true) (ht : s.alarmTaken k r = true) {w : State}
    (hw : (s.markAlarm.takeAlarm k r).posted = w.posted) : ∃ t, exec (.alarmFrame k r) s = .next t ∧
      ((s.markAlarm.takeAlarm k r).finish).SameFlight t ∧
      (t.line.rate = w.line.rate → t.mach.inputs = w.mach.inputs ∧ (∀ f, (t.face f).lamp = (w.face f).lamp) ∧
        ((w.mach.faults.map (·.number)).Nodup → t.stationFaults = w.stationFaults)) ∧
      ∀ c ∈ w.hand.toHalt, c ≠ .faultTableFull → t.halt.state = .halted ∧ c ∈ t.halt.causes := by
  obtain ⟨t, hexec, hflight⟩ := exec_alarmFrame hp ht
  generalize s.markAlarm.takeAlarm k r = y at hw hflight
  have hfaults : y.mach.faults = w.mach.faults := congrArg Posted.faults hw
  refine ⟨t, hexec, hflight, fun hrate => ?_, fun c hc hne => ?_⟩
  · have hstands : t.line.rate = y.line.rate := hrate.trans (congrArg Posted.rate hw).symm
    have hseen : t.seen = y.seen :=
      hflight.seen.trans (y.finish_stands.seen_of_rate ((congrArg Line.rate hflight.line).symm.trans hstands))
    refine ⟨(congrArg Seen.inputs hseen).trans (congrArg Posted.inputs hw), fun f => ?_, fun hn => ?_⟩
    · exact (congrArg (·.2.1) (congrFun (congrArg Seen.faces hseen) f)).trans (State.lamp_of_posted hw f)
    · rw [← hfaults] at hn
      rw [State.stationFaults_of_seen hseen hn, State.stationFaults, State.stationFaults, hfaults]
  · have hcy : c ∈ y.hand.toHalt := by
      rw [show y.hand.toHalt = w.hand.toHalt from congrArg Posted.causes hw]
      exact hc
    rw [hflight.halt]
    exact State.finish_halts hcy hne

/-- An input taken from a report leaves the signals. -/
theorem State.applyInput_signal (s : State) (k : Station) (i : Input) (v : Bool) :
    (s.applyInput k i v).signal = s.signal := by
  have hchange : ∀ (t : State) (a b : FaultRec), (t.changeFault a b).signal = t.signal := fun t a b => by
    unfold State.changeFault
    split
    · rfl
    · rw [State.noticeRaised, State.notify_withNotices]
      rfl
  have hcommand : ∀ (t : State) (j : Item) (c : CmdState), (t.setCommand j c).signal = t.signal := fun t j c =>
    congrArg Beside.signal (t.setCommand_beside j c)
  have hstop : ∀ (t : State) (j : Item), (t.stopForHold j).signal = t.signal := fun t j => by
    unfold State.stopForHold
    split
    · exact congrArg Beside.signal (t.orderStop_beside j)
    · exact congrArg Beside.signal (t.orderStop_beside j)
    · rfl
  have hraise : ∀ (t : State) (b : Bool), (t.raiseInput k i b).signal = t.signal := fun t b => by
    unfold State.raiseInput
    dsimp only
    split
    · obtain ⟨ns, h⟩ := t.newFault_eq (.input i) (.station k) b (t.capture (.gate k) (t.movementBatch (.gate k)))
      rw [h]
      rfl
    · rfl
  have hhold : ∀ t : State, (t.holdGate k).signal = t.signal := fun t => by
    have hheld : ∀ m : Movement, (if m.phase = .held then t
        else (t.stopForHold (.gate k)).setMovement (.gate k) (some (heldMovement t.now m))).signal = t.signal := by
      intro m
      split
      · rfl
      · exact hstop t _
    unfold State.holdGate
    dsimp only
    split
    · rfl
    · split <;> exact hheld _
  have hcause : ∀ (t : State) (c : HaltCause), (t.handCause c).signal = t.signal := fun _ _ => rfl
  have htest : ∀ t : State, t.testLocalStop.signal = t.signal := fun t => by
    unfold State.testLocalStop State.endCause
    repeat' split
    · rfl
    · rw [State.noticeHalt, State.notify_withNotices]
      rfl
    · rfl
  have hset : ∀ (t : State) (b : Bool), (t.setUnrecorded k i b).signal = t.signal := fun _ _ => rfl
  have hheld : (s.setHeld k i (some v)).signal = s.signal := rfl
  unfold State.applyInput State.inputActive State.inputInactive
  dsimp only
  repeat' split
  all_goals simp [hchange, hraise, hhold, hcause, htest, hset, hheld]

/-- An alarm frame whose only change is one input: what is posted is what that input makes of it. -/
theorem State.takeAlarm_oneInput {i : Input} (hitems : s.itemsRepeat k r) (hlamps : ∀ x, s.lampRepeats k r x)
    (hinputs : ∀ j, j ≠ i → s.inputRepeats k r j) (hblank : i = .overload → (s.mach.overload.get k).expiry = none) :
    ∃ u : State, u.posted = s.posted ∧
      (s.takeAlarm k r).posted = (u.applyInput k i (reportedInput r.inputs i)).posted := by
  obtain ⟨hposted, hover⟩ := State.itemsRepeat_posted hitems
  rw [State.takeAlarm, State.reportMachinery]
  generalize (s.reportControl k r.inLocal).reportPositions k r = v at hposted hover
  obtain ⟨u, hu, happly⟩ := State.applyInputs_one (s := v) (r := r) (i := i)
    (fun j hj => (State.held_of_posted hposted k j).trans (hinputs j hj)) fun hi => by rw [hover]; exact hblank hi
  refine ⟨u, hu.trans hposted, (State.reportFaces_posted fun x => ?_).trans happly⟩
  refine (State.lamp_of_posted happly _).trans ?_
  have hlamp : ((u.applyInput k i (reportedInput r.inputs i)).face ⟨k, x⟩).lamp = (u.face ⟨k, x⟩).lamp := by
    rw [State.face, State.applyInput_signal]
    rfl
  exact hlamp.trans ((State.lamp_of_posted (hu.trans hposted) _).trans (hlamps x))

end

end Sys2Proof.Machine
end

section
/-! INPUT MODES, CLEAR FAULT AND THE INPUTS OF AN ALARM FRAME (O29). -/

namespace Sys2Proof.Machine

/-! ### SET INPUT MODES (R43, R55) -/

theorem Quad.set_set {α : Type} (q : Quad α) (k : Station) (a b : α) : (q.set k a).set k b = q.set k b := by
  cases k <;> rfl

/-- The unrecorded faults whose mode is OFF cease. -/
theorem State.ceaseOff_eq (s : State) (k : Station) (m : InputModes) : s.ceaseOff k m = { s with mach := { s.mach with
    unrecorded := s.mach.unrecorded.set k
      { obstruction := (s.mach.unrecorded.get k).obstruction && decide (m.obstruction ≠ .off)
        overload := (s.mach.unrecorded.get k).overload && decide (m.overload ≠ .off)
        ice := (s.mach.unrecorded.get k).ice && decide (m.ice ≠ .off)
        localStop := (s.mach.unrecorded.get k).localStop } } } := by
  have hcease : ∀ (t : State) (i : Input), (if inputMode m i = .off then t.setUnrecorded k i false else t) =
      { t with mach := { t.mach with unrecorded := t.mach.unrecorded.set k (setInputFlag (t.mach.unrecorded.get k) i
        (inputFlag (t.mach.unrecorded.get k) i && decide (inputMode m i ≠ .off))) } } := by
    intro t i
    by_cases h : inputMode m i = .off
    · rw [if_pos h, h]
      simp [State.setUnrecorded]
    · have hsame : setInputFlag (t.mach.unrecorded.get k) i (inputFlag (t.mach.unrecorded.get k) i) =
          t.mach.unrecorded.get k := by cases i <;> rfl
      rw [if_neg h, decide_eq_true h, Bool.and_true, hsame, Quad.set_get]
  simp only [State.ceaseOff, List.foldl_cons, List.foldl_nil, hcease, Quad.get_set_self, Quad.set_set]
  rfl

theorem setInputModes_taken {tag : Octet} {a : InputModesArgs} {k : Station} {x y z : InputMode} {s : State}
    (hk : stationOf a.station = some k) (hx : modeOf a.obstruction = some x) (hy : modeOf a.overload = some y)
    (hz : modeOf a.ice = some z) (ht : s.takesRequest (.setInputModes tag a) = true) :
    exec (.setInputModes tag a) s = .next (s.answering
      { s with mach := { s.mach with
          modes := s.mach.modes.set k ⟨x, y, z⟩
          unrecorded := s.mach.unrecorded.set k
            { obstruction := (s.mach.unrecorded.get k).obstruction && decide (x ≠ .off)
              overload := (s.mach.unrecorded.get k).overload && decide (y ≠ .off)
              ice := (s.mach.unrecorded.get k).ice && decide (z ≠ .off)
              localStop := (s.mach.unrecorded.get k).localStop } } }
      tag 0x8C#8 none [num 1 (modeCode x), num 1 (modeCode y), num 1 (modeCode z)]) := by
  refine exec_request_answering (c := .setInputModes tag a) rfl ht _ none _ rfl ?_ rfl rfl
  change inputModesRequest a s.popRequest = _
  simp only [inputModesRequest, hk, hx, hy, hz, State.ceaseOff_eq]
  rfl

/-! ### CLEAR FAULT (R50) -/

section

variable {tag : Octet} {n : Nat} {r : FaultRec} {s : State}

theorem clearFaultRequest_found (h : s.mach.faults.find? (fun x => x.number == n) = some r) : clearFaultRequest n s =
    if !r.latched then refuse .notLatched s
    else if s.faultActive r then refuse .stillActive s
    else accept [] (((s.dropFault r true).afterRemoval r).finish) := by
  simp only [clearFaultRequest, h]

/-- What a record that is cleared leaves, before the end of the step. -/
theorem State.cleared_eq (hno : ∀ k i, s.unrecorded k i = false) (r : FaultRec) : ∃ ns h,
    (s.dropFault r true).afterRemoval r =
      ({ s.setFaults (s.mach.faults.filter fun x => x.number != r.number) with halt := h } : State).withNotices ns ∧
    (r.kind ≠ .input .localStop → h = s.halt) ∧
    (r.kind = .input .localStop → (∀ x ∈ s.mach.faults.filter (fun x => x.number != r.number), x.kind ≠ .input .localStop) →
      s.halt.state = .halted → HaltCause.localStop ∉ h.causes) := by
  by_cases hk : r.kind = .input .localStop
  · obtain ⟨ns, hdrop⟩ : ∃ ns, s.dropFault r true =
        (s.setFaults (s.mach.faults.filter fun x => x.number != r.number)).withNotices ns :=
      ⟨_, by rw [State.dropFault, State.noticeReleased, State.notify_withNotices]⟩
    have hafter : (s.dropFault r true).afterRemoval r =
        ((s.setFaults (s.mach.faults.filter fun x => x.number != r.number)).withNotices ns).testLocalStop := by
      rw [State.afterRemoval, if_pos hk, hdrop]
      exact congrArg State.testLocalStop (State.recordAllUnrecorded_none hno)
    rw [hafter]
    generalize hu : (s.setFaults (s.mach.faults.filter fun x => x.number != r.number)).withNotices ns = u
    have hsame : u = ({ s.setFaults (s.mach.faults.filter fun x => x.number != r.number) with
        halt := s.halt } : State).withNotices ns := hu.symm
    unfold State.testLocalStop
    split
    · rename_i hpresent
      refine ⟨ns, s.halt, hsame, fun _ => rfl, fun _ hnone _ => ?_⟩
      have hfree : u.localStopPresent = false := by
        have hany : ((s.mach.faults.filter fun x => x.number != r.number).any fun x => x.kind == .input .localStop) =
            false := List.any_eq_false.2 fun x hx => by simpa using hnone x hx
        have hun : ∀ j, u.unrecorded j .localStop = false := fun j => by rw [← hu]; exact hno j .localStop
        have hfaults : u.mach.faults = s.mach.faults.filter fun x => x.number != r.number := by rw [← hu]; rfl
        rw [State.localStopPresent, hfaults, hany]
        simp [hun]
      rw [hfree] at hpresent
      exact nomatch hpresent
    · unfold State.endCause
      split
      · obtain ⟨ms, hms⟩ : ∃ ms,
            ({ u with halt := { u.halt with causes := removeFrom .localStop u.halt.causes } } : State).noticeHalt =
              State.withNotices { u with halt := { u.halt with causes := removeFrom .localStop u.halt.causes } } ms :=
          ⟨_, by rw [State.noticeHalt, State.notify_withNotices]⟩
        refine ⟨ms, { s.halt with causes := removeFrom .localStop s.halt.causes }, ?_, fun hne => absurd hk hne,
          fun _ _ _ => ?_⟩
        · rw [hms, ← hu]
          rfl
        · simp [removeFrom]
      · rename_i hstay
        refine ⟨ns, s.halt, hsame, fun _ => rfl, fun _ _ hhalted hin => hstay ?_⟩
        rw [← hu]
        exact ⟨hhalted, hin⟩
  · obtain ⟨ns, h⟩ := State.removed_eq hno hk true
    exact ⟨ns, s.halt, h, fun _ => rfl, fun h => absurd h hk⟩

/-- A LATCH record whose cause no longer acts leaves the table. -/
theorem clearFault_taken (ht : s.takesRequest (.clearFault tag n) = true)
    (hr : s.mach.faults.find? (fun x => x.number == n) = some r) (hlatch : r.latched = true)
    (hcease : s.faultActive r = false) (hcalm : s.calm) (hno : ∀ k i, s.unrecorded k i = false) :
    ∃ t, exec (.clearFault tag n) s = .next t ∧
      t.fixed = { s.fixed with order := s.console.order.drop 1 } ∧
      t.replyIs tag 0x8E#8 none [] ∧
      t.mach = { s.mach with faults := s.mach.faults.filter fun x => x.number != n } ∧
      (r.kind ≠ .input .localStop → ({ s.popRequest with mach := t.mach } : State).settlesTo t) ∧
      (r.kind = .input .localStop → (∀ x ∈ t.mach.faults, x.kind ≠ .input .localStop) →
        s.halt.state = .halted → HaltCause.localStop ∉ t.halt.causes) := by
  have hnum : r.number = n := by simpa using List.find?_some hr
  obtain ⟨ns, h, hclear, hsame, hgone⟩ := State.cleared_eq (s := s.popRequest) hno r
  have hact : requestAct (.clearFault tag n) s.popRequest =
      accept [] (((s.popRequest.dropFault r true).afterRemoval r).finish) := by
    refine (clearFaultRequest_found (s := s.popRequest) hr).trans ?_
    rw [hlatch, show s.popRequest.faultActive r = false from hcease]
    rfl
  rw [hclear] at hact
  obtain ⟨t, hexec, hfixed, hreply, -, hsettles⟩ := exec_request_finished (c := .clearFault tag n) rfl ht rfl hact
  have hset := hsettles (State.quiet_of_tasks hcalm rfl)
  have hempty := State.emptied_of_calm (t := ({ s.popRequest.setFaults (s.popRequest.mach.faults.filter fun x =>
    x.number != r.number) with halt := h } : State).withNotices ns) hcalm rfl
  rw [hempty] at hset
  have hmach : t.mach = { s.mach with faults := s.mach.faults.filter fun x => x.number != n } := by
    rw [hset.mach, ← hnum]
    rfl
  have hhalt : t.halt = h := congrArg (·.halt) hset.1
  refine ⟨t, hexec, ?_, hreply, hmach, fun hk => ?_, fun hk hnone hhalted => ?_⟩
  · rw [hfixed]
    have hfix := (State.afterRemoval_fixed (s.popRequest.dropFault r true) r).trans (State.dropFault_fixed _ _ _)
    rw [hclear] at hfix
    exact hfix
  · refine State.settlesTo_trans ?_ hset
    rw [hmach, hsame hk, ← hnum]
    exact ⟨rfl, fun _ => ⟨rfl, rfl, rfl⟩, fun _ => rfl⟩
  · rw [hhalt]
    rw [hmach, ← hnum] at hnone
    exact hgone hk hnone hhalted

end

/-! ### One input of an alarm frame (R45, R46, R49) -/

theorem State.levels_of_fixed {s t : State} (h : t.fixed = s.fixed) (k : Station) :
    t.levelAbove k = s.levelAbove k ∧ t.levelBelow k = s.levelBelow k := by
  have hc : (⟨t.level.chambers.c1.fixed, t.level.chambers.c2.fixed, t.level.chambers.c3.fixed⟩ : Trio ChamberFixed) =
      ⟨s.level.chambers.c1.fixed, s.level.chambers.c2.fixed, s.level.chambers.c3.fixed⟩ := congrArg Fixed.chambers h
  have hhead : t.level.headLevel = s.level.headLevel := congrArg Fixed.headLevel h
  have htail : t.level.tailLevel = s.level.tailLevel := congrArg Fixed.tailLevel h
  simp only [Trio.mk.injEq] at hc
  obtain ⟨h1, h2, h3⟩ := hc
  have hagreed : ∀ c, (t.chamber c).agreed = (s.chamber c).agreed := fun c => by
    cases c with
    | c1 => exact congrArg ChamberFixed.agreed h1
    | c2 => exact congrArg ChamberFixed.agreed h2
    | c3 => exact congrArg ChamberFixed.agreed h3
  constructor
  · unfold State.levelAbove
    split
    · exact hagreed _
    · exact hhead
  · unfold State.levelBelow
    split
    · exact hagreed _
    · exact htail

/-- The table after a record of it changes. -/
theorem State.changeFault_faults {s : State} {f g : FaultRec} (hf : f ∈ s.mach.faults)
    (hn : (s.mach.faults.map (·.number)).Nodup) : (s.changeFault f g).mach.faults =
      s.mach.faults.map fun x => if x.number = f.number then g else x := by
  unfold State.changeFault
  split
  · rename_i heq
    subst heq
    conv_lhs => rw [← List.map_id s.mach.faults]
    refine List.map_congr_left fun x hx => ?_
    split
    · rename_i hnum
      exact List.inj_on_of_nodup_map hn hx hf hnum
    · rfl
  · rw [State.noticeRaised, State.notify_withNotices]
    rfl

/-- The records no water step raises, after one of an input changes. -/
theorem stationFaults_map {fs : List FaultRec} {f g : FaultRec} (hf : f ∈ fs) (hn : (fs.map (·.number)).Nodup)
    (hkind : isChamberKind f.kind = false) (hg : g.kind = f.kind) :
    (fs.map fun x => if x.number = f.number then g else x).filter (fun r => !isChamberKind r.kind) =
      (fs.filter fun r => !isChamberKind r.kind).map fun x => if x.number = f.number then g else x := by
  rw [List.filter_map]
  refine congrArg _ (List.filter_congr fun x hx => ?_)
  simp only [Function.comp_apply]
  split
  · rename_i hnum
    rw [hg, List.inj_on_of_nodup_map hn hx hf hnum]
  · rfl

theorem numbers_map {fs : List FaultRec} {f g : FaultRec} (hg : g.number = f.number) :
    (fs.map fun x => if x.number = f.number then g else x).map (·.number) = fs.map (·.number) := by
  rw [List.map_map]
  refine List.map_congr_left fun x _ => ?_
  simp only [Function.comp_apply]
  split
  · rename_i hnum
    exact hg.trans hnum.symm
  · rfl

section

variable {k : Station} {r : StationReport} {i : Input} {s : State}

/-- An alarm frame whose only change is one input: what stands of what that input makes of the state. -/
theorem exec_oneInput (hp : s.powered = true) (ht : s.alarmTaken k r = true) (hitems : s.itemsRepeat k r)
    (hlamps : ∀ x, s.lampRepeats k r x) (hinputs : ∀ j, j ≠ i → s.inputRepeats k r j)
    (hblank : i = .overload → (s.mach.overload.get k).expiry = none) :
    ∃ u t, State.posted u = s.posted ∧ exec (.alarmFrame k r) s = .next t ∧
      (t.line.rate = s.line.rate → t.held k i = some (reportedInput r.inputs i) ∧
        (((u.applyInput k i (reportedInput r.inputs i)).mach.faults.map (·.number)).Nodup →
          t.stationFaults = (u.applyInput k i (reportedInput r.inputs i)).stationFaults)) ∧
      ∀ c ∈ (u.applyInput k i (reportedInput r.inputs i)).hand.toHalt, c ≠ .faultTableFull →
        t.halt.state = .halted ∧ c ∈ t.halt.causes := by
  obtain ⟨u, hu, hw⟩ := State.takeAlarm_oneInput (s := s.markAlarm) hitems hlamps hinputs hblank
  obtain ⟨t, hexec, -, hstands, hcauses⟩ := exec_alarm_posted hp ht hw
  refine ⟨u, t, hu, hexec, fun hrate => ?_, hcauses⟩
  have hrate' : (u.applyInput k i (reportedInput r.inputs i)).line.rate = s.line.rate :=
    (congrArg Told.rate (State.applyInput_told _ _ _ _)).trans (congrArg Posted.rate hu)
  obtain ⟨hin, -, hfaults⟩ := hstands (hrate.trans hrate'.symm)
  refine ⟨?_, hfaults⟩
  have hpanel : (u.applyInput k i (reportedInput r.inputs i)).mach.inputs =
      (u.setHeld k i (some (reportedInput r.inputs i))).mach.inputs :=
    congrArg Prod.fst (u.applyInput_panel k i (reportedInput r.inputs i))
  rw [State.held, hin, hpanel]
  exact State.held_setHeld_self u k i _

/-- What an input not repeated does. -/
theorem State.applyInput_changes {v : Bool} (h : s.held k i ≠ some v) : s.applyInput k i v =
    if v then (s.setHeld k i (some v)).inputActive k i (s.held k i) else (s.setHeld k i (some v)).inputInactive k i :=
  if_neg h

theorem isGateInput_of_ne (h : i ≠ .localStop) : isGateInput i = true := by
  cases i with
  | localStop => exact absurd rfl h
  | _ => rfl

/-- A LOCAL STOP that becomes active hands its cause. -/
theorem State.localStop_handed (b : Option Bool) : HaltCause.localStop ∈ (s.inputActive k .localStop b).hand.toHalt := by
  have hlast : ∀ t : State, HaltCause.localStop ∈ (t.handCause .localStop).hand.toHalt := fun t =>
    List.mem_append_right _ (List.mem_singleton_self _)
  unfold State.inputActive
  split
  · exact hlast _
  · change HaltCause.localStop ∈ (if !s.hasFaultRoom then
      ((s.raiseInput k .localStop true).handCause .localStop).handCause .faultTableFull
      else (s.raiseInput k .localStop true).handCause .localStop).hand.toHalt
    split
    · exact List.mem_append_left _ (hlast _)
    · exact hlast _

end

/-- An input that becomes active and has no record. -/
theorem oneInput_recorded {k : Station} {r : StationReport} {i : Input} {s u t : State} (hu : u.posted = s.posted)
    (hitems : s.itemsRepeat k r) (hchange : ¬s.inputRepeats k r i) (hnodup : (s.mach.faults.map (·.number)).Nodup)
    (hstands : t.line.rate = s.line.rate → t.held k i = some (reportedInput r.inputs i) ∧
      (((u.applyInput k i (reportedInput r.inputs i)).mach.faults.map (·.number)).Nodup →
        t.stationFaults = (u.applyInput k i (reportedInput r.inputs i)).stationFaults))
    (hactive : reportedInput r.inputs i = true) (hi : i ≠ .localStop) (hmode : inputMode (s.mach.modes.get k) i ≠ .off)
    (hnone : s.faultOf (.input i) (.station k) = none) (hroom : s.mach.faults.length < 16) :
    ∃ n x, (∀ y ∈ s.mach.faults, y.number ≠ n) ∧
      (t.line.rate = s.line.rate → t.held k i = some true ∧ t.stationFaults = s.stationFaults ++
        [{ number := n, kind := .input i, source := .station k
           latched := decide (inputMode (s.mach.modes.get k) i = .latch), releasing := none
           repeats := 0, escalated := false, capture := x }]) ∧
      x.time = s.toll.clock ∧ x.position = some r.gate ∧ x.above = s.levelAbove k ∧ x.below = s.levelBelow k := by
  have hfixed : u.fixed = s.fixed := congrArg Posted.fixed hu
  have hfaults : u.mach.faults = s.mach.faults := congrArg Posted.faults hu
  have hmodes : u.mach.modes = s.mach.modes := congrArg Fixed.modes hfixed
  have hheld : u.held k i ≠ some true := by
    rw [State.held_of_posted hu, ← hactive]
    exact hchange
  have hact := State.applyInput_changes hheld
  obtain ⟨hclock, hpos, habove⟩ : u.toll.clock = s.toll.clock ∧ (u.item (.gate k)).position = some r.gate ∧
      u.levelAbove k = s.levelAbove k ∧ u.levelBelow k = s.levelBelow k :=
    ⟨congrArg Fixed.clock hfixed, (State.position_of_posted hu _).trans hitems.2.1, State.levels_of_fixed hfixed k⟩
  obtain ⟨es, hduty, -⟩ := State.inputActive_recorded (s := u.setHeld k i (some true)) (isGateInput_of_ne hi) (u.held k i)
    (by rw [show (u.setHeld k i (some true)).mach.modes = s.mach.modes from hmodes]; exact hmode)
    (by rw [State.faultOf, show (u.setHeld k i (some true)).mach.faults = s.mach.faults from hfaults]; exact hnone)
    (by rw [show (u.setHeld k i (some true)).mach.faults = s.mach.faults from hfaults]; exact hroom)
  have htable : (u.applyInput k i true).mach.faults = s.mach.faults ++ [(u.setHeld k i (some true)).freshFault (.input i)
      (.station k) (decide (inputMode (s.mach.modes.get k) i = .latch))
      ((u.setHeld k i (some true)).capture (.gate k) ((u.setHeld k i (some true)).movementBatch (.gate k)))] := by
    rw [hact, ← hmodes, ← hfaults]
    exact congrArg Duty.faults hduty
  have hfresh : ∀ y ∈ s.mach.faults, y.number ≠
      freeNumber 255 ((u.setHeld k i (some true)).mach.faults.map (·.number)) 17 u.mach.nextFault := by
    intro y hy heq
    refine freeNumber_not_mem (limit := 255) (used := (u.setHeld k i (some true)).mach.faults.map (·.number)) (fuel := 17)
      (n := u.mach.nextFault) ?_ (by decide) ?_
    · rw [List.length_map, show (u.setHeld k i (some true)).mach.faults = s.mach.faults from hfaults]
      omega
    · rw [← heq, show (u.setHeld k i (some true)).mach.faults = s.mach.faults from hfaults]
      exact List.mem_map_of_mem hy
  refine ⟨_, (u.setHeld k i (some true)).capture (.gate k) ((u.setHeld k i (some true)).movementBatch (.gate k)), hfresh,
    fun hrate => ?_, hclock, hpos, habove.1, habove.2⟩
  obtain ⟨hin, hstation⟩ := hstands hrate
  rw [hactive] at hin hstation
  refine ⟨hin, (hstation ?_).trans ?_⟩
  · rw [htable, List.map_append, List.nodup_append]
    refine ⟨hnodup, List.nodup_singleton _, fun a ha b hb => ?_⟩
    obtain ⟨y, hy, rfl⟩ := List.mem_map.1 ha
    rw [List.mem_singleton.1 hb]
    exact hfresh y hy
  · rw [State.stationFaults, htable, List.filter_append]
    rfl

/-- An input with a record changes it alone. -/
theorem oneInput_changed {k : Station} {r : StationReport} {i : Input} {s u t : State} {f g : FaultRec}
    (hu : u.posted = s.posted) (hnodup : (s.mach.faults.map (·.number)).Nodup)
    (hstands : t.line.rate = s.line.rate → t.held k i = some (reportedInput r.inputs i) ∧
      (((u.applyInput k i (reportedInput r.inputs i)).mach.faults.map (·.number)).Nodup →
        t.stationFaults = (u.applyInput k i (reportedInput r.inputs i)).stationFaults))
    (hf : s.faultOf (.input i) (.station k) = some f) (hkind : g.kind = f.kind) (hnum : g.number = f.number)
    (hact : (u.applyInput k i (reportedInput r.inputs i)).mach.faults =
      ((u.setHeld k i (some (reportedInput r.inputs i))).changeFault f g).mach.faults) :
    t.line.rate = s.line.rate → t.held k i = some (reportedInput r.inputs i) ∧
      t.stationFaults = s.stationFaults.map fun x => if x.number = f.number then g else x := by
  intro hrate
  obtain ⟨hin, hstation⟩ := hstands hrate
  have hfaults : (u.setHeld k i (some (reportedInput r.inputs i))).mach.faults = s.mach.faults := congrArg Posted.faults hu
  have hmem := s.faultOf_mem hf
  have hk : f.kind = .input i := by
    have hfound := List.find?_some hf
    simp only [Bool.and_eq_true, beq_iff_eq] at hfound
    exact hfound.1
  have hchanged : (u.applyInput k i (reportedInput r.inputs i)).mach.faults =
      s.mach.faults.map fun x => if x.number = f.number then g else x := by
    rw [hact, State.changeFault_faults (by rw [hfaults]; exact hmem) (by rw [hfaults]; exact hnodup), hfaults]
  refine ⟨hin, (hstation ?_).trans ?_⟩
  · rw [hchanged, numbers_map hnum]
    exact hnodup
  · rw [State.stationFaults, hchanged]
    exact stationFaults_map hmem hnodup (by rw [hk]; rfl) hkind

/-- Settles O29: the modes, the record cleared, and the one input of an alarm frame by what it makes of the table. -/
theorem inputModesAndClearFault : Obligations.InputModesAndClearFault := by
  unfold Obligations.InputModesAndClearFault
  refine ⟨fun tag a k x y z s hk hx hy hz ht => setInputModes_taken hk hx hy hz ht,
    fun tag n s ht => ⟨fun hnone => ?_, fun r hr hl => ?_, fun r hr hl ha => ?_,
      fun r hr hl ha hcalm hno => clearFault_taken ht hr hl ha hcalm hno⟩,
    fun k r i s hp hcalm ht hitems hlamps hinputs hchange hblank hnodup => ?_⟩
  · refine exec_request_replied (c := .clearFault tag n) rfl ht (some .noSuchFault) [] rfl ?_
    change clearFaultRequest n s.popRequest = _
    simp only [clearFaultRequest, show s.popRequest.mach.faults.find? (fun r => r.number == n) = none from hnone]
    rfl
  · refine exec_request_replied (c := .clearFault tag n) rfl ht (some .notLatched) [] rfl
      ((clearFaultRequest_found (s := s.popRequest) hr).trans (if_pos ?_))
    rw [hl]
    rfl
  · refine exec_request_replied (c := .clearFault tag n) rfl ht (some .stillActive) [] rfl
      ((clearFaultRequest_found (s := s.popRequest) hr).trans ((if_neg ?_).trans (if_pos ha)))
    rw [hl]
    decide
  · obtain ⟨u, t, hu, hexec, hstands, hcauses⟩ := exec_oneInput hp ht hitems hlamps hinputs hblank
    have hheld : ∀ v, reportedInput r.inputs i = v → u.held k i ≠ some v := fun v hv => by
      rw [State.held_of_posted hu, ← hv]
      exact hchange
    have hfound : ∀ {f}, s.faultOf (.input i) (.station k) = some f → ∀ v : Bool,
        (u.setHeld k i (some v)).faultOf (.input i) (.station k) = some f := fun hf v => by
      rw [State.faultOf, show (u.setHeld k i (some v)).mach.faults = s.mach.faults from congrArg Posted.faults hu]
      exact hf
    refine ⟨fun hactive hi hmode hnone hroom => ?_, fun f hactive hi hf => ?_, fun f hidle hi hun hf hl hrel => ?_,
      fun hactive hi => ?_⟩
    · obtain ⟨n, x, hn, hrest⟩ := oneInput_recorded hu hitems hchange hnodup hstands hactive hi hmode hnone hroom
      exact ⟨t, n, x, hexec, hn, hrest⟩
    · refine ⟨t, hexec, ?_⟩
      have h := oneInput_changed (g := repeated (decide (s.held k i = some false)) f) hu hnodup hstands hf rfl rfl ?_
      · rw [hactive] at h
        simpa [repeated] using h
      · rw [hactive, State.applyInput_changes (hheld true hactive), if_pos rfl, State.held_of_posted hu]
        simp only [State.inputActive, hfound hf, isGateInput_of_ne hi, if_true]
    · refine ⟨t, hexec, ?_⟩
      have h := oneInput_changed (g := { f with releasing := some (s.now + s.mach.timing.resumeDelay) }) hu hnodup hstands
        hf rfl rfl ?_
      · rw [hidle] at h
        exact h
      · have hunrec : (u.setHeld k i (some false)).unrecorded k i = false := by
          rw [State.unrecorded, show (u.setHeld k i (some false)).mach.unrecorded = s.mach.unrecorded from
            congrArg Posted.unrecorded hu]
          exact hun
        have hafter : (u.setHeld k i (some false)).after (u.setHeld k i (some false)).mach.timing.resumeDelay =
            s.now + s.mach.timing.resumeDelay :=
          congrArg (fun x : Fixed => x.now + x.timing.resumeDelay) (congrArg Posted.fixed hu)
        rw [hidle, State.applyInput_changes (hheld false hidle), if_neg Bool.false_ne_true]
        simp only [State.inputInactive, hunrec, hfound hf, hl, hrel, hafter, Option.isSome_none, Bool.or_false,
          Bool.false_eq_true, if_false]
    · subst hi
      obtain ⟨hh, hc⟩ := hcauses .localStop (by
        rw [hactive, State.applyInput_changes (hheld true hactive), if_pos rfl]
        exact State.localStop_handed _) (by decide)
      exact ⟨t, hexec, hh, hc⟩

end Sys2Proof.Machine
end

section
/-! THE LEVELS OF A ROUND END: what each stage of the round-end operation makes of a chamber, of the equality counters
and of river hold. -/

namespace Sys2Proof.Machine

/-! ### What the stages read beside the chambers -/

/-- What a round end reads and leaves beside the chambers, the equality counters and river hold. -/
structure Gauge where
  rest : Trio ChamberFixed → Quad Nat → Bool → Fixed
  link : Station → StationState
  slot : Option Station
  headReading : Option Nat
  tailReading : Option Nat
  headLevel : Option Nat
  tailLevel : Option Nat
  settings : LevelSettings
  acting : LevelSettings

def State.gauge (s : State) : Gauge :=
  { rest := fun cs es r => { s.fixed with chambers := cs, equal := es, riverHold := r }
    link := fun k => (s.station k).state, slot := s.line.slot
    headReading := s.level.headReading, tailReading := s.level.tailReading
    headLevel := s.level.headLevel, tailLevel := s.level.tailLevel
    settings := s.level.settings, acting := s.level.acting }

def Gauge.valid (g : Gauge) (k : Station) (r : Option Nat) : Option Nat := if g.link k = .online then r else none

def Gauge.takeSettings (g : Gauge) : Gauge :=
  { g with acting := g.settings, rest := fun cs es r => { g.rest cs es r with acting := g.settings } }

def Gauge.deriveRiver (g : Gauge) : Gauge :=
  { g with
    headLevel := g.valid .k0 g.headReading, tailLevel := g.valid .k3 g.tailReading
    rest := fun cs es r => { g.rest cs es r with
      headLevel := g.valid .k0 g.headReading, tailLevel := g.valid .k3 g.tailReading } }

section

variable {s t : State}

theorem State.gauge_of_fixed (hf : t.fixed = s.fixed) (hs : t.steady = s.steady) (hl : t.level = s.level) :
    t.gauge = s.gauge := by
  have hstations : ∀ k, ((t.station k).state, (t.station k).failed) = ((s.station k).state, (s.station k).failed) :=
    congrFun (congrArg (·.seen.stations) hs)
  have hlink : ∀ k, (t.station k).state = (s.station k).state := fun k => congrArg (·.1) (hstations k)
  have hslot : t.line.slot = s.line.slot := congrArg Steady.slot hs
  simp only [State.gauge, hf, hlink, hslot, hl]

theorem State.tryWithdraw_beside (s : State) (i : Item) : (s.tryWithdraw i).beside = s.beside := by
  have hset : ∀ (u : State) (m : Option Movement), (u.setMovement i m).beside = u.beside := fun _ _ => rfl
  unfold State.tryWithdraw
  dsimp only
  repeat' split
  · rw [hset, State.orderStop_beside]
  · rw [hset, State.setCommand_beside]
    rfl
  all_goals rfl

theorem State.notify_level (s : State) (k : NoticeKind) (o : Nat) (p : List Field) : (s.notify k o p).level = s.level := by
  unfold State.notify
  split <;> rfl

theorem State.notify_gauge (s : State) (k : NoticeKind) (o : Nat) (p : List Field) : (s.notify k o p).gauge = s.gauge :=
  State.gauge_of_fixed (by simp) (by simp) (s.notify_level k o p)

theorem State.chamber_of_level {c : Chamber} (h : t.level = s.level) : t.chamber c = s.chamber c := by
  rw [State.chamber, State.chamber, h]

end

/-! ### Folds over the chambers and the gates -/

/-- `f` gives a chamber its new record from what a round end reads, and touches no other. -/
structure ByChamber (f : State → Chamber → State) (r : Gauge → Chamber → ChamberRec → ChamberRec) : Prop where
  gauge : ∀ s c, (f s c).gauge = s.gauge
  chamber : ∀ s c d, (f s c).chamber d = if d = c then r s.gauge c (s.chamber c) else s.chamber d

theorem ByChamber.foldl {f : State → Chamber → State} {r : Gauge → Chamber → ChamberRec → ChamberRec}
    (h : ByChamber f r) (s : State) : (allChambers.foldl f s).gauge = s.gauge ∧
      ∀ d, (allChambers.foldl f s).chamber d = r s.gauge d (s.chamber d) := by
  refine ⟨foldl_frame State.gauge h.gauge _ s, fun d => ?_⟩
  simp only [allChambers, List.foldl_cons, List.foldl_nil, h.chamber, h.gauge]
  cases d <;> simp

/-! ### The stages -/

def derivedRec (g : Gauge) (c : Chamber) (r : ChamberRec) : ChamberRec :=
  (deriveChamber g.acting r (g.valid (upperGate c) r.upper) (g.valid (lowerGate c) r.lower)).record

/-- The HIGH flag a test leaves. -/
def ChamberRec.highAfter (r : ChamberRec) : Bool :=
  match r.config, r.agreed, r.surge with
  | some g, some h, none => decide (g.high < h)
  | _, _, _ => r.high

def testedRec (_ : Gauge) (_ : Chamber) (r : ChamberRec) : ChamberRec := { r with high := r.highAfter }

/-- Whether a round end clears the CREST indication of a chamber with these valid readings. -/
def clears (config : Option ChamberConfig) (u l : Option Nat) : Bool :=
  match config with
  | some g => (u.isSome || l.isSome) && !(exceeds g.crest u) && !(exceeds g.crest l)
  | none => false

def clearedRec (g : Gauge) (c : Chamber) (r : ChamberRec) : ChamberRec :=
  { r with crest := r.crest && !clears r.config (g.valid (upperGate c) r.upper) (g.valid (lowerGate c) r.lower) }

/-- Whether the record stands in the band of a target. -/
def ChamberRec.inBand (r : ChamberRec) (tolerance : Nat) (x : LevelTarget) : Bool :=
  match r.config, r.agreed with
  | some g, some h =>
    r.condition != .disputed &&
      (match x with
        | .full => decide (g.full - tolerance ≤ h)
        | .low => decide (h ≤ g.low + tolerance))
  | _, _ => false

theorem State.inBand_eq (s : State) (c : Chamber) (x : LevelTarget) :
    s.inBand c x = (s.chamber c).inBand s.level.acting.bandTolerance x := rfl

def countedRec (held : List Chamber) (g : Gauge) (c : Chamber) (r : ChamberRec) : ChamberRec :=
  { r with targetCount :=
      if r.target.any (fun x => r.inBand g.acting.bandTolerance x && !held.contains c && r.surge.isNone) then
        min 16 (r.targetCount + 1)
      else 0 }

theorem derive_byChamber : ByChamber State.derive derivedRec := by
  refine ⟨fun s c => ?_, fun s c d => ?_⟩
  · unfold State.derive
    dsimp only
    split
    · exact (State.notify_gauge _ _ _ _).trans rfl
    · split
      · exact (State.notify_gauge _ _ _ _).trans rfl
      · rfl
  · have hset : (s.setChamber c (derivedRec s.gauge c (s.chamber c))).chamber d =
        if d = c then derivedRec s.gauge c (s.chamber c) else s.chamber d := s.chamber_setChamber c d _
    rw [← hset]
    unfold State.derive
    dsimp only
    split
    · exact (State.chamber_of_level (State.notify_level _ _ _ _)).trans rfl
    · split
      · exact State.chamber_of_level (State.notify_level _ _ _ _)
      · rfl

/-- What a HIGH flag that becomes set brings besides touches no level. -/
theorem State.setHigh_level (s : State) (c : Chamber) :
    (s.setHigh c).level = (s.setChamber c { s.chamber c with high := true }).level ∧ (s.setHigh c).gauge = s.gauge := by
  unfold State.setHigh
  dsimp only
  have hbeside := (State.tryWithdraw_beside (((s.setChamber c { s.chamber c with high := true }).noticeHigh c true).requestMove
    (feedPath c) .shut .protective).2 (feedPath c)).trans (State.requestMove_beside _ _ _ _)
  have hlevel := (congrArg Beside.level hbeside).trans (State.notify_level _ _ _ _)
  exact ⟨hlevel, (State.gauge_of_fixed (by simp) (by simp) (congrArg Beside.level hbeside)).trans (State.notify_gauge _ _ _ _)⟩

theorem State.setChamber_same (s : State) (c : Chamber) : s.setChamber c (s.chamber c) = s := by
  have hset : s.level.chambers.set c (s.level.chambers.get c) = s.level.chambers := by cases c <;> rfl
  rw [State.setChamber, State.chamber, hset]

/-- The HIGH test writes the flag and nothing else of the levels. -/
theorem State.testHigh_level (s : State) (c : Chamber) :
    (s.testHigh c).level = (s.setChamber c (testedRec s.gauge c (s.chamber c))).level ∧ (s.testHigh c).gauge = s.gauge := by
  have hkept : (s.chamber c).highAfter = (s.chamber c).high →
      s.level = (s.setChamber c (testedRec s.gauge c (s.chamber c))).level ∧ s.gauge = s.gauge := fun h => by
    rw [testedRec, h]
    exact ⟨(congrArg State.level (s.setChamber_same c)).symm, rfl⟩
  have hwritten : ∀ v, (s.chamber c).highAfter = v →
      testedRec s.gauge c (s.chamber c) = { s.chamber c with high := v } := by
    rintro v rfl
    rfl
  unfold State.testHigh
  split
  · rename_i g h hg ha hs
    have hafter : (s.chamber c).highAfter = decide (g.high < h) := by rw [ChamberRec.highAfter, hg, ha, hs]
    split
    · rename_i hover
      rw [decide_eq_true hover] at hafter
      split
      · rename_i hhigh
        exact hkept (hafter.trans hhigh.symm)
      · rw [hwritten _ hafter]
        exact s.setHigh_level c
    · rename_i hunder
      rw [decide_eq_false hunder] at hafter
      split
      · rw [hwritten _ hafter]
        exact ⟨State.notify_level _ _ _ _, State.notify_gauge _ _ _ _⟩
      · rename_i hlow
        exact hkept (hafter.trans (Bool.eq_false_of_not_eq_true hlow).symm)
  · rename_i hno
    exact hkept (by
      unfold ChamberRec.highAfter
      split
      · rename_i hg ha hs
        exact (hno _ _ hg ha hs).elim
      · rfl)

theorem testHigh_byChamber : ByChamber State.testHigh testedRec :=
  ⟨fun s c => (s.testHigh_level c).2, fun s c d =>
    (State.chamber_of_level (s.testHigh_level c).1).trans (s.chamber_setChamber c d _)⟩

/-- A clearing writes the indication and nothing else. -/
theorem State.clearCrest_eq (s : State) (c : Chamber) :
    s.clearCrest c = s.setChamber c (clearedRec s.gauge c (s.chamber c)) := by
  have hkept : ((s.chamber c).crest && !clears (s.chamber c).config (s.validUpper c) (s.validLower c)) =
      (s.chamber c).crest → s = s.setChamber c (clearedRec s.gauge c (s.chamber c)) := fun h => by
    have hrec : clearedRec s.gauge c (s.chamber c) = { s.chamber c with crest := (s.chamber c).crest } :=
      congrArg (fun v => { s.chamber c with crest := v }) h
    rw [hrec]
    exact (s.setChamber_same c).symm
  unfold State.clearCrest
  split
  · rename_i g hg
    split
    · rename_i h
      simp only [Bool.and_eq_true] at h
      obtain ⟨⟨⟨hcrest, hvalid⟩, hu⟩, hl⟩ := h
      have hclears : clears (s.chamber c).config (s.validUpper c) (s.validLower c) = true := by
        rw [hg, clears, hvalid, hu, hl]
        rfl
      have hrec : clearedRec s.gauge c (s.chamber c) = { s.chamber c with crest := false } :=
        congrArg (fun v => { s.chamber c with crest := v })
          (show ((s.chamber c).crest && !clears (s.chamber c).config (s.validUpper c) (s.validLower c)) = false by
            rw [hclears, Bool.not_true, Bool.and_false])
      rw [hrec]
    · rename_i h
      refine hkept ?_
      cases hcrest : (s.chamber c).crest with
      | false => rfl
      | true =>
        rw [hcrest, Bool.true_and] at h
        rw [hg, clears, Bool.eq_false_of_not_eq_true h]
        rfl
  · rename_i hg
    exact hkept (by rw [hg, clears, Bool.not_false, Bool.and_true])

theorem clearCrest_byChamber : ByChamber State.clearCrest clearedRec :=
  ⟨fun s c => by rw [s.clearCrest_eq]; rfl, fun s c d => by rw [s.clearCrest_eq, State.chamber_setChamber]⟩

theorem State.endCause_level (s : State) (x : HaltCause) : (s.endCause x).level = s.level := by
  unfold State.endCause
  split
  · exact (State.notify_level _ _ _ _).trans rfl
  · rfl

theorem State.endCause_gauge (s : State) (x : HaltCause) : (s.endCause x).gauge = s.gauge := by
  unfold State.endCause
  split
  · exact (State.notify_gauge _ _ _ _).trans rfl
  · rfl

theorem State.clearCrests_level (s : State) :
    s.clearCrests.level = (allChambers.foldl (fun s c => s.clearCrest c) s).level ∧ s.clearCrests.gauge = s.gauge := by
  have hgauge := (clearCrest_byChamber.foldl s).1
  unfold State.clearCrests
  dsimp only
  split
  · exact ⟨State.endCause_level _ _, (State.endCause_gauge _ _).trans hgauge⟩
  · exact ⟨rfl, hgauge⟩

theorem State.countTarget_eq (s : State) (held : List Chamber) (c : Chamber) :
    s.countTarget held c = s.setChamber c (countedRec held s.gauge c (s.chamber c)) := by
  unfold State.countTarget countedRec
  dsimp only
  cases (s.chamber c).target <;> rfl

theorem countTarget_byChamber (held : List Chamber) : ByChamber (fun s c => s.countTarget held c) (countedRec held) :=
  ⟨fun s c => by rw [s.countTarget_eq]; rfl, fun s c d => by rw [s.countTarget_eq, State.chamber_setChamber]⟩

/-! ### The equality counters -/

/-- The value a round end gives the equality counter of a gate. -/
def State.equalCount (s : State) (held : List Chamber) (k : Station) : Nat :=
  match s.levelAbove k, s.levelBelow k with
  | some a, some b =>
    if !(s.sideHeld held (chamberAbove k)) && !(s.sideHeld held (chamberBelow k)) &&
        decide (apart a b ≤ s.level.acting.equalTolerance) then
      min 16 (s.level.equal.get k + 1)
    else 0
  | _, _ => 0

theorem State.countEqual_eq (s : State) (held : List Chamber) (k : Station) :
    s.countEqual held k = s.setEqual k (s.equalCount held k) := by
  unfold State.countEqual State.equalCount
  cases s.levelAbove k with
  | none => rfl
  | some a =>
    cases s.levelBelow k with
    | none => rfl
    | some b => exact (apply_ite (s.setEqual k) _ _ _).symm

/-- The counters of the other gates do not enter a gate's. -/
theorem State.equalCount_of_level (s : State) (held : List Chamber) {j k : Station} (h : k ≠ j) (n : Nat) :
    (s.setEqual j n).equalCount held k = s.equalCount held k := by
  have hget : (s.setEqual j n).level.equal.get k = s.level.equal.get k := (Quad.get_set _ _ _ _).trans (if_neg h)
  unfold State.equalCount
  rw [hget]
  rfl

theorem State.countEqual_fold (s : State) (held : List Chamber) :
    (allStations.foldl (fun s k => s.countEqual held k) s).gauge = s.gauge ∧
      (allStations.foldl (fun s k => s.countEqual held k) s).level.chambers = s.level.chambers ∧
      ∀ k, (allStations.foldl (fun s k => s.countEqual held k) s).level.equal.get k = s.equalCount held k := by
  refine ⟨foldl_frame State.gauge (fun s k => by rw [s.countEqual_eq]; rfl) _ s,
    foldl_frame (fun s => s.level.chambers) (fun s k => by rw [s.countEqual_eq]; rfl) _ s, fun k => ?_⟩
  have hget : ∀ (u : State) (j : Station) (n : Nat), (u.setEqual j n).level.equal.get k =
      if k = j then n else u.level.equal.get k := fun u j n => Quad.get_set _ _ _ _
  simp only [allStations, List.foldl_cons, List.foldl_nil, State.countEqual_eq, hget]
  cases k <;> simp [State.equalCount_of_level]

/-! ### River hold -/

theorem State.evaluateRiver_level (s : State) :
    s.evaluateRiver.level = { s.level with riverHold := s.riverHeld } ∧ s.evaluateRiver.gauge = s.gauge := by
  unfold State.evaluateRiver
  dsimp only
  split
  · rename_i h
    rw [h]
    exact ⟨rfl, rfl⟩
  · exact ⟨State.notify_level _ _ _ _, State.notify_gauge _ _ _ _⟩

/-! ### The whole operation -/

/-- The chambers DISPUTED before the round end. -/
def State.disputedChambers (s : State) : List Chamber := allChambers.filter fun c => (s.chamber c).condition == .disputed

theorem State.disputedChambers_contains (s : State) (c : Chamber) :
    s.disputedChambers.contains c = ((s.chamber c).condition == .disputed) := by
  have hall : c ∈ allChambers := by cases c <;> decide
  rw [List.contains_eq_mem, Bool.eq_iff_iff, decide_eq_true_iff, State.disputedChambers, List.mem_filter]
  simp [hall]

/-- The state of a round end once HIGH and CREST have been evaluated. -/
def State.crestsEvaluated (s : State) : State :=
  (allChambers.foldl State.testHigh (allChambers.foldl State.derive s.takeSettings).deriveRiver).clearCrests

theorem State.levelRoundEnd_eq (s : State) : s.levelRoundEnd = (allChambers.foldl
    (fun u c => u.countTarget s.disputedChambers c)
    (allStations.foldl (fun u k => u.countEqual s.disputedChambers k) s.crestsEvaluated)).evaluateRiver := rfl

/-- HIGH and CREST move their flags and leave the equality counters. -/
theorem State.flags_levels (s : State) : (allChambers.foldl State.testHigh s).clearCrests.gauge = s.gauge ∧
    (allChambers.foldl State.testHigh s).clearCrests.level.equal = s.level.equal ∧
    ∀ c, (allChambers.foldl State.testHigh s).clearCrests.chamber c =
      clearedRec s.gauge c (testedRec s.gauge c (s.chamber c)) := by
  obtain ⟨htested, htest⟩ := testHigh_byChamber.foldl s
  have hequal : (allChambers.foldl State.testHigh s).level.equal = s.level.equal :=
    foldl_frame (fun u : State => u.level.equal) (fun u c => by rw [(u.testHigh_level c).1]; rfl) _ _
  generalize allChambers.foldl State.testHigh s = u at htested htest hequal ⊢
  obtain ⟨hlevel, hgauge⟩ := u.clearCrests_level
  refine ⟨hgauge.trans htested, ?_, fun c => ?_⟩
  · rw [hlevel, ← hequal]
    exact foldl_frame (fun v : State => v.level.equal) (fun v c => by rw [v.clearCrest_eq]; rfl) _ _
  · rw [State.chamber_of_level hlevel, (clearCrest_byChamber.foldl u).2, htested, htest]

theorem State.deriveRiver_levels (s : State) : s.deriveRiver.gauge = s.gauge.deriveRiver ∧
    (∀ c, s.deriveRiver.chamber c = s.chamber c) ∧ s.deriveRiver.level.equal = s.level.equal := ⟨rfl, fun _ => rfl, rfl⟩

theorem State.takeSettings_levels (s : State) : s.takeSettings.gauge = s.gauge.takeSettings ∧
    (∀ c, s.takeSettings.chamber c = s.chamber c) ∧ s.takeSettings.level.equal = s.level.equal := ⟨rfl, fun _ => rfl, rfl⟩

theorem State.crestsEvaluated_levels (s : State) : s.crestsEvaluated.gauge = s.gauge.takeSettings.deriveRiver ∧
    ∀ c, s.crestsEvaluated.chamber c = clearedRec s.gauge.takeSettings.deriveRiver c
      (testedRec s.gauge.takeSettings.deriveRiver c (derivedRec s.gauge.takeSettings c (s.chamber c))) := by
  obtain ⟨htaken, htake, -⟩ := s.takeSettings_levels
  obtain ⟨hderived, hrec⟩ := derive_byChamber.foldl s.takeSettings
  obtain ⟨hriver, hsame, -⟩ := (allChambers.foldl State.derive s.takeSettings).deriveRiver_levels
  obtain ⟨hgauge, -, hchamber⟩ := (allChambers.foldl State.derive s.takeSettings).deriveRiver.flags_levels
  have hall := hriver.trans (congrArg Gauge.deriveRiver (hderived.trans htaken))
  refine ⟨hgauge.trans hall, fun c => ?_⟩
  rw [State.crestsEvaluated, hchamber, hall, hsame, hrec, htake, htaken]

/-- The target counters are counted last; river hold is evaluated after them. -/
theorem State.targets_levels (s : State) (held : List Chamber) :
    (allChambers.foldl (fun u c => u.countTarget held c) s).evaluateRiver.gauge = s.gauge ∧
    (allChambers.foldl (fun u c => u.countTarget held c) s).evaluateRiver.level.equal = s.level.equal ∧
    ∀ c, (allChambers.foldl (fun u c => u.countTarget held c) s).evaluateRiver.chamber c =
      countedRec held s.gauge c (s.chamber c) := by
  obtain ⟨hcounted, hcount⟩ := (countTarget_byChamber held).foldl s
  have hequal : (allChambers.foldl (fun u c => u.countTarget held c) s).level.equal = s.level.equal :=
    foldl_frame (fun u : State => u.level.equal)
      (fun u c => by rw [u.countTarget_eq]; rfl) _ _
  generalize allChambers.foldl (fun u c => u.countTarget held c) s = u at hcounted hcount hequal ⊢
  obtain ⟨hlevel, hgauge⟩ := u.evaluateRiver_level
  refine ⟨hgauge.trans hcounted, (congrArg Levels.equal hlevel).trans hequal, fun c => ?_⟩
  rw [← hcount, State.chamber, State.chamber, hlevel]

theorem State.levelRoundEnd_gauge (s : State) : s.levelRoundEnd.gauge = s.gauge.takeSettings.deriveRiver := by
  rw [State.levelRoundEnd_eq, (State.targets_levels _ _).1, (s.crestsEvaluated.countEqual_fold _).1,
    s.crestsEvaluated_levels.1]

theorem State.levelRoundEnd_chamber (s : State) (c : Chamber) : s.levelRoundEnd.chamber c =
    countedRec s.disputedChambers s.gauge.takeSettings.deriveRiver c (s.crestsEvaluated.chamber c) := by
  obtain ⟨hgauge, hchambers, -⟩ := s.crestsEvaluated.countEqual_fold s.disputedChambers
  rw [State.levelRoundEnd_eq, (State.targets_levels _ _).2.2, hgauge, s.crestsEvaluated_levels.1]
  exact congrArg (fun cs => countedRec _ _ c (Trio.get cs c)) hchambers

theorem State.levelRoundEnd_equal (s : State) (k : Station) :
    s.levelRoundEnd.level.equal.get k = s.crestsEvaluated.equalCount s.disputedChambers k := by
  rw [State.levelRoundEnd_eq, (State.targets_levels _ _).2.1, (s.crestsEvaluated.countEqual_fold s.disputedChambers).2.2]

/-- River hold is what the levels of the round end say. -/
theorem State.levelRoundEnd_riverHold (s : State) : s.levelRoundEnd.level.riverHold = s.levelRoundEnd.riverHeld := by
  rw [State.levelRoundEnd_eq]
  generalize allChambers.foldl (fun u c => u.countTarget s.disputedChambers c)
    (allStations.foldl (fun u k => u.countEqual s.disputedChambers k) s.crestsEvaluated) = u
  have h := u.evaluateRiver_level.1
  simp only [State.riverHeld, State.chamber, h]

/-! ### The equality counters before they are counted -/

/-- A derivation gives level, condition and counters, and clears the target counter only where it enters DISPUTED. -/
structure Derived.From (r : ChamberRec) (d : Derived) : Prop where
  keeps : d.record = { r with
    agreed := d.record.agreed, condition := d.record.condition, dispute := d.record.dispute
    lastKnown := d.record.lastKnown, targetCount := d.record.targetCount }
  enters : d.entered = false ∧ d.record.targetCount = r.targetCount ∨ d.record.condition = .disputed

theorem Derived.From.plain {r : ChamberRec} (a : Option Nat) (x : LevelCondition) (n : Nat) (l : Option Nat) (b : Bool) :
    Derived.From r ⟨{ r with agreed := a, condition := x, dispute := n, lastKnown := l }, false, b⟩ :=
  ⟨rfl, .inl ⟨rfl, rfl⟩⟩

theorem deriveOne_from (r : ChamberRec) (v : Option Nat) : (deriveOne r v).From r := by
  unfold deriveOne
  split <;> exact .plain _ _ _ _ _

theorem deriveTwo_from (set : LevelSettings) (r : ChamberRec) (u l : Nat) : (deriveTwo set r u l).From r := by
  unfold deriveTwo
  dsimp only
  split
  · exact .plain _ _ _ _ _
  · split
    · exact ⟨rfl, .inr rfl⟩
    · exact .plain _ _ _ _ _
  · exact .plain _ _ _ _ _

theorem deriveDisputed_from (set : LevelSettings) (r : ChamberRec) (u l : Option Nat) :
    (deriveDisputed set r u l).From r := by
  unfold deriveDisputed
  dsimp only
  split
  · split
    · split <;> exact .plain _ _ _ _ _
    all_goals exact .plain _ _ _ _ _
  all_goals exact .plain _ _ _ _ _

theorem deriveChamber_from (set : LevelSettings) (r : ChamberRec) (u l : Option Nat) :
    (deriveChamber set r u l).From r := by
  unfold deriveChamber
  split
  · exact deriveDisputed_from set r u l
  · split
    · exact deriveTwo_from set r _ _
    all_goals exact deriveOne_from r _

theorem State.derive_equal (s : State) (c : Chamber) (k : Station) :
    (s.derive c).level.equal.get k = s.level.equal.get k ∨
      c ∈ gateChambers k ∧ (derivedRec s.gauge c (s.chamber c)).condition = .disputed := by
  have hgates : k ≠ upperGate c ∧ k ≠ lowerGate c ∨ c ∈ gateChambers k := by cases c <;> cases k <;> decide
  have hleft : ∀ (v : State) (b : Bool), (if b = true then v.noticeDispute c false else v).level = v.level := by
    intro v b
    split
    · exact State.notify_level _ _ _ _
    · rfl
  rcases hgates with ⟨hu, hl⟩ | hmem
  · left
    have hset : ∀ (v : State), (v.clearEqual c).level.equal.get k = v.level.equal.get k := fun v =>
      ((Quad.get_set _ _ _ _).trans (if_neg hl)).trans ((Quad.get_set _ _ _ _).trans (if_neg hu))
    unfold State.derive
    dsimp only
    split
    · exact (congrArg (fun l : Levels => l.equal.get k) (State.notify_level _ _ _ _)).trans (hset _)
    · exact (congrArg (fun l : Levels => l.equal.get k) (hleft _ _)).trans rfl
  · rcases (deriveChamber_from s.level.acting (s.chamber c) (s.validUpper c) (s.validLower c)).enters with ⟨hno, -⟩ | hin
    · left
      unfold State.derive
      dsimp only
      rw [hno, if_neg Bool.false_ne_true]
      exact (congrArg (fun l : Levels => l.equal.get k) (hleft _ _)).trans rfl
    · exact .inr ⟨hmem, hin⟩

/-- A gate's counter comes to the count as it stood, unless a chamber beside it is DISPUTED. -/
theorem State.crestsEvaluated_equal (s : State) {k : Station}
    (h : ∀ c ∈ gateChambers k, (derivedRec s.gauge.takeSettings c (s.chamber c)).condition ≠ .disputed) :
    s.crestsEvaluated.level.equal.get k = s.level.equal.get k := by
  obtain ⟨htaken, htake, heq⟩ := s.takeSettings_levels
  obtain ⟨-, -, hriver⟩ := (allChambers.foldl State.derive s.takeSettings).deriveRiver_levels
  obtain ⟨-, hflags, -⟩ := (allChambers.foldl State.derive s.takeSettings).deriveRiver.flags_levels
  have hstep : ∀ u : State, u.gauge = s.gauge.takeSettings → ∀ c, u.chamber c = s.chamber c →
      (u.derive c).level.equal.get k = u.level.equal.get k := fun u hu c hc =>
    (u.derive_equal c k).resolve_right fun ⟨hmem, hd⟩ => h c hmem (by rwa [hu, hc] at hd)
  have hgauge : ∀ (u : State) c, (u.derive c).gauge = u.gauge := derive_byChamber.gauge
  have hother : ∀ (u : State) c d, d ≠ c → (u.derive c).chamber d = u.chamber d := fun u c d hd =>
    (derive_byChamber.chamber u c d).trans (if_neg hd)
  rw [State.crestsEvaluated, hflags, hriver, ← heq]
  have h1 := hstep s.takeSettings htaken .c1 rfl
  have h2 := hstep (s.takeSettings.derive .c1) ((hgauge _ _).trans htaken) .c2 (hother _ _ _ (by decide))
  have h3 := hstep ((s.takeSettings.derive .c1).derive .c2) (((hgauge _ _).trans (hgauge _ _)).trans htaken) .c3
    ((hother _ _ _ (by decide)).trans (hother _ _ _ (by decide)))
  exact h3.trans (h2.trans h1)

end Sys2Proof.Machine
end

section
/-! THE END OF A ROUND: what the event ROUND_END leaves of the levels. -/

namespace Sys2Proof.Machine

/-! ### The answers of the stages, in words -/

theorem crestStands_iff (b : Bool) (config : Option ChamberConfig) (u l : Option Nat) :
    (b && !clears config u l) = true ↔ b = true ∧ ∀ g, config = some g →
      (u = none ∧ l = none) ∨ ∃ v, (u = some v ∨ l = some v) ∧ g.crest < v := by
  rw [Bool.and_eq_true]
  refine and_congr_right fun _ => ?_
  cases config with
  | none => simp [clears]
  | some g =>
    simp only [Option.some.injEq, forall_eq']
    cases u <;> cases l <;> simp [clears, exceeds, or_comm, or_and_right, exists_or]

theorem State.riverHeld_false_iff (s : State) : s.riverHeld = false ↔ ∃ g1 g3 h l, (s.chamber .c1).config = some g1 ∧
    (s.chamber .c3).config = some g3 ∧ s.level.headLevel = some h ∧ s.level.tailLevel = some l ∧
    h + s.level.acting.freeboard ≤ g1.crest ∧ l + s.level.acting.freeboard ≤ g3.crest := by
  unfold State.riverHeld
  split
  · rename_i g1 g3 h l h1 h3 hh hl
    rw [h1, h3, hh, hl]
    simp [hasRoom]
  · rename_i hno
    refine iff_of_false Bool.true_eq_false.mp fun ⟨g1, g3, h, l, h1, h3, hh, hl, _⟩ => hno g1 g3 h l h1 h3 hh hl

/-- A gate counts while no chamber beside it is DISPUTED, before or now, or under surge blanking. -/
theorem State.sidesFree_iff (s : State) (held : List Chamber) (k : Station) :
    (!s.sideHeld held (chamberAbove k) && !s.sideHeld held (chamberBelow k)) = true ↔
      ∀ c ∈ gateChambers k, held.contains c = false ∧ (s.chamber c).condition ≠ .disputed ∧ (s.chamber c).surge = none := by
  have hside : ∀ x : Option Chamber, (!s.sideHeld held x) = true ↔
      ∀ c ∈ x.toList, held.contains c = false ∧ (s.chamber c).condition ≠ .disputed ∧ (s.chamber c).surge = none := by
    intro x
    cases x with
    | none => simp [State.sideHeld]
    | some c => simp [State.sideHeld, and_left_comm, and_assoc]
  rw [Bool.and_eq_true, hside, hside, gateChambers]
  exact List.forall_mem_append.symm

/-! ### The chambers -/

theorem State.chamber_of_fixed {s t : State} (h : t.fixed = s.fixed) (c : Chamber) :
    (t.chamber c).fixed = (s.chamber c).fixed := by
  have hc : (⟨t.level.chambers.c1.fixed, t.level.chambers.c2.fixed, t.level.chambers.c3.fixed⟩ : Trio ChamberFixed) =
      ⟨s.level.chambers.c1.fixed, s.level.chambers.c2.fixed, s.level.chambers.c3.fixed⟩ := congrArg Fixed.chambers h
  simp only [Trio.mk.injEq] at hc
  obtain ⟨h1, h2, h3⟩ := hc
  cases c with
  | c1 => exact h1
  | c2 => exact h2
  | c3 => exact h3

/-- The record of a chamber a round end derives from its readings. -/
def State.derivedAt (s : State) (c : Chamber) : ChamberRec :=
  (deriveChamber s.level.settings (s.chamber c) (s.validUpper c) (s.validLower c)).record

theorem State.derivedAt_from (s : State) (c : Chamber) :
    (deriveChamber s.level.settings (s.chamber c) (s.validUpper c) (s.validLower c)).From (s.chamber c) :=
  deriveChamber_from _ _ _ _

/-- What a round end leaves of a chamber's record, its target counter aside. -/
theorem State.levelRoundEnd_rec (s : State) (c : Chamber) : s.levelRoundEnd.chamber c = { s.derivedAt c with
    high := (s.derivedAt c).highAfter
    crest := (s.chamber c).crest && !clears (s.chamber c).config (s.validUpper c) (s.validLower c)
    targetCount := (s.levelRoundEnd.chamber c).targetCount } := by
  have hkeeps : s.derivedAt c = _ := (s.derivedAt_from c).keeps
  have hcrest : (s.derivedAt c).crest = (s.chamber c).crest := congrArg (·.crest) hkeeps
  have hconfig : (s.derivedAt c).config = (s.chamber c).config := congrArg (·.config) hkeeps
  have hupper : (s.derivedAt c).upper = (s.chamber c).upper := congrArg (·.upper) hkeeps
  have hlower : (s.derivedAt c).lower = (s.chamber c).lower := congrArg (·.lower) hkeeps
  have hrec : s.levelRoundEnd.chamber c = countedRec s.disputedChambers s.gauge.takeSettings.deriveRiver c
      (clearedRec s.gauge.takeSettings.deriveRiver c (testedRec s.gauge.takeSettings.deriveRiver c (s.derivedAt c))) := by
    rw [s.levelRoundEnd_chamber, s.crestsEvaluated_levels.2]
    rfl
  have hcleared : (clearedRec s.gauge.takeSettings.deriveRiver c
      (testedRec s.gauge.takeSettings.deriveRiver c (s.derivedAt c))).crest =
      ((s.chamber c).crest && !clears (s.chamber c).config (s.validUpper c) (s.validLower c)) := by
    rw [← hcrest, ← hconfig, State.validUpper, State.validLower, ← hupper, ← hlower]
    rfl
  rw [hrec, ← hcleared]
  rfl

theorem State.levelRoundEnd_beside (s : State) : s.levelRoundEnd.level.acting = s.level.settings ∧
    s.levelRoundEnd.level.headLevel = s.validReading .k0 s.level.headReading ∧
    s.levelRoundEnd.level.tailLevel = s.validReading .k3 s.level.tailReading ∧
    s.levelRoundEnd.line.slot = s.line.slot :=
  have h := s.levelRoundEnd_gauge
  ⟨congrArg Gauge.acting h, congrArg Gauge.headLevel h, congrArg Gauge.tailLevel h, congrArg Gauge.slot h⟩

/-- What a round end leaves of the rest that no hand-over changes. -/
theorem State.levelRoundEnd_fixed (s : State) : { s.levelRoundEnd.fixed with
      chambers := s.fixed.chambers, equal := s.level.equal, riverHold := s.level.riverHold } =
    { s.fixed with
      acting := s.level.settings
      headLevel := s.validReading .k0 s.level.headReading, tailLevel := s.validReading .k3 s.level.tailReading } :=
  congrArg (fun g : Gauge => g.rest s.fixed.chambers s.level.equal s.level.riverHold) s.levelRoundEnd_gauge

/-! ### The counters -/

theorem State.crestsEvaluated_chamber (s : State) (c : Chamber) :
    (s.crestsEvaluated.chamber c).agreed = (s.levelRoundEnd.chamber c).agreed ∧
    (s.crestsEvaluated.chamber c).condition = (s.levelRoundEnd.chamber c).condition ∧
    (s.crestsEvaluated.chamber c).surge = (s.levelRoundEnd.chamber c).surge := by
  rw [s.levelRoundEnd_chamber]
  exact ⟨rfl, rfl, rfl⟩

theorem State.levelRoundEnd_condition (s : State) (c : Chamber) :
    (s.levelRoundEnd.chamber c).condition = (s.derivedAt c).condition ∧
    (s.levelRoundEnd.chamber c).surge = (s.chamber c).surge := by
  rw [s.levelRoundEnd_rec]
  exact ⟨rfl, congrArg (·.surge) (s.derivedAt_from c).keeps⟩

theorem State.crestsEvaluated_beside (s : State) (k : Station) :
    s.crestsEvaluated.levelAbove k = s.levelRoundEnd.levelAbove k ∧
    s.crestsEvaluated.levelBelow k = s.levelRoundEnd.levelBelow k ∧
    s.crestsEvaluated.level.acting = s.level.settings := by
  have hgauge : s.levelRoundEnd.gauge = s.crestsEvaluated.gauge :=
    s.levelRoundEnd_gauge.trans s.crestsEvaluated_levels.1.symm
  refine ⟨?_, ?_, congrArg Gauge.acting s.crestsEvaluated_levels.1⟩
  · unfold State.levelAbove
    split
    · exact (s.crestsEvaluated_chamber _).1
    · exact (congrArg Gauge.headLevel hgauge).symm
  · unfold State.levelBelow
    split
    · exact (s.crestsEvaluated_chamber _).1
    · exact (congrArg Gauge.tailLevel hgauge).symm

/-- The equality counter of a gate between two levels. -/
theorem State.levelRoundEnd_counts (s : State) {k : Station} {a b : Nat} (ha : s.levelRoundEnd.levelAbove k = some a)
    (hb : s.levelRoundEnd.levelBelow k = some b) : s.levelRoundEnd.level.equal.get k =
      if (∀ c ∈ gateChambers k, (s.chamber c).condition ≠ .disputed ∧
          (s.levelRoundEnd.chamber c).condition ≠ .disputed ∧ (s.chamber c).surge = none) ∧
          max a b - min a b ≤ s.level.settings.equalTolerance then
        min 16 (s.level.equal.get k + 1)
      else 0 := by
  obtain ⟨habove, hbelow, hacting⟩ := s.crestsEvaluated_beside k
  have hfree : (!s.crestsEvaluated.sideHeld s.disputedChambers (chamberAbove k) &&
      !s.crestsEvaluated.sideHeld s.disputedChambers (chamberBelow k)) = true ↔
      ∀ c ∈ gateChambers k, (s.chamber c).condition ≠ .disputed ∧
        (s.levelRoundEnd.chamber c).condition ≠ .disputed ∧ (s.chamber c).surge = none := by
    rw [State.sidesFree_iff]
    refine forall₂_congr fun c _ => ?_
    obtain ⟨-, hcond, hsurge⟩ := s.crestsEvaluated_chamber c
    rw [hcond, hsurge, (s.levelRoundEnd_condition c).2, s.disputedChambers_contains, beq_eq_false_iff_ne]
  rw [s.levelRoundEnd_equal, State.equalCount, habove, hbelow, ha, hb, hacting]
  refine if_ctx_congr ?_ (fun h => ?_) fun _ => rfl
  · rw [Bool.and_eq_true, hfree, decide_eq_true_iff]
    rfl
  · refine congrArg (fun n => min 16 (n + 1)) (s.crestsEvaluated_equal fun c hc => ?_)
    have hcond := (h.1 c hc).2.1
    rwa [(s.levelRoundEnd_condition c).1] at hcond

theorem State.levelRoundEnd_counts_none (s : State) {k : Station} (h : s.levelRoundEnd.levelAbove k = none ∨
    s.levelRoundEnd.levelBelow k = none) : s.levelRoundEnd.level.equal.get k = 0 := by
  obtain ⟨habove, hbelow, -⟩ := s.crestsEvaluated_beside k
  rw [s.levelRoundEnd_equal, State.equalCount, habove, hbelow]
  rcases h with h | h
  · rw [h]
  · rw [h]
    cases s.levelRoundEnd.levelAbove k <;> rfl

theorem ChamberRec.notDisputed_of_inBand {r : ChamberRec} {n : Nat} {x : LevelTarget} (h : r.inBand n x = true) :
    r.condition ≠ .disputed := by
  unfold ChamberRec.inBand at h
  split at h
  · exact bne_iff_ne.1 (Bool.and_eq_true_iff.1 h).1
  · exact absurd h Bool.false_ne_true

/-- The target counter of a chamber. -/
theorem State.levelRoundEnd_targetCount (s : State) (c : Chamber) :
    (s.levelRoundEnd.chamber c).target = (s.chamber c).target ∧ (s.levelRoundEnd.chamber c).targetCount =
      if (s.chamber c).target.any (fun x => s.levelRoundEnd.inBand c x && (s.chamber c).condition != .disputed &&
          (s.chamber c).surge.isNone) then min 16 ((s.chamber c).targetCount + 1)
      else 0 := by
  have hfrom := s.derivedAt_from c
  have htarget : (s.derivedAt c).target = (s.chamber c).target := congrArg (·.target) hfrom.keeps
  have hsurge : (s.derivedAt c).surge = (s.chamber c).surge := congrArg (·.surge) hfrom.keeps
  refine ⟨(congrArg (·.target) (s.levelRoundEnd_rec c)).trans htarget, ?_⟩
  have hband : ∀ x, s.levelRoundEnd.inBand c x = (s.derivedAt c).inBand s.level.settings.bandTolerance x := fun x => by
    rw [State.inBand_eq, s.levelRoundEnd_beside.1, s.levelRoundEnd_rec]
    rfl
  have hcount : (s.levelRoundEnd.chamber c).targetCount =
      if (s.derivedAt c).target.any (fun x => (s.derivedAt c).inBand s.level.settings.bandTolerance x &&
          !s.disputedChambers.contains c && (s.derivedAt c).surge.isNone) then min 16 ((s.derivedAt c).targetCount + 1)
      else 0 := by
    rw [s.levelRoundEnd_chamber, s.crestsEvaluated_levels.2]
    rfl
  rw [hcount, htarget, hsurge, s.disputedChambers_contains]
  refine if_ctx_congr ?_ (fun h => ?_) fun _ => rfl
  · simp only [hband]
    rfl
  · obtain ⟨x, -, hx⟩ := (Option.any_eq_true _ _).1 h
    rw [Bool.and_eq_true, Bool.and_eq_true, hband] at hx
    obtain ⟨⟨hin, -⟩, -⟩ := hx
    obtain ⟨-, hcount⟩ := hfrom.enters.resolve_right (ChamberRec.notDisputed_of_inBand hin)
    exact congrArg (fun n => min 16 (n + 1)) hcount

/-! ### The event -/

theorem roundEndDue_iff {s : State} : s.roundEndDue = true ↔
    s.line.slot = some .k3 ∧ s.line.poll = none ∧ s.line.pulse = false := by
  simp [State.roundEndDue, State.inOpenSlot, and_assoc]

theorem State.roundEnd_finish (u : State) :
    (u.line.slot = none → (u.emit .roundEnd).markRetest.finish.line.slot = none) ∧
      (u.emit .roundEnd).markRetest.finish.fixed = u.fixed :=
  ⟨fun h => (State.finish_stands _).slot h, State.finish_fixed _⟩

/-- The levels after the event are those of the round-end operation. -/
theorem exec_roundEnd {s : State} (hp : s.powered = true) (hdue : s.roundEndDue = true) :
    ∃ t, exec .roundEnd s = .next t ∧ t.line.slot = none ∧ t.fixed = (s.setSlot none).levelRoundEnd.fixed := by
  obtain ⟨t, ht, hsame⟩ := exec_event_flight (c := .roundEnd) rfl hp
  obtain ⟨hslot, hfixed⟩ := (s.setSlot none).levelRoundEnd.roundEnd_finish
  refine ⟨t, ht, ?_, ?_⟩
  · have hfree : (s.setSlot none).levelRoundEnd.line.slot = none := (s.setSlot none).levelRoundEnd_beside.2.2.2
    rw [hsame.line, if_pos hdue, State.endRound, hslot hfree]
  · rw [hsame.fixed, if_pos hdue, State.endRound, hfixed]

end Sys2Proof.Machine
end

section
/-! ROUND END (O38): the levels of the event, and the HIGH flag that takes an OPEN of the feed path away. -/

namespace Sys2Proof.Machine

/-! ### The levels of the event -/

section

variable {s t : State}

/-- The flags, the level and the counters of a chamber after the event. -/
theorem roundEnd_chamber (hf : t.fixed = s.levelRoundEnd.fixed) (c : Chamber) :
    ((t.chamber c).agreed = (s.derivedAt c).agreed ∧ (t.chamber c).condition = (s.derivedAt c).condition ∧
      (t.chamber c).dispute = (s.derivedAt c).dispute ∧ (t.chamber c).lastKnown = (s.derivedAt c).lastKnown) ∧
    (t.chamber c).high = (s.derivedAt c).highAfter ∧ (t.chamber c).config = (s.chamber c).config ∧
    (t.chamber c).crest =
      ((s.chamber c).crest && !clears (s.chamber c).config (s.validUpper c) (s.validLower c)) := by
  have hc := State.chamber_of_fixed hf c
  rw [s.levelRoundEnd_rec] at hc
  exact ⟨⟨congrArg (·.agreed) hc, congrArg (·.condition) hc, congrArg (·.dispute) hc, congrArg (·.lastKnown) hc⟩,
    congrArg (·.high) hc, (congrArg (·.config) hc).trans (congrArg (·.config) (s.derivedAt_from c).keeps),
    congrArg (·.crest) hc⟩

theorem roundEnd_high (hf : t.fixed = s.levelRoundEnd.fixed) (c : Chamber) : (t.chamber c).high =
    ({ s.chamber c with agreed := (t.chamber c).agreed } : ChamberRec).highAfter := by
  obtain ⟨⟨hagreed, -⟩, hhigh, -⟩ := roundEnd_chamber hf c
  have hkeeps : s.derivedAt c = _ := (s.derivedAt_from c).keeps
  rw [hhigh, hagreed, hkeeps]
  rfl

theorem roundEnd_riverHold (hf : t.fixed = s.levelRoundEnd.fixed) : t.level.riverHold = false ↔
    ∃ g1 g3 h l, (s.chamber .c1).config = some g1 ∧ (s.chamber .c3).config = some g3 ∧
      t.level.headLevel = some h ∧ t.level.tailLevel = some l ∧
      h + s.level.settings.freeboard ≤ g1.crest ∧ l + s.level.settings.freeboard ≤ g3.crest := by
  have hconfig : ∀ c, (s.levelRoundEnd.chamber c).config = (s.chamber c).config := fun c => (roundEnd_chamber rfl c).2.2.1
  have hhold : t.level.riverHold = s.levelRoundEnd.level.riverHold := congrArg Fixed.riverHold hf
  have hhead : t.level.headLevel = s.levelRoundEnd.level.headLevel := congrArg Fixed.headLevel hf
  have htail : t.level.tailLevel = s.levelRoundEnd.level.tailLevel := congrArg Fixed.tailLevel hf
  rw [hhold, hhead, htail, s.levelRoundEnd_riverHold, State.riverHeld_false_iff, hconfig, hconfig, s.levelRoundEnd_beside.1]

end

/-! ### A HIGH flag and the OPEN of the feed path -/

section

variable {c : Chamber} {i : Item} {s t u : State}

/-- Every OPEN held for the item stands for a movement to OPEN whose command is queued and not TAKEN. -/
def State.opensWaiting (s : State) (i : Item) : Prop :=
  s.holdsOrder i .opens → ∃ m, (s.item i).movement = some m ∧ m.phase = .awaitTaken ∧ m.queued = true ∧ m.target = .opened

theorem State.opensWaiting_of_none (h : ¬s.holdsOrder i .opens) : s.opensWaiting i := fun ho => absurd ho h

/-- Placing the command of a movement to SHUT brings no OPEN. -/
theorem State.tryPlace_shut {m : Movement} (hm : m.target = .shut) (h : ¬s.holdsOrder i .opens) :
    ¬((s.setMovement i (some m)).tryPlace i).holdsOrder i .opens := by
  intro ho
  rcases State.tryPlace_cases (s.setMovement i (some m)) i with heq | ⟨x, hx, -, -, heq⟩
  · rw [heq] at ho
    exact h ho
  · have hitem : ((s.setMovement i (some m)).item i).movement = some m := congrArg (·.movement) (State.item_setItem_self s i _)
    obtain rfl : m = x := Option.some.inj (hitem.symm.trans hx)
    rw [heq, State.holdsOrder_setMovement] at ho
    rcases State.orderMove_holdsOpen ho with hold | ⟨-, hopen⟩
    · exact h hold
    · rw [hm] at hopen
      exact nomatch hopen

theorem State.supersede_holdsOpen (a b : Owner) : (s.supersede a b).holdsOrder i .opens ↔ s.holdsOrder i .opens := by
  unfold State.supersede
  split <;> exact Iff.rfl

/-- With one entry per slot a withdrawal takes the OPEN of the item away. -/
theorem State.withdrawMove_noOpen (hq : oneEntryPerSlot (s.station (itemStation i)).queue) :
    ¬(s.withdrawMove i).holdsOrder i .opens := by
  have hslot : ∀ e : QueueEntry, e.command = .item i .opens → slotCode e.command = slotCode (.item i .stops) := fun e he => by
    rw [he, slotCode_item]
  unfold State.withdrawMove
  split
  · rename_i e he
    split
    · rename_i hstop
      rintro ⟨x, hx, hopen⟩
      have hmem := List.mem_of_find?_eq_some he
      have heq : x = e := List.inj_on_of_nodup_map hq hx hmem (by rw [hslot x hopen, hstop])
      rw [heq, hstop] at hopen
      exact nomatch hopen
    · exact fun ho => (State.withdraw_holdsOpen ho).2 rfl
  · rename_i hnone
    rintro ⟨x, hx, hopen⟩
    have hno := List.find?_eq_none.1 hnone x hx
    rw [sameSlot, hslot x hopen, beq_self_eq_true] at hno
    exact hno rfl

/-- A protective close leaves an OPEN only where one stands for a waiting movement. -/
theorem State.requestMove_shut (hq : oneEntryPerSlot (s.station (itemStation i)).queue) (h : s.opensWaiting i)
    (o : Owner) : (s.requestMove i .shut o).2.opensWaiting i := by
  unfold State.requestMove
  split
  · exact h
  · split
    · rename_i hm
      have hno : ¬s.holdsOrder i .opens := fun ho => by
        obtain ⟨m, hsome, -⟩ := h ho
        rw [hm] at hsome
        exact nomatch hsome
      unfold State.requestNew
      dsimp only
      split
      · exact h
      · exact State.opensWaiting_of_none (State.tryPlace_shut
          (s := { s with mach := { s.mach with nextSerial := s.mach.nextSerial + 1 } }) rfl hno)
    · rename_i m hm
      have hwaits : s.holdsOrder i .opens → m.phase = .awaitTaken ∧ m.queued = true ∧ m.target = .opened := fun ho => by
        obtain ⟨x, hx, hrest⟩ := h ho
        obtain rfl : m = x := Option.some.inj (hm.symm.trans hx)
        exact hrest
      refine State.opensWaiting_of_none ?_
      split
      · rename_i htarget
        have hno : ¬s.holdsOrder i .opens := fun ho => by
          rw [htarget] at hwaits
          exact nomatch (hwaits ho).2.2
        unfold State.requestJoin
        split
        · rwa [State.supersede_holdsOpen]
        · exact hno
      · unfold State.requestReverse
        dsimp only
        split
        · rename_i hphase
          rw [State.supersede_holdsOpen]
          intro ho
          rw [hphase] at hwaits
          exact nomatch (hwaits ho).1
        · have hno : ¬(if m.queued = true then s.withdrawMove i else s).holdsOrder i .opens := by
            split
            · exact State.withdrawMove_noOpen hq
            · rename_i hqueued
              exact fun ho => hqueued (hwaits ho).2.1
          rw [← State.supersede_holdsOpen m.owner o] at hno
          split
          · exact hno
          · exact State.tryPlace_shut rfl hno
        · rename_i hheld hwait
          refine State.tryPlace_shut rfl ?_
          rw [State.supersede_holdsOpen]
          exact fun ho => hwait (hwaits ho).1

/-- Where an OPEN may not stand, the test takes the waiting one away. -/
theorem State.tryWithdraw_takes (h : s.opensWaiting i) (hmay : s.mayPlace i .opened = false) :
    ¬(s.tryWithdraw i).holdsOrder i .opens := by
  intro ho
  unfold State.tryWithdraw at ho
  have hleft : s.holdsOrder i .opens → False := by
    intro hs
    obtain ⟨m, hm, hphase, hqueued, htarget⟩ := h hs
    rw [hm] at ho
    dsimp only at ho
    rw [if_pos ⟨hphase, hqueued, by rw [htarget, hmay]⟩, State.holdsOrder_setMovement] at ho
    split at ho
    · exact (State.orderStop_holdsOpen ho).2 rfl
    · rw [State.holdsOrder_of_queue (State.setCommand_queue _ _ _ _)] at ho
      exact (State.withdraw_holdsOpen ho).2 rfl
  split at ho
  · split at ho
    · rw [State.holdsOrder_setMovement] at ho
      split at ho
      · exact hleft (State.orderStop_holdsOpen ho).1
      · rw [State.holdsOrder_of_queue (State.setCommand_queue _ _ _ _)] at ho
        exact hleft (State.withdraw_holdsOpen ho).1
    · exact hleft ho
  · exact hleft ho

theorem State.testHigh_rises (hlow : (s.chamber c).high = false) (h : ((s.testHigh c).chamber c).high = true) :
    s.testHigh c = s.setHigh c := by
  unfold State.testHigh at h ⊢
  split at h
  · rw [if_neg (ne_true_of_eq_false hlow), if_neg (ne_true_of_eq_false hlow)] at h ⊢
    split at h
    · rename_i hover
      rw [if_pos hover]
    · rw [hlow] at h
      exact nomatch h
  · rw [hlow] at h
    exact nomatch h

theorem State.fedChamber_feedPath (c : Chamber) : fedChamber (feedPath c) = some c := by cases c <;> rfl

theorem State.notify_flight (k : NoticeKind) (o : Nat) (p : List Field) :
    (s.notify k o p).line = s.line ∧ (s.notify k o p).mach = s.mach := by
  unfold State.notify
  split <;> exact ⟨rfl, rfl⟩

theorem State.opensWaiting_of_flight (h : s.opensWaiting i) (hl : t.line = s.line) (hm : t.mach = s.mach) :
    t.opensWaiting i := by
  simpa only [State.opensWaiting, State.holdsOrder, State.station, State.item, hl, hm] using h

/-- A HIGH flag that becomes set leaves no OPEN of the path that feeds the chamber. -/
theorem State.setHigh_noOpen (hq : oneEntryPerSlot (s.station (itemStation (feedPath c))).queue)
    (h : s.opensWaiting (feedPath c)) : ¬(s.setHigh c).holdsOrder (feedPath c) .opens := by
  unfold State.setHigh
  dsimp only
  obtain ⟨hline, hmach⟩ := State.notify_flight (s := s.setChamber c { s.chamber c with high := true }) .high
    (chamberCode c) [num 1 (chamberCode c), flag true]
  have hlevel := State.notify_level (s.setChamber c { s.chamber c with high := true }) .high
    (chamberCode c) [num 1 (chamberCode c), flag true]
  rw [← State.noticeHigh] at hline hmach hlevel
  generalize (s.setChamber c { s.chamber c with high := true }).noticeHigh c true = u at hline hmach hlevel ⊢
  have hqueue : (u.station (itemStation (feedPath c))).queue = (s.station (itemStation (feedPath c))).queue :=
    congrArg (fun l : Line => (l.stations.get (itemStation (feedPath c))).queue) hline
  have hwait : u.opensWaiting (feedPath c) := State.opensWaiting_of_flight h hline hmach
  have hwait' := State.requestMove_shut (hqueue ▸ hq) hwait .protective
  have hbeside := u.requestMove_beside (feedPath c) .shut .protective
  generalize (u.requestMove (feedPath c) .shut .protective).2 = v at hwait' hbeside ⊢
  have hhigh : (v.chamber c).high = true := by
    have hv : v.level = _ := (congrArg Beside.level hbeside).trans hlevel
    rw [State.chamber_of_level hv, State.chamber_setChamber_self]
  refine State.tryWithdraw_takes hwait' (Bool.eq_false_of_not_eq_true fun hmay => ?_)
  have hfree := ((v.mayPlace_opened_iff _).1 hmay).2.2 c (State.fedChamber_feedPath c)
  rw [hhigh] at hfree
  exact nomatch hfree

end

/-! ### Settlement -/

/-- Settles O38: the event's levels are those of `State.levelRoundEnd`, taken stage by stage (`Gauge`, `ByChamber`); a
HIGH flag withdraws what its protective close does not. -/
theorem roundEndDerivesTheLevels : Obligations.RoundEndDerivesTheLevels := by
  unfold Obligations.RoundEndDerivesTheLevels
  refine ⟨fun s hp hslot hpoll hpulse => ?_, fun s hidle => ?_, fun c s => ?_, fun c s hlow hhigh hq hwait => ?_⟩
  · obtain ⟨t, ht, hnone, hf⟩ := exec_roundEnd hp (roundEndDue_iff.2 ⟨hslot, hpoll, hpulse⟩)
    have hlevel : (s.setSlot none).level = s.level := rfl
    have hlevels := State.levels_of_fixed hf
    have hequal : t.level.equal = (s.setSlot none).levelRoundEnd.level.equal := congrArg Fixed.equal hf
    have hchamber := roundEnd_chamber hf
    have hhigh := roundEnd_high hf
    have hriver := roundEnd_riverHold hf
    simp only [State.chamber, hlevel] at hhigh hriver
    refine ⟨t, ht, hnone, ?_, fun c => (hchamber c).1, fun k => ?_, fun c => ?_, fun c => ?_, hriver⟩
    · rw [hf]
      exact (s.setSlot none).levelRoundEnd_fixed
    · have hcond : ∀ d, ((s.setSlot none).levelRoundEnd.chamber d).condition = (t.chamber d).condition := fun d =>
        ((State.levelRoundEnd_condition _ d).1).trans (hchamber d).1.2.1.symm
      obtain ⟨habove, hbelow⟩ := hlevels k
      rw [hequal]
      cases ha : t.levelAbove k with
      | none => exact State.levelRoundEnd_counts_none _ (.inl (habove.symm.trans ha))
      | some a =>
        cases hb : t.levelBelow k with
        | none => exact State.levelRoundEnd_counts_none _ (.inr (hbelow.symm.trans hb))
        | some b =>
          have hcount := State.levelRoundEnd_counts _ (habove.symm.trans ha) (hbelow.symm.trans hb)
          simp only [hcond] at hcount
          exact hcount
    · exact hhigh c
    · rw [(hchamber c).2.2.2]
      exact crestStands_iff _ _ _ _
  · exact exec_event_idle rfl (by rw [if_neg (ne_true_of_eq_false hidle)])
  · obtain ⟨htarget, hcount⟩ := s.levelRoundEnd_targetCount c
    refine ⟨htarget, ?_⟩
    rw [hcount]
    cases (s.chamber c).target with
    | none => rfl
    | some x => simp [and_assoc]
  · rw [State.testHigh_rises hlow hhigh]
    exact State.setHigh_noOpen hq hwait

end Sys2Proof.Machine
end

section
/-! WHAT THE RUN LEAVES OF A FACE AND OF A SUSPENDED BATCH: a face whose lamp is FAILED, or while the flight is not
RUNNING, takes up no PROCEED; a suspended batch keeps its reasons and its place in the table. -/

namespace Sys2Proof.Machine

/-! ### The relation -/

/-- While the flight is RUNNING the face is not commanded PROCEED, and its lamp is FAILED. -/
def State.muted (s : State) (f : Face) : Prop :=
  s.halt.state = .running → (s.face f).commanded ≠ .proceed ∧ (s.face f).lamp = some false

/-- `t` comes after `s` in a step: it keeps the face `f` muted, a batch of the numbers `M` with its reasons, and the
hand-overs that wait, and hands over no end of a PROTECTIVE movement. -/
structure State.Follows (M : Option Nat) (f : Face) (s t : State) : Prop where
  muted : s.muted f → t.muted f
  batch : ∀ m ∈ M, ∀ b, s.batch? m = some b → ∃ b', t.batch? m = some b' ∧ ∀ r ∈ b.reasons, r ∈ b'.reasons
  events : ∃ new, t.hand.toRun = s.hand.toRun ++ new ∧ ∀ e ∈ new, ∀ i, e ≠ .joinedShut i

/-- The batch of the number, if it is one of `M`, is suspended. -/
def State.hurt (s : State) (M : Option Nat) : Prop := ∀ m ∈ M, ∃ b, s.batch? m = some b ∧ b.reasons ≠ []

/-- What the relation looks at. -/
def State.voice (s : State) : Signals × HaltState × List Batch × List RunEvent :=
  (s.signal, s.halt.state, s.traffic.batches, s.hand.toRun)

section

variable {M : Option Nat} {f : Face} {s t u : State}

theorem State.muted_of_signal (hs : t.signal = s.signal) (hh : t.halt.state = s.halt.state) (h : s.muted f) : t.muted f := by
  simpa only [State.muted, State.face, hs, hh] using h

theorem State.Follows.of_frame (hs : t.signal = s.signal) (hh : t.halt.state = s.halt.state)
    (hb : ∀ m ∈ M, ∀ b, s.batch? m = some b → ∃ b', t.batch? m = some b' ∧ ∀ r ∈ b.reasons, r ∈ b'.reasons)
    (he : t.hand.toRun = s.hand.toRun) : State.Follows M f s t :=
  ⟨State.muted_of_signal hs hh, hb, [], by rw [he, List.append_nil], nofun⟩

theorem State.Follows.of_voice (h : t.voice = s.voice) : State.Follows M f s t := by
  simp only [State.voice, Prod.mk.injEq] at h
  obtain ⟨hs, hh, hb, he⟩ := h
  exact .of_frame hs hh (fun m _ b hm => ⟨b, (State.batch?_of_batches hb m).trans hm, fun _ => id⟩) he

theorem State.Follows.refl (s : State) : State.Follows M f s s := .of_voice rfl

theorem State.Follows.trans (h : State.Follows M f s t) (k : State.Follows M f t u) : State.Follows M f s u := by
  obtain ⟨n1, e1, p1⟩ := h.events
  obtain ⟨n2, e2, p2⟩ := k.events
  refine ⟨k.muted ∘ h.muted, fun m hm b hb => ?_, n1 ++ n2, by rw [e2, e1, List.append_assoc], fun e he => ?_⟩
  · obtain ⟨b', hb', hr⟩ := h.batch m hm b hb
    obtain ⟨b'', hb'', hr'⟩ := k.batch m hm b' hb'
    exact ⟨b'', hb'', fun r hm => hr' r (hr r hm)⟩
  · exact (List.mem_append.1 he).elim (p1 e) (p2 e)

theorem State.Follows.voice (h : State.Follows M f s t) (hu : u.voice = t.voice) : State.Follows M f s u :=
  h.trans (.of_voice hu)

theorem State.Follows.hurt (h : State.Follows M f s t) (hs : s.hurt M) : t.hurt M := by
  intro m hm
  obtain ⟨b, hb, hne⟩ := hs m hm
  obtain ⟨b', hb', hr⟩ := h.batch m hm b hb
  obtain ⟨r, hmem⟩ := List.exists_mem_of_ne_nil _ hne
  exact ⟨b', hb', List.ne_nil_of_mem (hr r hmem)⟩

theorem State.hurt.ne (h : s.hurt M) {n : Nat} {b : Batch} {r : StepRec} (ha : s.active? n = some (b, r)) :
    ∀ m ∈ M, b.number ≠ m := by
  rintro m hm rfl
  obtain ⟨hb, -, hsus, hnum⟩ := State.active?_some ha
  obtain ⟨b', hb', hne⟩ := h _ hm
  rw [hnum, hb] at hb'
  rw [Option.some.inj hb', Batch.suspended, List.isEmpty_eq_false_iff.2 hne] at hsus
  exact nomatch hsus

theorem State.Follows.foldl {α : Type} {g : State → α → State} (h : ∀ s a, State.Follows M f s (g s a)) (xs : List α) :
    ∀ s : State, State.Follows M f s (xs.foldl g s) := by
  induction xs with
  | nil => exact fun s => .refl s
  | cons x xs ih => exact fun s => (h s x).trans (ih _)

/-- A fold over a list keeps a relation that each step keeps where no batch of `M` runs. -/
theorem State.Follows.foldl_hurt {α : Type} {g : State → α → State} (h : ∀ s a, s.hurt M → State.Follows M f s (g s a))
    (xs : List α) : ∀ s : State, s.hurt M → State.Follows M f s (xs.foldl g s) := by
  induction xs with
  | nil => exact fun s _ => .refl s
  | cons x xs ih => exact fun s hs => (h s x hs).trans (ih _ ((h s x hs).hurt hs))

theorem State.Follows.emit (e : RunEvent) (he : ∀ i, e ≠ .joinedShut i) : State.Follows M f s (s.emit e) :=
  ⟨id, fun _ _ b hb => ⟨b, hb, fun _ => id⟩, [e], rfl, fun x hx => by rw [List.mem_singleton.1 hx]; exact he⟩

/-! ### What it does not see -/

section

variable (s : State)

@[simp] theorem State.notify_voice (k : NoticeKind) (o : Nat) (p : List Field) : (s.notify k o p).voice = s.voice := by
  rw [State.notify_withNotices]
  rfl

theorem State.voice_of_duty (hd : t.duty = s.duty) (hb : t.beside = s.beside) : t.voice = s.voice := by
  have hs : t.signal = s.signal := congrArg Beside.signal hb
  have hh : t.halt = s.halt := congrArg Beside.halt hb
  have ht : t.traffic = s.traffic := congrArg Beside.traffic hb
  have he : t.hand.toRun = s.hand.toRun := congrArg Duty.events hd
  rw [State.voice, hs, hh, ht, he]
  rfl

@[simp] theorem State.requestMove_voice (i : Item) (x : Target) (n : Nat) (st : Step) :
    (s.requestMove i x (.batch n st)).2.voice = s.voice :=
  State.voice_of_duty s (s.requestMove_duty i x n st) (s.requestMove_beside i x _)

@[simp] theorem State.requestStop_voice (i : Item) : (s.requestStop i).voice = s.voice :=
  State.voice_of_duty s (s.requestStop_duty i) (State.orderStop_beside _ _)

@[simp] theorem State.retest_voice : s.retest.voice = s.voice :=
  State.voice_of_duty s s.retest_duty (foldl_frame State.beside
    (fun u i => (State.tryPlace_beside _ i).trans (u.tryWithdraw_beside i)) _ s)

@[simp] theorem State.withdrawTarget_voice (st : Step) (p : Phase) : (s.withdrawTarget st p).voice = s.voice := by
  unfold State.withdrawTarget
  split <;> rfl

@[simp] theorem State.nameTarget_voice (st : Step) : (s.nameTarget st).voice = s.voice := by
  unfold State.nameTarget
  split <;> rfl

@[simp] theorem State.raiseFault_voice (k : FaultKind) (src : FaultSource) (l n : Bool) (i : Item)
    (b : Option (Nat × Step)) : (s.raiseFault k src l n i b).voice = s.voice := by
  unfold State.raiseFault State.changeFault State.newFault State.noticeRaised
  dsimp only
  repeat' split
  · rfl
  · exact State.notify_voice _ _ _ _
  · exact State.notify_voice _ _ _ _
  · rfl

@[simp] theorem State.evaluateReceipts_voice : s.evaluateReceipts.voice = s.voice := by
  unfold State.evaluateReceipts State.noticeReceipts
  dsimp only
  split
  · rfl
  · exact State.notify_voice _ _ _ _

end

/-! ### Batches -/

theorem State.modBatch_follows (s : State) (n : Nat) {g : Batch → Batch} (hn : ∀ b, (g b).number = b.number)
    (hr : ∀ b, (g b).reasons = b.reasons) : State.Follows M f s (s.modBatch n g) := by
  refine .of_frame rfl rfl (fun m _ b hb => ?_) rfl
  rw [State.batch?_modBatch s m n (f := g) hn, hb]
  split
  · exact ⟨g b, rfl, fun r hm => (hr b).symm ▸ hm⟩
  · exact ⟨b, rfl, fun _ => id⟩

theorem State.modStep_follows (s : State) (n : Nat) (g : StepRec → StepRec) : State.Follows M f s (s.modStep n g) :=
  s.modBatch_follows n (g := fun b => { b with step := b.step.map g }) (fun _ => rfl) fun _ => rfl

theorem State.setPhase_follows (s : State) (n : Nat) (p : Phase) : State.Follows M f s (s.setPhase n p) :=
  s.modStep_follows n _

theorem State.addReason_follows (s : State) (n : Nat) (r : Reason) : State.Follows M f s (s.addReason n r) := by
  have hbatch := (s.addReason_eases n r).reasons
  have hvoice : (s.addReason n r).signal = s.signal ∧ (s.addReason n r).halt.state = s.halt.state ∧
      (s.addReason n r).hand.toRun = s.hand.toRun := by
    unfold State.addReason
    split
    · exact ⟨rfl, rfl, rfl⟩
    · split
      · exact ⟨rfl, rfl, rfl⟩
      · dsimp only
        rw [State.noticeSuspended, State.notify_withNotices]
        exact ⟨rfl, rfl, rfl⟩
  exact .of_frame hvoice.1 hvoice.2.1 (fun m _ b hb => hbatch m b hb) hvoice.2.2

/-! ### Faces -/

theorem State.setFace_follows (s : State) (g : Face) {r : FaceRec} (hc : r.commanded = (s.face g).commanded)
    (hl : r.lamp = (s.face g).lamp) : State.Follows M f s (s.setFace g r) := by
  refine ⟨fun h => ?_, fun _ _ b hb => ⟨b, hb, fun _ => id⟩, [], (List.append_nil _).symm, nofun⟩
  unfold State.muted at h ⊢
  rw [State.face_setFace]
  split
  · rename_i hg
    rw [hc, hl, ← hg]
    exact h
  · exact h

/-- A face takes up PROCEED only with its lamp not FAILED and the flight RUNNING. -/
theorem State.muted_aspect (h : s.muted f) : s.aspectFor f ≠ .proceed := by
  intro ha
  have hgranted := s.proceedGranted_of_aspect ha
  have hrun : s.halt.state = .running := by
    by_contra hn
    simp [State.proceedGranted, State.mayProceed, isRunning, hn] at hgranted
  obtain ⟨hne, hl⟩ := h hrun
  have hmay := s.mayProceed_of_aspect ha hne
  simp [State.mayProceed, hl] at hmay

theorem State.deriveFace_follows (s : State) (g : Face) : State.Follows M f s (s.deriveFace g) := by
  have hlamp : ((s.deriveFace g).face f).lamp = (s.face f).lamp :=
    congrArg (·.2.1) (congrFun (congrArg (·.seen.faces) (s.deriveFace_steady g)) f)
  have hduty := s.deriveFace_duty g
  refine ⟨fun h hrun => ⟨?_, ?_⟩, fun m _ b hb => ⟨b, (State.batch?_of_batches (congrArg Duty.batches hduty) m).trans hb,
    fun _ => id⟩, [], ?_, nofun⟩
  · rw [State.deriveFace_commanded]
    split
    · rename_i hg
      exact hg ▸ State.muted_aspect h
    · exact (h ((s.deriveFace_frame g).1 ▸ hrun)).1
  · rw [hlamp]
    exact (h ((s.deriveFace_frame g).1 ▸ hrun)).2
  · rw [List.append_nil]
    exact congrArg Duty.events hduty

theorem State.requestProceed_follows (s : State) (g : Face) (n : Nat) (st : Step) :
    State.Follows M f s (s.requestProceed g n st) :=
  (s.setFace_follows g (r := { s.face g with request := some (n, st) }) rfl rfl).trans (State.deriveFace_follows _ g)

theorem State.answerStopWait_follows (s : State) (g : Face) : State.Follows M f s (s.answerStopWait g) := by
  unfold State.answerStopWait
  split
  · split
    · exact (s.setFace_follows g (r := { s.face g with stopWait := none }) rfl rfl).trans
        (.emit (.faceStopped _ _) nofun)
    · exact .refl s
  · exact .refl s

theorem State.requestFaceStop_follows (s : State) (g : Face) (n : Nat) (st : Step) :
    State.Follows M f s (s.requestFaceStop g n st) := by
  have hfree := (s.setFace_follows (M := M) (f := f) g (r := { s.face g with request := none }) rfl rfl).trans
    (State.deriveFace_follows _ g)
  unfold State.requestFaceStop
  generalize (s.setFace g { s.face g with request := none }).deriveFace g = t at hfree ⊢
  exact (hfree.trans (t.setFace_follows g (r := { t.face g with stopWait := some (n, st) }) rfl rfl)).trans
    (State.answerStopWait_follows _ g)

theorem State.withdrawStopWait_follows (s : State) (g : Face) (n : Nat) :
    State.Follows M f s (s.withdrawStopWait g n) := by
  unfold State.withdrawStopWait
  split
  · split
    · exact s.setFace_follows g (r := { s.face g with stopWait := none }) rfl rfl
    · exact .refl s
  · exact .refl s

end

end Sys2Proof.Machine
end

section
/-! THE RUN AND ITS ROUNDS under `State.Follows`: every hand-over of a step, and the end of a step. -/

namespace Sys2Proof.Machine

section

variable {M : Option Nat} {f : Face} {s t : State}

/-! ### Suspension -/

theorem State.safeRequests_follows (s : State) (n : Nat) (d : Direction) (st : Step) (p : Phase) :
    State.Follows M f s (s.safeRequests n d st p) := by
  have hwater : ∀ i : Item, State.Follows M f s (addAnswer n (s.requestMove i .shut (.batch n st))) := by
    intro i
    have hmove := State.Follows.of_voice (M := M) (f := f) (s.requestMove_voice i .shut n st)
    unfold addAnswer
    split
    · exact hmove.trans (State.addReason_follows _ _ _)
    · exact hmove
  have hstop : ∀ g : Station, State.Follows M f s (s.requestStop (.gate g)) := fun g => .of_voice (s.requestStop_voice _)
  unfold State.safeRequests
  split
  · exact hwater _
  · exact hwater _
  · exact hwater _
  · exact hstop _
  · exact hstop _
  · exact ((hstop _).trans (State.requestFaceStop_follows _ _ _ _)).trans (State.withdrawStopWait_follows _ _ _)
  · exact (hstop _).trans (State.withdrawStopWait_follows _ _ _)
  · exact .refl s

theorem State.makeSafe_follows (s : State) (b : Batch) : State.Follows M f s (s.makeSafe b) := by
  unfold State.makeSafe
  split
  · exact s.modBatch_follows _ (fun _ => rfl) fun _ => rfl
  · rename_i r _
    have hhalted := (State.Follows.of_voice (M := M) (f := f) (s.withdrawTarget_voice b.current r.phase)).trans
      (State.modBatch_follows _ b.number (g := fun x => { x with preparation := [], step := x.step.map StepRec.halted })
        (fun _ => rfl) fun _ => rfl)
    dsimp only
    split
    · exact hhalted.trans (State.safeRequests_follows _ _ _ _ _)
    · exact hhalted

theorem State.suspend_follows (s : State) (n : Nat) (r : Reason) : State.Follows M f s (s.suspend n r) := by
  unfold State.suspend
  split
  · exact .refl s
  · split
    · exact s.addReason_follows n r
    · exact (s.addReason_follows n r).trans (State.makeSafe_follows _ _)

theorem State.stepFault_follows (s : State) (b : Batch) (k : FaultKind) (c : Chamber) (r : Reason) :
    State.Follows M f s (s.stepFault b k c r) :=
  (State.Follows.of_voice (s.raiseFault_voice _ _ _ _ _ _)).trans (State.suspend_follows _ _ _)

/-! ### The end of a step -/

theorem State.endWaterStep_follows (s : State) (b : Batch) (m : Bool) : State.Follows M f s (s.endWaterStep b m) := by
  have hadvance : ∀ u : State, State.Follows M f u ((u.noticeStepDone b m).modBatch b.number Batch.advance) := fun u =>
    (State.Follows.of_voice (u.notify_voice _ _ _)).trans (State.modBatch_follows _ _
      (fun b => by unfold Batch.advance; split <;> rfl) fun b => by unfold Batch.advance; split <;> rfl)
  unfold State.endWaterStep
  dsimp only
  split
  · exact (s.modBatch_follows b.number (g := fun x => { x with meter := x.meter.close s.meterLevel })
      (fun _ => rfl) fun _ => rfl).trans (hadvance _)
  · exact hadvance s

/-- A batch that completes takes no other out of the table. -/
theorem State.completeBatch_follows (s : State) (b : Batch) (h : ∀ m ∈ M, b.number ≠ m) :
    State.Follows M f s (s.completeBatch b) := by
  have hremoved : State.Follows M f s ((s.assess b).removeBatch b.number) := by
    refine .of_frame rfl rfl (fun m hm x hx => ⟨x, ?_, fun _ => id⟩) rfl
    refine Eq.trans (List.find?_filter.trans ?_) hx
    refine congrArg (fun p => s.traffic.batches.find? p) (funext fun y => ?_)
    by_cases hy : y.number = m
    · have hne : y.number ≠ b.number := fun heq => h m hm (heq.symm.trans hy)
      simp [hy, hy ▸ hne]
    · simp [hy]
  unfold State.completeBatch
  dsimp only
  refine (hremoved.voice (State.evaluateReceipts_voice _)).trans ?_
  exact (State.Follows.of_voice (State.notify_voice _ _ _ _)).trans (.of_voice rfl)

theorem State.endStep_follows (s : State) (b : Batch) (h : ∀ m ∈ M, b.number ≠ m) :
    State.Follows M f s (s.endStep b) := by
  unfold State.endStep
  split
  · exact s.endWaterStep_follows b true
  · unfold State.endGateStep
    have hdone := State.Follows.of_voice (M := M) (f := f) (s.notify_voice .stepDone b.number
      [num 1 b.number, num 1 (stepCodeOf b.current), flag false])
    dsimp only
    split
    · exact hdone.trans (State.completeBatch_follows _ b h)
    · exact hdone.trans (State.modBatch_follows _ _ (fun b => by unfold Batch.advance; split <;> rfl)
        fun b => by unfold Batch.advance; split <;> rfl)

theorem State.requestClose_follows (s : State) {n : Nat} (h : ∀ m ∈ M, n ≠ m) :
    State.Follows M f s (s.requestClose n) := by
  unfold State.requestClose
  split
  · exact .refl s
  · rename_i b hb
    obtain ⟨hnum, -⟩ := State.batch?_some hb
    have hmove := (s.setPhase_follows (M := M) (f := f) n .closing).voice
      (State.requestMove_voice _ (stepItem b.current) .shut n b.current)
    dsimp only
    split
    · exact hmove.trans (State.endStep_follows _ b (hnum ▸ h))
    · exact hmove
    · exact hmove.trans (State.suspend_follows _ _ _)

/-! ### Water steps -/

theorem State.enterFlowing_follows (s : State) (n : Nat) : State.Follows M f s (s.enterFlowing n) := s.modStep_follows n _

theorem State.openSegment_follows (s : State) (n : Nat) : State.Follows M f s (s.openSegment n) :=
  s.modBatch_follows n (g := fun b => { b with meter := b.meter.begin s.meterLevel }) (fun _ => rfl) fun _ => rfl

theorem State.requestOpen_follows (s : State) (b : Batch) : State.Follows M f s (s.requestOpen b) := by
  have hmove := ((s.setPhase_follows (M := M) (f := f) b.number .opening).voice (State.nameTarget_voice _ b.current)).voice
    (State.requestMove_voice _ (stepItem b.current) .opened b.number b.current)
  unfold State.requestOpen
  dsimp only
  split
  · exact hmove.trans (State.suspend_follows _ _ _)
  · exact hmove
  · split
    · exact (hmove.trans (State.openSegment_follows _ _)).trans (State.enterFlowing_follows _ _)
    · exact hmove.trans (State.enterFlowing_follows _ _)

theorem State.roomCheck_follows (s : State) (b : Batch) (r : StepRec) (i : Item) :
    State.Follows M f s (s.roomCheck b r i) := by
  have hroom : State.Follows M f s (s.noRoom b r i) := by
    unfold State.noRoom
    dsimp only
    split
    · exact s.suspend_follows _ _
    · split
      · exact s.stepFault_follows _ _ _ _
      · exact s.modBatch_follows _ (fun _ => rfl) fun _ => rfl
  unfold State.roomCheck
  split
  · exact s.requestOpen_follows b
  · exact s.setPhase_follows _ _
  · exact hroom

theorem State.waterTests_follows (s : State) (b : Batch) (r : StepRec) (i : Item) (e : WaterEnd) :
    State.Follows M f s (s.waterTests b r i e) := by
  have hlist : ∀ c x, State.Follows M f s (s.buildList b r c x) := by
    intro c x
    unfold State.buildList
    split
    · exact s.stepFault_follows _ _ _ _
    · exact s.modBatch_follows _ (fun _ => rfl) fun _ => rfl
  unfold State.waterTests
  split
  · exact s.suspend_follows _ _
  · split
    · exact s.endWaterStep_follows _ _
    · split
      · split
        · exact s.roomCheck_follows _ _ _
        · split
          · exact s.setPhase_follows _ _
          · exact hlist _ _
      · exact s.roomCheck_follows _ _ _

theorem State.closeWater_follows (s : State) (b : Batch) (h : ∀ m ∈ M, b.number ≠ m) :
    State.Follows M f s (s.closeWater b) :=
  ((State.Follows.of_voice (s.withdrawTarget_voice b.current .flowing)).trans (State.modStep_follows _ _ _)).trans
    (State.requestClose_follows _ h)

/-! ### Gate steps -/

theorem State.enterOpen_follows (s : State) (b : Batch) (g : Station) : State.Follows M f s (s.enterOpen b g) :=
  (s.modStep_follows b.number _).trans (State.requestProceed_follows _ _ _ _)

theorem State.tryReady_follows (s : State) (b : Batch) (g : Station) : State.Follows M f s (s.tryReady b g) := by
  have hmove := (s.setPhase_follows (M := M) (f := f) b.number .opening).voice
    (State.requestMove_voice _ (.gate g) .opened b.number b.current)
  unfold State.tryReady
  dsimp only
  split
  · split
    · exact hmove.trans (State.suspend_follows _ _ _)
    · exact hmove.trans (State.enterOpen_follows _ _ _)
    · exact hmove
  · exact .refl s

theorem State.moveReady_follows (s : State) (b : Batch) (g : Station) : State.Follows M f s (s.moveReady b g) :=
  (s.modStep_follows b.number _).voice (State.notify_voice _ _ _ _)

theorem State.takeClaims_follows (s : State) (b : Batch) : State.Follows M f s (s.takeClaims b) := by
  have hclaims := s.modStep_follows (M := M) (f := f) b.number fun r => { r with claims := stepClaims b.current }
  unfold State.takeClaims
  dsimp only
  split
  · exact hclaims.trans (State.waterTests_follows _ _ _ _ _)
  · split
    · exact (hclaims.trans (State.modStep_follows _ _ _)).trans (State.requestFaceStop_follows _ _ _ _)
    · exact (hclaims.trans (State.setPhase_follows _ _ _)).trans (State.tryReady_follows _ _ _)

/-! ### The hand-overs -/

theorem State.batchGateReport_follows (s : State) (n : Nat) : State.Follows M f s (s.batchGateReport n) := by
  unfold State.batchGateReport
  split
  · exact .refl s
  · split
    · exact s.tryReady_follows _ _
    · exact .refl s

theorem State.takeProceed_follows (s : State) (g : Face) : State.Follows M f s (s.takeProceed g) := by
  refine State.Follows.foldl (fun u b => ?_) _ s
  split
  · split
    · split
      · exact u.moveReady_follows _ _
      · exact .refl u
    · exact .refl u
  · exact .refl u

theorem State.takeComplete_follows (hs : s.hurt M) (n : Nat) (i : Item) (x : Target) :
    State.Follows M f s (s.takeComplete n i x) := by
  unfold State.takeComplete
  split
  · exact .refl s
  · rename_i b r ha
    split
    · split
      · exact s.endStep_follows b (hs.ne ha)
      · split
        · exact s.enterOpen_follows _ _
        · exact .refl s
      · exact .refl s
    · exact .refl s

theorem State.takeTaken_follows (s : State) (n : Nat) (i : Item) (x : Target) :
    State.Follows M f s (s.takeTaken n i x) := by
  have hopen : State.Follows M f s (if i = .sluice .k0 ∧ x = .opened then s.openSegment n else s) := by
    split
    · exact s.openSegment_follows n
    · exact .refl s
  unfold State.takeTaken
  dsimp only
  split
  · exact hopen
  · split
    · exact hopen.trans (State.enterFlowing_follows _ _)
    · exact hopen

theorem State.takeFaceStopped_follows (hs : s.hurt M) (n : Nat) (st : Step) :
    State.Follows M f s (s.takeFaceStopped n st) := by
  unfold State.takeFaceStopped
  split
  · exact .refl s
  · rename_i b r ha
    obtain ⟨-, -, -, hnum⟩ := State.active?_some ha
    split
    · exact s.requestClose_follows (hnum ▸ hs.ne ha)
    · exact .refl s

theorem State.batchRoundEnd_follows (hs : s.hurt M) (n : Nat) : State.Follows M f s (s.batchRoundEnd n) := by
  unfold State.batchRoundEnd
  split
  · exact .refl s
  · rename_i b r ha
    split
    · exact (s.modStep_follows n _).trans (State.waterTests_follows _ _ _ _ _)
    · split
      · exact s.closeWater_follows b (hs.ne ha)
      · exact .refl s
    · exact s.tryReady_follows _ _
    · exact .refl s

theorem State.setBatches_follows (s : State) {g : Batch → Batch} (hn : ∀ b, (g b).number = b.number)
    (hr : ∀ b, (g b).reasons = b.reasons) : State.Follows M f s (s.setBatches (s.traffic.batches.map g)) := by
  refine .of_frame rfl rfl (fun m _ b hb => ⟨g b, ?_, fun r hm => (hr b).symm ▸ hm⟩) rfl
  refine (find_map_number hn s.traffic.batches).trans ?_
  exact congrArg (Option.map g) hb

theorem State.suspendWhere_follows (s : State) (p : Batch → Bool) (r : Reason) :
    State.Follows M f s (s.suspendWhere p r) :=
  State.Follows.foldl (fun u (b : Batch) => u.suspend_follows b.number r) _ s

/-- Every hand-over but the end of a PROTECTIVE movement, where no batch of `M` runs. -/
theorem State.deliver_follows (hs : s.hurt M) {e : RunEvent} (he : M ≠ none → ∀ i, e ≠ .joinedShut i) :
    State.Follows M f s (s.deliver e) := by
  cases e with
  | complete n i x => exact s.takeComplete_follows hs n i x
  | suspend n r => exact s.suspend_follows n r
  | taken n i x => exact s.takeTaken_follows n i x
  | joinedShut i =>
    obtain rfl : M = none := by
      by_contra hne
      exact he hne i rfl
    change State.Follows none f s (s.takeJoined i)
    unfold State.takeJoined
    split
    · exact s.endStep_follows _ nofun
    · exact .refl s
  | faceStopped n st => exact s.takeFaceStopped_follows hs n st
  | proceedShown g => exact s.takeProceed_follows g
  | suspendItem i r => exact s.suspendWhere_follows _ r
  | suspendStation k r => exact s.suspendWhere_follows _ r
  | disputed c => exact s.suspendWhere_follows _ _
  | gateReport => exact State.Follows.foldl (fun u n => u.batchGateReport_follows n) _ s
  | headSluiceShut => exact s.setBatches_follows (fun _ => rfl) fun _ => rfl
  | roundEnd =>
    have hclose : State.Follows M f s s.startUpClose := by
      unfold State.startUpClose
      split
      · exact s.setBatches_follows (fun b => by split <;> rfl) fun b => by split <;> rfl
      · exact .refl s
    exact hclose.trans (State.Follows.foldl_hurt (fun u n hu => u.batchRoundEnd_follows hu n) _ _ (hclose.hurt hs))

/-! ### The rounds -/

theorem State.evaluateAdmission_follows (s : State) : State.Follows M f s s.evaluateAdmission := by
  have hjoins : ∀ (u : State) (d : Direction) (e : Edition) (ms : List Passage) (ns : List Notice), u.voice = s.voice →
      State.Follows M f s (({ u with traffic := u.admittedTraffic d e ms } : State).withNotices ns) := by
    intro u d e ms ns hu
    refine (State.Follows.of_voice hu).trans (.of_frame rfl rfl (fun m _ b hb => ⟨b, ?_, fun _ => id⟩) rfl)
    exact (List.find?_append).trans (by rw [State.batch?] at hb; rw [hb]; rfl)
  rcases s.evaluateAdmission_cases with h | h | ⟨u, d, ms, e, ns, ha, -, h⟩
  · rw [h]
    exact .refl s
  · rw [h]
    exact .of_voice rfl
  · rw [h]
    refine hjoins u d e ms ns ?_
    cases ha <;> rfl

/-- No end of a PROTECTIVE movement waits. -/
def State.noJoin (s : State) : Prop := ∀ e ∈ s.hand.toRun, ∀ i, e ≠ .joinedShut i

/-- A round of the hand-overs, first in, first out. -/
theorem State.round_follows (hs : s.hurt M) (hj : M ≠ none → s.noJoin) (h : s.settleOne = some t) :
    ∃ u : State, u.signal = s.signal ∧ u.halt = s.halt ∧ u.traffic = s.traffic ∧
      u.hand.toRun = s.hand.toRun.drop 1 ∧ State.Follows M f u t := by
  rcases State.settleOne_cases h with ⟨e, rest, he, rfl⟩ | ⟨hnil, ⟨b, hb, rfl⟩ | ⟨-, rfl⟩ | ⟨-, rfl⟩⟩
  · have hplain : M ≠ none → ∀ i, e ≠ .joinedShut i := fun hM => hj hM e (he ▸ List.mem_cons_self)
    have hdeliver := State.deliver_follows (f := f) (s := s.popEvent) hs hplain
    exact ⟨s.popEvent, rfl, rfl, rfl, rfl, hdeliver⟩
  · exact ⟨s, rfl, rfl, rfl, by rw [hnil]; rfl, s.takeClaims_follows b⟩
  · have hgone : ∀ u : State, u.hand.toRun = s.hand.toRun → u.hand.toRun = s.hand.toRun.drop 1 := fun u hu => by
      rw [hu, hnil]
      rfl
    exact ⟨{ s with hand := { s.hand with evaluate := false } }, rfl, rfl, rfl, hgone _ rfl,
      State.evaluateAdmission_follows _⟩
  · have hgone : ∀ u : State, u.hand.toRun = s.hand.toRun → u.hand.toRun = s.hand.toRun.drop 1 := fun u hu => by
      rw [hu, hnil]
      rfl
    exact ⟨{ s with hand := { s.hand with retest := false } }, rfl, rfl, rfl, hgone _ rfl,
      .of_voice (State.retest_voice _)⟩

end

/-! ### The end of a step keeps a face muted -/

section

variable {f : Face} {s t : State}

theorem State.settleLoop_muted (h : s.muted f) (n : Nat) : (State.settleLoop n s).muted f := by
  refine State.settleLoop_keeps (I := fun u => u.muted f) (fun u v hround hu => ?_) n s h
  obtain ⟨w, hw, hh, -, -, hf⟩ := State.round_follows (M := none) (f := f) nofun (fun hne => absurd rfl hne) hround
  exact hf.muted (State.muted_of_signal hw (congrArg Halt.state hh) hu)

theorem State.takeCauses_muted (h : s.muted f) : s.takeCauses.muted f := by
  cases hc : s.hand.toHalt with
  | nil => rwa [State.takeCauses_of_none hc]
  | cons c cs =>
    intro hrun
    rw [(State.takeCauses_halts (s := s) (c := c) (by rw [hc]; exact List.mem_cons_self)).1] at hrun
    exact nomatch hrun

theorem State.finish_muted (h : s.muted f) : (s.finish.face f).commanded ≠ .proceed := by
  have hlast := State.takeCauses_muted (State.settleLoop_muted (State.takeCauses_muted
    (State.settleLoop_muted h settleFuel)) settleFuel)
  have hfits := s.finish_faceFits f
  rw [State.finish_eq] at hfits ⊢
  generalize (State.settleLoop settleFuel (State.settleLoop settleFuel s).takeCauses).takeCauses = v at hlast hfits ⊢
  have hfaces : v.deriveFaces.muted f :=
    (State.Follows.foldl (M := none) (fun u g => State.deriveFace_follows u g) allFaces v).muted hlast
  obtain ⟨hhalt, -, hsignal⟩ := v.deriveFaces.indications_frame
  intro hp
  exact (State.muted_of_signal hsignal (congrArg Halt.state hhalt) hfaces (hfits hp).1).1 hp

end

/-! ### A suspension that waits is taken, and stands at the end of the step -/

section

variable {m : Nat} {r : Reason} {b : Batch} {s t : State}

/-- The batch of the number has the reason, and no end of a PROTECTIVE movement waits. -/
def State.suspendedFor (s : State) (m : Nat) (r : Reason) : Prop :=
  (∃ y, s.batch? m = some y ∧ r ∈ y.reasons) ∧ s.noJoin

theorem State.suspendedFor.follows (h : s.suspendedFor m r) (hf : State.Follows (some m) ⟨.k0, .upper⟩ s t) :
    t.suspendedFor m r := by
  obtain ⟨⟨y, hy, hr⟩, hj⟩ := h
  obtain ⟨y', hy', hr'⟩ := hf.batch m rfl y hy
  obtain ⟨new, he, hn⟩ := hf.events
  refine ⟨⟨y', hy', hr' r hr⟩, fun e hm => ?_⟩
  rw [he] at hm
  exact (List.mem_append.1 hm).elim (hj e) (hn e)

theorem State.suspendedFor.settleLoop (h : s.suspendedFor m r) (n : Nat) : (State.settleLoop n s).suspendedFor m r := by
  refine State.settleLoop_keeps (I := fun u => u.suspendedFor m r) (fun u v hround hu => ?_) n s h
  have hhurt : u.hurt (some m) := by
    intro k hk
    obtain rfl := Option.some.inj (Option.mem_def.1 hk)
    obtain ⟨⟨y, hy, hr⟩, -⟩ := hu
    exact ⟨y, hy, List.ne_nil_of_mem hr⟩
  obtain ⟨w, -, -, ht, he, hf⟩ := State.round_follows (f := ⟨.k0, .upper⟩) hhurt (fun _ => hu.2) hround
  obtain ⟨⟨y, hy, hr⟩, hj⟩ := hu
  refine State.suspendedFor.follows ⟨⟨y, (State.batch?_of_batches (congrArg Traffic.batches ht) m).trans hy, hr⟩,
    fun e hm => hj e ?_⟩ hf
  rw [he] at hm
  exact List.mem_of_mem_drop hm

/-- What waits before a suspension: reports of a gate, and of PROCEED on a face. -/
def isShown (e : RunEvent) : Prop := e = .gateReport ∨ ∃ g, e = .proceedShown g

theorem State.shown_follows {M : Option Nat} {f : Face} {e : RunEvent} (he : isShown e) (s : State) :
    State.Follows M f s (s.deliver e) := by
  rcases he with rfl | ⟨g, rfl⟩
  · exact State.Follows.foldl (fun u n => u.batchGateReport_follows n) _ s
  · exact s.takeProceed_follows g

theorem State.settleLoop_first {e : RunEvent} {rest : List RunEvent} (he : s.hand.toRun = e :: rest) (n : Nat) :
    State.settleLoop (n + 1) s = State.settleLoop n (s.popEvent.deliver e) := by
  have hone : s.settleOne = some (s.popEvent.deliver e) := by
    unfold State.settleOne
    rw [he]
  rw [State.settleLoop, hone]

theorem State.settleLoop_suspends (pre : List RunEvent) (hpre : ∀ e ∈ pre, isShown e) :
    ∀ (post : List RunEvent) (s : State) (n : Nat) (b : Batch), s.hand.toRun = pre ++ .suspend m r :: post →
      (∀ e ∈ post, ∀ i, e ≠ .joinedShut i) → s.batch? m = some b → pre.length < n →
      (State.settleLoop n s).suspendedFor m r := by
  induction pre with
  | nil =>
    intro post s n b hrun hpost hb hn
    obtain ⟨k, rfl⟩ := Nat.exists_eq_add_one_of_ne_zero (Nat.ne_of_gt hn)
    rw [State.settleLoop_first hrun]
    refine State.suspendedFor.settleLoop ⟨State.batch?_suspend (s := s.popEvent) hb r, fun e he => ?_⟩ k
    obtain ⟨new, hnew, hplain⟩ := (s.popEvent.suspend_follows (M := none) (f := ⟨.k0, .upper⟩) m r).events
    have hpost' : s.popEvent.hand.toRun = post := congrArg (List.drop 1) hrun
    have he' : e ∈ post ++ new := hpost' ▸ hnew ▸ he
    exact (List.mem_append.1 he').elim (hpost e) (hplain e)
  | cons x pre ih =>
    intro post s n b hrun hpost hb hn
    obtain ⟨k, rfl⟩ := Nat.exists_eq_add_one_of_ne_zero (Nat.ne_of_gt (Nat.zero_lt_of_lt hn))
    rw [State.settleLoop_first hrun]
    have hf := State.shown_follows (M := some m) (f := ⟨.k0, .upper⟩) (hpre x List.mem_cons_self) s.popEvent
    obtain ⟨new, hnew, hplain⟩ := hf.events
    obtain ⟨b', hb', -⟩ := hf.batch m rfl b hb
    have hrest : s.popEvent.hand.toRun = pre ++ .suspend m r :: post := congrArg (List.drop 1) hrun
    refine ih (fun e he => hpre e (List.mem_cons_of_mem x he)) (post ++ new) _ k b' ?_ (fun e he => ?_) hb'
      (Nat.lt_of_succ_lt_succ hn)
    · rw [hnew, hrest, List.append_assoc, List.cons_append]
    · exact (List.mem_append.1 he).elim (hpost e) (hplain e)

theorem State.suspendedFor.of_tasks (h : s.suspendedFor m r) (ht : t.tasks = s.tasks) : t.suspendedFor m r := by
  simp only [State.tasks, Prod.mk.injEq] at ht
  obtain ⟨hhand, hbatches⟩ := ht
  unfold State.suspendedFor State.noJoin
  rw [State.batch?_of_batches hbatches, hhand]
  exact h

theorem State.notify_tasks (s : State) (k : NoticeKind) (o : Nat) (p : List Field) : (s.notify k o p).tasks = s.tasks := by
  rw [State.notify_withNotices]
  rfl

theorem State.lineHalted_tasks (s : State) (c : HaltCause) : (s.lineHalted c).tasks = s.tasks := by
  have hround : (if c = .lineHalt then s else
      s.abortRound.setLine { s.abortRound.line with pulse := true }).tasks = s.tasks := by
    split
    · rfl
    · exact s.abortRound_tasks
  have hqueues : ∀ u : State, u.emptyQueues.tasks = u.tasks := fun u =>
    foldl_frame (f := fun v k => v.setQueue k []) State.tasks (fun _ _ => rfl) allStations u
  unfold State.lineHalted
  dsimp only
  generalize (if c = .lineHalt then s else s.abortRound.setLine { s.abortRound.line with pulse := true }) = u at hround ⊢
  split
  · exact (State.changeRate_tasks _ _).trans ((hqueues u).trans hround)
  · exact (hqueues u).trans hround

/-- An entry into HALTED adds suspensions. -/
theorem State.suspendedFor.takeCause (h : s.suspendedFor m r) (c : HaltCause) : (s.takeCause c).suspendedFor m r := by
  unfold State.takeCause
  split
  · split
    · exact h
    · exact h.of_tasks (State.notify_tasks _ _ _ _)
  · rw [State.enterHalt_eq]
    have hhalted : (((s.haltedBy c).lineHalted c).cancelMovements).suspendedFor m r :=
      h.of_tasks ((s.haltedBy c).lineHalted_tasks c)
    generalize ((s.haltedBy c).lineHalted c).cancelMovements = u at hhalted ⊢
    have hdropped : u.dropFaceRequests.suspendedFor m r :=
      hhalted.of_tasks (foldl_frame (f := fun v g => v.setFace g { v.face g with request := none, stopWait := none })
        State.tasks (fun _ _ => rfl) allFaces u)
    refine State.suspendedFor.of_tasks ?_ (State.notify_tasks _ _ _ _)
    exact foldl_keeps (I := fun v => v.suspendedFor m r) (f := fun v (n : Nat) => v.emit (.suspend n .halt))
      (fun v n hv => hv.follows (.emit (.suspend n .halt) nofun)) _ _ hdropped

theorem State.suspendedFor.takeCauses (h : s.suspendedFor m r) : s.takeCauses.suspendedFor m r :=
  foldl_keeps (I := fun v => v.suspendedFor m r) (f := fun v c => v.takeCause c) (fun _ c hv => hv.takeCause c) s.hand.toHalt
    { s with hand := { s.hand with toHalt := [] } } h

/-- A suspension that waits behind a few reports stands at the end of the step. -/
theorem State.finish_suspends {pre post : List RunEvent} {b : Batch} (hpre : ∀ e ∈ pre, isShown e)
    (hrun : s.hand.toRun = pre ++ .suspend m r :: post) (hpost : ∀ e ∈ post, ∀ i, e ≠ .joinedShut i)
    (hb : s.batch? m = some b) (hn : pre.length < settleFuel) : ∃ y, s.finish.batch? m = some y ∧ r ∈ y.reasons := by
  obtain ⟨⟨y, hy, hr⟩, -⟩ := ((State.settleLoop_suspends pre hpre post s settleFuel b hrun hpost hb
    hn).takeCauses.settleLoop settleFuel).takeCauses
  refine ⟨y, ?_, hr⟩
  rw [State.finish_eq]
  exact (State.batch?_of_batches (State.finalFaces_batches _) m).trans hy

end

end Sys2Proof.Machine
end

section
/-! THE ALL-STOP INTERVAL: SET SIGNAL INTERVAL, and the PROCEED that follows when the far face has been stopped for one
interval. -/

namespace Sys2Proof.Machine

section

variable {s t u : State} {f g : Face}

/-! ### SET SIGNAL INTERVAL -/

theorem setSignalInterval_taken {tag : Octet} {v : Nat} (ht : s.takesRequest (.setSignalInterval tag v) = true) :
    ∃ t, exec (.setSignalInterval tag v) s = .next t ∧
      t.fixed = { s.fixed with order := s.console.order.drop 1, interval := max 10 (min 300 v) } ∧
      t.replyIs tag 0x90#8 none [num 2 (max 10 (min 300 v))] ∧
      (s.calm → ({ s.popRequest with signal := { s.signal with interval := max 10 (min 300 v) } } : State).settlesTo t) := by
  have hclamp : clampSignalInterval v = max 10 (min 300 v) := by
    simp [clampSignalInterval, clampTo_eq_max_min]
  have hact : requestAct (.setSignalInterval tag v) s.popRequest = accept [num 2 (clampSignalInterval v)]
      ({ s.popRequest with signal := { s.signal with interval := clampSignalInterval v } } : State).finish := rfl
  rw [hclamp] at hact
  obtain ⟨t, hexec, hfixed, hreply, -, hset⟩ := exec_request_finished (c := .setSignalInterval tag v) rfl ht rfl hact
  refine ⟨t, hexec, hfixed, hreply, fun hcalm => ?_⟩
  have hquiet := hset (State.quiet_of_tasks hcalm rfl)
  rwa [State.emptied_of_calm (t := { s.popRequest with signal := { s.signal with interval := max 10 (min 300 v) } })
    hcalm rfl] at hquiet

/-! ### The faces derived -/

theorem State.deriveFace_face (s : State) (g f : Face) :
    (s.deriveFace g).face f = if f = g then { s.face g with commanded := s.aspectFor g } else s.face f := by
  rcases s.deriveFace_eq g with ⟨h, hc⟩ | h
  · rw [h, ← hc]
    split
    · rename_i hf
      rw [hf]
    · rfl
  · rw [h]
    exact State.face_setFace _ _ _ _

/-- What a face waits for has come: its request stands, PROCEED may be commanded, and the far face asks for nothing. -/
structure State.Ready (s : State) (f : Face) : Prop where
  request : (s.face f).request.isSome = true
  may : s.mayProceed f = true
  far : (s.face (farFace f)).request = none
  entry : ∀ d, approachOf f = some d → s.approachClosed d = false

theorem State.Ready.aspect (h : s.Ready f) : s.aspectFor f = .proceed := by
  have hgranted : s.proceedGranted f = true := by
    rw [State.proceedGranted, h.request, h.may, Bool.or_true, Bool.and_true]
  unfold State.aspectFor
  split
  · rename_i d hd
    rw [State.approachAspect, h.entry d hd, hgranted]
    rfl
  · rw [hgranted]
    rfl

theorem entryGate_of_approach {d : Direction} (h : approachOf f = some d) : entryGate d = f.gate := by
  obtain ⟨k, x⟩ := f
  revert h
  cases k <;> cases x <;> cases d <;> decide

/-- A face that asks for nothing at a gate reported OPEN is stopped. -/
theorem State.aspect_stopped (hr : (s.face g).request = none) (ho : s.reported (.gate g.gate) .opened = true) :
    isStopAspect (s.aspectFor g) = true := by
  have hno : s.proceedGranted g = false := by rw [State.proceedGranted, hr]; rfl
  unfold State.aspectFor
  split
  · rename_i d hd
    unfold State.approachAspect
    rw [hno, entryGate_of_approach hd, ho]
    split
    · rfl
    · simp [isStopAspect]
  · rw [hno]
    rfl

theorem State.deriveFace_reads (s : State) (g : Face) : (s.deriveFace g).level = s.level ∧
    (s.deriveFace g).traffic = s.traffic ∧ (s.deriveFace g).now = s.now ∧
    (s.deriveFace g).signal.interval = s.signal.interval := by
  obtain ⟨a, q, h⟩ := s.deriveFace_shape g
  rw [h]
  exact ⟨rfl, rfl, rfl, rfl⟩

theorem State.Ready.deriveFace (h : s.Ready f) (g : Face) : (s.deriveFace g).Ready f := by
  obtain ⟨hhalt, hmach⟩ := s.deriveFace_frame g
  obtain ⟨hlevel, htraffic, hnow, hint⟩ := s.deriveFace_reads g
  obtain ⟨hreq, hmay, hfar, hentry⟩ := h
  simp only [State.mayProceed, State.farStopped, Bool.and_eq_true] at hmay
  obtain ⟨⟨⟨⟨hrun, hopen⟩, ⟨hstop, hstopped⟩, hsince⟩, hlamp⟩, hproved⟩ := hmay
  have hface : ∀ x, ((s.deriveFace g).face x).request = (s.face x).request ∧
      ((s.deriveFace g).face x).lamp = (s.face x).lamp ∧ ((s.deriveFace g).face x).stopSince = (s.face x).stopSince ∧
      ((s.deriveFace g).face x).stopped = (s.face x).stopped := fun x => by
    rw [State.deriveFace_face]
    split
    · rename_i hx
      rw [hx]
      exact ⟨rfl, rfl, rfl, rfl⟩
    · exact ⟨rfl, rfl, rfl, rfl⟩
  have hfarstop : isStopAspect ((s.deriveFace g).face (farFace f)).commanded = true := by
    rw [State.deriveFace_commanded]
    split
    · rename_i hx
      exact State.aspect_stopped (hx ▸ hfar) (hx ▸ hopen)
    · exact hstop
  obtain ⟨hfreq, -, hfsince, hfstopped⟩ := hface (farFace f)
  obtain ⟨hfreq', hflamp, -, -⟩ := hface f
  refine ⟨hfreq' ▸ hreq, ?_, hfreq.trans hfar, fun d hd => ?_⟩
  · have hfault : (s.deriveFace g).lampFault f = s.lampFault f := by
      rw [State.lampFault, State.faultOf, hmach]
      rfl
    have hrep : (s.deriveFace g).reported (.gate f.gate) .opened = s.reported (.gate f.gate) .opened := by
      rw [State.reported, State.item, hmach]
      rfl
    rw [State.mayProceed, State.farStopped, hfarstop, hfstopped, hfsince, hnow, hint, hfault, hrep, hflamp, isRunning, hhalt]
    simp only [Bool.and_eq_true]
    exact ⟨⟨⟨⟨hrun, hopen⟩, ⟨trivial, hstopped⟩, hsince⟩, hlamp⟩, hproved⟩
  · have hsame : (s.deriveFace g).approachClosed d = s.approachClosed d := by
      rw [State.approachClosed, State.awaitsEntry, isRunning, hhalt, hlevel, htraffic]
      rfl
    rw [hsame, hentry d hd]

/-- PROCEED is commanded on the face, and its command stands in the queue. -/
def State.proceeds (s : State) (f : Face) : Prop :=
  (s.face f).commanded = .proceed ∧ ∃ e ∈ (s.station f.gate).queue, e.command = .face f.side .proceed

theorem State.deriveFace_queue (s : State) (g f : Face) (h : f ≠ g) {e : QueueEntry} {a : Aspect}
    (he : e ∈ (s.station f.gate).queue) (hc : e.command = .face f.side a) :
    e ∈ ((s.deriveFace g).station f.gate).queue := by
  rcases s.deriveFace_eq g with ⟨heq, -⟩ | heq
  · rwa [heq]
  · rw [heq, State.placeFace, State.station_setQueue]
    split
    · rename_i hk
      refine mem_placeEntry_of_mem (hk ▸ he) ?_
      rw [hc]
      obtain ⟨k, x⟩ := f
      obtain ⟨l, y⟩ := g
      obtain rfl : k = l := hk
      cases x <;> cases y
      · exact absurd rfl h
      · exact nofun
      · exact nofun
      · exact absurd rfl h
    · exact he

theorem State.proceeds.deriveFace (hp : s.proceeds f) (h : s.Ready f) (g : Face) : (s.deriveFace g).proceeds f := by
  obtain ⟨hcom, e, he, hc⟩ := hp
  by_cases hg : f = g
  · subst hg
    have hsame : s.deriveFace f = s := by
      unfold State.deriveFace
      rw [hcom, h.aspect]
      exact if_pos rfl
    rw [hsame]
    exact ⟨hcom, e, he, hc⟩
  · refine ⟨?_, e, s.deriveFace_queue g f hg he hc, hc⟩
    rw [State.deriveFace_commanded, if_neg hg, hcom]

/-- A face that is ready is commanded PROCEED when it is derived. -/
theorem State.Ready.proceeds (h : s.Ready f) (hne : (s.face f).commanded ≠ .proceed) : (s.deriveFace f).proceeds f := by
  have heq : s.deriveFace f = (s.setFace f { s.face f with commanded := .proceed }).placeFace f .proceed := by
    unfold State.deriveFace
    rw [h.aspect]
    exact if_neg hne
  rw [heq]
  refine ⟨congrArg FaceRec.commanded (State.face_setFace_self s f _), freshEntry (.face f.side .proceed), ?_, rfl⟩
  rw [State.placeFace, State.station_setQueue, if_pos rfl]
  exact mem_placeEntry_self _ _

theorem State.Ready.deriveFaces (h : s.Ready f) (hne : (s.face f).commanded ≠ .proceed) : s.deriveFaces.proceeds f := by
  obtain ⟨before, after, hall⟩ := List.append_of_mem (mem_allFaces f)
  rw [State.deriveFaces, hall, List.foldl_append, List.foldl_cons]
  have hbefore := foldl_keeps (I := fun u => u.Ready f ∧ ((u.face f).commanded ≠ .proceed ∨ u.proceeds f))
    (f := fun u g => u.deriveFace g) (fun u g ⟨hr, hu⟩ => by
      refine ⟨hr.deriveFace g, ?_⟩
      by_cases hg : f = g
      · subst hg
        exact .inr (hu.elim hr.proceeds fun hp => hp.deriveFace hr f)
      · refine hu.imp (fun hc => ?_) fun hp => hp.deriveFace hr g
        rwa [State.deriveFace_commanded, if_neg hg]) before s ⟨h, .inl hne⟩
  generalize before.foldl (fun u g => u.deriveFace g) s = u at hbefore
  obtain ⟨hr, hu⟩ := hbefore
  exact (foldl_keeps (I := fun u => u.Ready f ∧ u.proceeds f) (f := fun u g => u.deriveFace g)
    (fun u g ⟨hr, hp⟩ => ⟨hr.deriveFace g, hp.deriveFace hr g⟩) after _
    ⟨hr.deriveFace f, hu.elim hr.proceeds fun hp => hp.deriveFace hr f⟩).2

theorem State.indications_line (s : State) : s.indications.line = s.line := by
  unfold State.indications
  obtain ⟨n1, h1⟩ := s.evaluateQueue_spec .up
  obtain ⟨n2, h2⟩ := (s.evaluateQueue .up).evaluateQueue_spec .down
  obtain ⟨n3, h3⟩ := ((s.evaluateQueue .up).evaluateQueue .down).evaluateHold_spec
  rw [h3, h2, h1]
  rfl

theorem State.proceeds_of_same (hs : t.signal = s.signal) (hl : t.line = s.line) (h : s.proceeds f) : t.proceeds f := by
  simpa only [State.proceeds, State.face, State.station, hs, hl] using h

/-! ### The expiry -/

/-- An event that ends its step from a calm state: the faces and the indications follow. -/
theorem exec_event_settles {c : Instr} {act : State → State} (hc : eventAct c = some act) (hp : s.powered = true)
    (hact : act s = u.finish) (hcalm : u.calm) : ∃ t, exec c s = .next t ∧ u.settlesTo t ∧
      t.signal = u.deriveFaces.signal ∧ t.line = u.deriveFaces.line := by
  have hempty : u.emptied = u := State.emptied_of_calm hcalm rfl
  have hfinish : u.finish = u.deriveFaces.indications := by
    rw [u.finish_quiet (State.calm_quiet _ hcalm), hempty]
  have hset : u.settlesTo u.deriveFaces.indications :=
    State.settlesTo_trans (State.settlesTo_deriveFaces u) (State.settlesTo_indications _)
  have hsignal := u.deriveFaces.indications_frame.2.2
  have hline := u.deriveFaces.indications_line
  rw [hfinish] at hact
  generalize u.deriveFaces.indications = v at hact hset hsignal hline
  refine ⟨_, (exec_event hc s).trans (congrArg _ (if_pos hp)), ?_⟩
  rw [hact]
  refine ⟨State.settlesTo_trans hset (State.settlesTo_commit _ _), ?_⟩
  rw [State.commit_eq]
  exact ⟨hsignal, hline⟩

theorem allStopInterval_elapses {t0 : Nat} (hp : s.powered = true) (hcalm : s.calm)
    (hsince : (s.face (farFace f)).stopSince = some t0) (hfar : (s.face (farFace f)).request = none)
    (hreq : (s.face f).request.isSome = true) (hne : (s.face f).commanded ≠ .proceed)
    (hmay : (s.reach (t0 + s.signal.interval)).mayProceed f = true)
    (hentry : ∀ d, approachOf f = some d → s.approachClosed d = false) :
    ∃ t, exec (.allStopIntervalElapsed (farFace f)) s = .next t ∧
      ({ s with now := max s.now (t0 + s.signal.interval) } : State).settlesTo t ∧ t.proceeds f := by
  have hact : s.intervalElapsed (farFace f) = (s.reach (t0 + s.signal.interval)).finish := by
    have hwaits : s.proceedWaits f = true := by
      rw [State.proceedWaits, hreq, Bool.true_and, bne_iff_ne]
      exact hne
    unfold State.intervalElapsed
    rw [hsince, farFace_farFace]
    exact if_pos hwaits
  have hready : (s.reach (t0 + s.signal.interval)).Ready f := ⟨hreq, hmay, hfar, hentry⟩
  obtain ⟨t, hexec, hset, hsignal, hline⟩ := exec_event_settles (c := .allStopIntervalElapsed (farFace f)) rfl hp hact hcalm
  exact ⟨t, hexec, hset, State.proceeds_of_same hsignal hline (hready.deriveFaces hne)⟩

theorem allStopInterval_idle (h : s.proceedWaits f = false) : exec (.allStopIntervalElapsed (farFace f)) s = .next s := by
  have hact : s.intervalElapsed (farFace f) = s := by
    unfold State.intervalElapsed
    split
    · rw [farFace_farFace, h]
      exact if_neg Bool.false_ne_true
    · rfl
  exact exec_event_idle rfl hact

end

end Sys2Proof.Machine
end

section
/-! A LAMP THAT FAILS: what a report with one lamp from PROVED to FAILED leaves of its face, of the fault table, and of
the batch whose PROCEED the face showed. -/

namespace Sys2Proof.Machine

section

variable {M : Option Nat} {s t u : State} {f g : Face} {x : FaceReport}

/-! ### The stages of a face's report -/

/-- The face as a report gives it. -/
def State.faceRead (s : State) (f : Face) (x : FaceReport) : State :=
  s.setFace f { s.face f with
    reported := some x.aspect, lamp := some x.proved, stopSince := stopSinceAfter s.now (s.face f) x.aspect }

/-- What a report of a face brings once its lamp has been looked at. -/
def State.faceShown (s : State) (f : Face) (x : FaceReport) : State :=
  let s := s.answerStopWait f
  let s := if x.aspect = .proceed then s.emit (.proceedShown f) else s
  if !s.mach.inLocal.get f.gate && x.aspect != (s.face f).commanded && !s.faceQueued f then
    s.placeFace f (s.face f).commanded
  else s

theorem State.reportFace_eq (s : State) (f : Face) (x : FaceReport) : s.reportFace f x =
    (if (s.face f).lamp = some true ∧ x.proved = false then (s.faceRead f x).lampFailed f
      else s.faceRead f x).faceShown f x := rfl

theorem State.reportFace_failed (hl : (s.face f).lamp = some true) (hp : x.proved = false) :
    s.reportFace f x = ((s.faceRead f x).lampFailed f).faceShown f x := by
  rw [State.reportFace_eq, if_pos ⟨hl, hp⟩]

theorem State.reportFace_kept (h : (s.face f).lamp = some x.proved) :
    s.reportFace f x = (s.faceRead f x).faceShown f x := by
  rw [State.reportFace_eq, if_neg]
  rintro ⟨ht, hp⟩
  rw [h, hp] at ht
  exact nomatch ht

theorem State.faceShown_posted (s : State) (f : Face) (x : FaceReport) : (s.faceShown f x).posted = s.posted := by
  have hshown : (if x.aspect = .proceed then (s.answerStopWait f).emit (.proceedShown f)
      else s.answerStopWait f).posted = s.posted := by
    split <;> simp
  unfold State.faceShown
  dsimp only
  generalize (if x.aspect = .proceed then _ else _ : State) = u at hshown ⊢
  split
  · simpa using hshown
  · exact hshown

theorem State.faceShown_follows (s : State) (f : Face) (x : FaceReport) : State.Follows M g s (s.faceShown f x) := by
  have hshown : State.Follows M g s (if x.aspect = .proceed then (s.answerStopWait f).emit (.proceedShown f)
      else s.answerStopWait f) := by
    split
    · exact (s.answerStopWait_follows f).trans (.emit (.proceedShown f) nofun)
    · exact s.answerStopWait_follows f
  unfold State.faceShown
  dsimp only
  generalize (if x.aspect = .proceed then _ else _ : State) = u at hshown ⊢
  split
  · exact hshown.voice rfl
  · exact hshown

/-- Without a stop wait a report of a face hands over at most its PROCEED. -/
theorem State.faceShown_plain (h : (s.face f).stopWait = none) : (s.faceShown f x).signal = s.signal ∧
    (s.faceShown f x).traffic = s.traffic ∧
    ∃ new, (s.faceShown f x).hand.toRun = s.hand.toRun ++ new ∧ (∀ e ∈ new, isShown e) ∧ new.length ≤ 1 := by
  have hwait : s.answerStopWait f = s := by
    unfold State.answerStopWait
    rw [h]
  have hshown : ∃ new, (if x.aspect = .proceed then s.emit (.proceedShown f) else s).hand.toRun = s.hand.toRun ++ new ∧
      (∀ e ∈ new, isShown e) ∧ new.length ≤ 1 := by
    split
    · exact ⟨[.proceedShown f], rfl, fun e he => List.mem_singleton.1 he ▸ .inr ⟨f, rfl⟩, Nat.le_refl 1⟩
    · exact ⟨[], (List.append_nil _).symm, nofun, Nat.zero_le 1⟩
  have hsame : (if x.aspect = .proceed then s.emit (.proceedShown f) else s).signal = s.signal ∧
      (if x.aspect = .proceed then s.emit (.proceedShown f) else s).traffic = s.traffic := by
    split <;> exact ⟨rfl, rfl⟩
  unfold State.faceShown
  dsimp only
  rw [hwait]
  generalize (if x.aspect = .proceed then s.emit (.proceedShown f) else s) = u at hshown hsame ⊢
  split
  · exact ⟨hsame.1, hsame.2, hshown⟩
  · exact ⟨hsame.1, hsame.2, hshown⟩

/-! ### A face whose lamp the report repeats -/

theorem State.faceRead_follows (h : (s.face f).lamp = some x.proved) : State.Follows M g s (s.faceRead f x) :=
  s.setFace_follows f (r := { s.face f with
    reported := some x.aspect, lamp := some x.proved, stopSince := stopSinceAfter s.now (s.face f) x.aspect }) rfl h.symm

theorem State.reportFace_follows (h : (s.face f).lamp = some x.proved) : State.Follows M g s (s.reportFace f x) := by
  rw [State.reportFace_kept h]
  exact (State.faceRead_follows h).trans (State.faceShown_follows _ f x)

/-- Another face's repeated report, without a stop wait. -/
theorem State.reportFace_plain (h : (s.face f).lamp = some x.proved) (hw : (s.face f).stopWait = none) (hne : g ≠ f) :
    (s.reportFace f x).face g = s.face g ∧ (s.reportFace f x).traffic = s.traffic ∧
      ∃ new, (s.reportFace f x).hand.toRun = s.hand.toRun ++ new ∧ (∀ e ∈ new, isShown e) ∧ new.length ≤ 1 := by
  rw [State.reportFace_kept h]
  have hread : ((s.faceRead f x).face f).stopWait = none := by
    rw [State.faceRead, State.face_setFace_self]
    exact hw
  obtain ⟨hsignal, htraffic, hevents⟩ := State.faceShown_plain (x := x) hread
  refine ⟨?_, htraffic, hevents⟩
  rw [State.face, hsignal]
  exact (State.face_setFace s f g _).trans (if_neg hne)

/-! ### The record of a failed lamp -/

/-- A fault without a record and with room is a record at the end of the table, of a number not there. -/
theorem State.raiseFault_recorded {k : FaultKind} {src : FaultSource} (hnone : s.faultOf k src = none)
    (hroom : s.mach.faults.length < 16) (l n : Bool) (i : Item) (b : Option (Nat × Step)) :
    ∃ ns, s.raiseFault k src l n i b = s.withFault (s.freshFault k src l (s.capture i b)) ns := by
  have hfree : s.hasFaultRoom = true := decide_eq_true hroom
  unfold State.raiseFault
  rw [hnone]
  dsimp only
  rw [if_pos hfree]
  exact s.newFault_eq k src l _

theorem State.freshFault_new (hroom : s.mach.faults.length < 16) (k : FaultKind) (src : FaultSource) (l : Bool)
    (c : Capture) : ∀ y ∈ s.mach.faults, y.number ≠ (s.freshFault k src l c).number := by
  intro y hy heq
  have hmem : y.number ∈ s.mach.faults.map (·.number) := List.mem_map_of_mem hy
  rw [heq] at hmem
  refine freeNumber_not_mem (limit := 255) (used := s.mach.faults.map (·.number)) (fuel := 17)
    (n := s.mach.nextFault) ?_ (by decide) hmem
  rw [List.length_map]
  omega

theorem State.freshFault_nodup (hroom : s.mach.faults.length < 16) (hn : (s.mach.faults.map (·.number)).Nodup)
    (k : FaultKind) (src : FaultSource) (l : Bool) (c : Capture) :
    ((s.mach.faults ++ [s.freshFault k src l c]).map (·.number)).Nodup := by
  rw [List.map_append, List.nodup_append]
  refine ⟨hn, List.nodup_singleton _, fun a ha b hb => ?_⟩
  obtain ⟨y, hy, rfl⟩ := List.mem_map.1 ha
  rw [List.mem_singleton.1 hb]
  exact s.freshFault_new hroom k src l c y hy

/-- A face whose request is gone is not derived to PROCEED. -/
theorem State.aspect_of_noRequest (h : (s.face f).request = none) : s.aspectFor f ≠ .proceed := by
  intro ha
  have hgranted := s.proceedGranted_of_aspect ha
  rw [State.proceedGranted, h] at hgranted
  exact nomatch hgranted

/-- What a failed lamp leaves: its record, its face muted, and the suspension of the batch whose PROCEED the face
showed. -/
theorem State.lampFailed_leaves (hnone : s.faultOf .lampFail (.face f) = none) (hroom : s.mach.faults.length < 16)
    (hlamp : (s.face f).lamp = some false) :
    (s.lampFailed f).mach.faults = s.mach.faults ++ [s.freshFault .lampFail (.face f) true
      (s.capture (.gate f.gate) (s.stepAtGate f.gate))] ∧
    (s.lampFailed f).muted f ∧ ((s.lampFailed f).face f).lamp = some false ∧
    (s.lampFailed f).traffic.batches = s.traffic.batches ∧
    ∀ n st, (s.face f).commanded = .proceed → (s.face f).request = some (n, st) →
      (s.lampFailed f).hand.toRun = s.hand.toRun ++ [.suspend n .fault] := by
  obtain ⟨ns, hraise⟩ := State.raiseFault_recorded hnone hroom true true (.gate f.gate) (s.stepAtGate f.gate)
  unfold State.lampFailed
  rw [hraise]
  generalize hrec : s.freshFault .lampFail (.face f) true (s.capture (.gate f.gate) (s.stepAtGate f.gate)) = rec
  have hface : ∀ g, (s.withFault rec ns).face g = s.face g := fun _ => rfl
  have hfaults : (s.withFault rec ns).mach.faults = s.mach.faults ++ [rec] := rfl
  have hbatches : (s.withFault rec ns).traffic.batches = s.traffic.batches := rfl
  have hrun : (s.withFault rec ns).hand.toRun = s.hand.toRun := rfl
  generalize s.withFault rec ns = t at hface hfaults hbatches hrun ⊢
  dsimp only
  split
  · have hduty := (State.deriveFace_duty (t.setFace f { t.face f with request := none }) f).trans
      (t.setFace_duty f { t.face f with request := none })
    have hderived : ((t.setFace f { t.face f with request := none }).deriveFace f).face f = { t.face f with
        request := none, commanded := (t.setFace f { t.face f with request := none }).aspectFor f } := by
      rw [State.deriveFace_face, if_pos rfl, State.face_setFace_self]
    have haspect : (t.setFace f { t.face f with request := none }).aspectFor f ≠ .proceed :=
      State.aspect_of_noRequest (by rw [State.face_setFace_self])
    generalize (t.setFace f { t.face f with request := none }).aspectFor f = a at hderived haspect
    generalize (t.setFace f { t.face f with request := none }).deriveFace f = v at hduty hderived ⊢
    have hmuted : v.muted f ∧ (v.face f).lamp = some false := by
      rw [State.muted, hderived, hface, hlamp]
      exact ⟨fun _ => ⟨haspect, rfl⟩, rfl⟩
    have htable : v.mach.faults = s.mach.faults ++ [rec] := (congrArg Duty.faults hduty).trans hfaults
    have hkept : v.traffic.batches = s.traffic.batches := (congrArg Duty.batches hduty).trans hbatches
    have hevents : v.hand.toRun = s.hand.toRun := (congrArg Duty.events hduty).trans hrun
    split
    · rename_i n st hreq
      refine ⟨htable, hmuted.1, hmuted.2, hkept, fun n' st' _ hreq' => ?_⟩
      rw [hreq] at hreq'
      obtain ⟨rfl, -⟩ := Prod.mk.inj (Option.some.inj hreq')
      exact congrArg (· ++ [RunEvent.suspend n .fault]) hevents
    · rename_i hreq
      refine ⟨htable, hmuted.1, hmuted.2, hkept, fun n' st' _ hreq' => ?_⟩
      rw [hreq] at hreq'
      exact nomatch hreq'
  · rename_i hnot
    refine ⟨hfaults, ?_, (congrArg FaceRec.lamp (hface f)).trans hlamp, hbatches, fun _ _ hc => absurd hc hnot⟩
    rw [State.muted, hface]
    exact fun _ => ⟨hnot, hlamp⟩

end

end Sys2Proof.Machine
end

section
/-! ONE LAMP THAT FAILS (O33): the alarm frame whose only change it is, and the statement's other parts. -/

namespace Sys2Proof.Machine

section

variable {M : Option Nat} {s t u : State} {f g : Face} {x : FaceReport} {k : Station} {r : StationReport}

/-! ### The face -/

theorem State.lampFailed_face (s : State) (hne : g ≠ f) : (s.lampFailed f).face g = s.face g := by
  have hraise : (s.raiseFault .lampFail (.face f) true true (.gate f.gate) (s.stepAtGate f.gate)).face g = s.face g :=
    congrArg (fun v : Signals × HaltState × List Batch × List RunEvent => v.1.faces.get g) (s.raiseFault_voice _ _ _ _ _ _)
  unfold State.lampFailed
  generalize s.raiseFault .lampFail (.face f) true true (.gate f.gate) (s.stepAtGate f.gate) = t at hraise ⊢
  have hderived : ((t.setFace f { t.face f with request := none }).deriveFace f).face g = s.face g := by
    rw [State.deriveFace_face, if_neg hne, State.face_setFace, if_neg hne, hraise]
  dsimp only
  split
  · split
    · exact hderived
    · exact hderived
  · exact hraise

/-- The record of a lamp that a report shows FAILED. -/
def State.lampRecord (s : State) (f : Face) : FaultRec :=
  s.freshFault .lampFail (.face f) true (s.capture (.gate f.gate) (s.stepAtGate f.gate))

/-- A face's report that shows its lamp FAILED. -/
structure State.LampFails (s : State) (f : Face) (t : State) : Prop where
  faults : t.mach.faults = s.mach.faults ++ [s.lampRecord f]
  rate : t.line.rate = s.line.rate
  muted : t.muted f
  lamp : (t.face f).lamp = some false
  others : ∀ g, g ≠ f → (t.face g).lamp = (s.face g).lamp
  suspends : ∀ n st b, (s.face f).commanded = .proceed → (s.face f).request = some (n, st) → s.batch? n = some b →
    (∃ b', t.batch? n = some b') ∧
      ∃ post, t.hand.toRun = s.hand.toRun ++ .suspend n .fault :: post ∧ ∀ e ∈ post, ∀ i, e ≠ .joinedShut i

theorem State.reportFace_fails (hl : (s.face f).lamp = some true) (hp : x.proved = false)
    (hnone : s.faultOf .lampFail (.face f) = none) (hroom : s.mach.faults.length < 16) :
    s.LampFails f (s.reportFace f x) := by
  have hread : ((s.faceRead f x).face f) = { s.face f with
      reported := some x.aspect, lamp := some x.proved, stopSince := stopSinceAfter s.now (s.face f) x.aspect } :=
    State.face_setFace_self s f _
  obtain ⟨hfaults, hmuted, hlamp, hbatches, hrun⟩ := State.lampFailed_leaves (s := s.faceRead f x) (f := f) hnone hroom
    (by rw [hread, hp])
  have hrate : (s.reportFace f x).line.rate = s.line.rate := congrArg Told.rate (s.reportFace_told f x)
  rw [hread] at hrun
  rw [State.reportFace_failed hl hp] at hrate ⊢
  have hother : ∀ g, g ≠ f → (((s.faceRead f x).lampFailed f).face g).lamp = (s.face g).lamp := fun g hg => by
    rw [State.lampFailed_face _ hg]
    exact congrArg FaceRec.lamp ((State.face_setFace s f g _).trans (if_neg hg))
  have hrecord : (s.faceRead f x).freshFault .lampFail (.face f) true
      ((s.faceRead f x).capture (.gate f.gate) ((s.faceRead f x).stepAtGate f.gate)) = s.lampRecord f := rfl
  rw [hrecord] at hfaults
  have htable : (s.faceRead f x).mach.faults = s.mach.faults := rfl
  have hkept : (s.faceRead f x).traffic.batches = s.traffic.batches := rfl
  have hevents : (s.faceRead f x).hand.toRun = s.hand.toRun := rfl
  rw [htable] at hfaults
  rw [hkept] at hbatches
  rw [hevents] at hrun
  generalize (s.faceRead f x).lampFailed f = v at hfaults hmuted hlamp hbatches hrun hother hrate ⊢
  have hposted := v.faceShown_posted f x
  refine ⟨(congrArg Posted.faults hposted).trans hfaults, hrate,
    (v.faceShown_follows (M := none) (g := f) f x).muted hmuted, (State.lamp_of_posted hposted f).trans hlamp,
    fun g hg => (State.lamp_of_posted hposted g).trans (hother g hg), fun n st b hc hreq hb => ⟨?_, ?_⟩⟩
  · obtain ⟨b', hb', -⟩ := (v.faceShown_follows (M := some n) (g := f) f x).batch n rfl b
      ((State.batch?_of_batches hbatches n).trans hb)
    exact ⟨b', hb'⟩
  · obtain ⟨post, hpost, hplain⟩ := (v.faceShown_follows (M := none) (g := f) f x).events
    refine ⟨post, ?_, hplain⟩
    rw [hpost, hrun n st hc hreq, List.append_assoc]
    rfl

/-! ### The machinery of the report -/

/-- No movement of the station stands at its end. -/
def State.noneEnds (s : State) (k : Station) : Prop :=
  ∀ i m, itemStation i = k → (s.item i).movement = some m → (s.item i).position ≠ some (endPosition m.target)

/-- A position already held, of an item whose movement has not come to its end, is no news to the signals, the table or
the queue of hand-overs, but for a gate's report. -/
theorem State.reportMovement_repeats {i : Item} {p : Position} (h : (s.item i).position = some p) :
    (s.reportMovement i p).signal = s.signal ∧ (s.reportMovement i p).traffic = s.traffic ∧
      (s.noneEnds (itemStation i) → (s.reportMovement i p).hand.toRun = s.hand.toRun ∧
        (s.reportMovement i p).noneEnds (itemStation i)) := by
  unfold State.reportMovement
  split
  · exact ⟨rfl, rfl, fun hn => ⟨rfl, hn⟩⟩
  · rename_i m hm
    split
    · split
      · rename_i hend
        have hcomplete : ∀ v : State, (v.handComplete i m).signal = v.signal ∧ (v.handComplete i m).traffic = v.traffic := by
          intro v
          unfold State.handComplete
          split <;> exact ⟨rfl, rfl⟩
        exact ⟨(hcomplete _).1, (hcomplete _).2, fun hn => absurd (h.trans (congrArg some hend)) (hn i m rfl hm)⟩
      · split
        · refine ⟨rfl, rfl, fun hn => ⟨rfl, fun j m' hj hm' => ?_⟩⟩
          rw [State.setMovement, State.item_setItem] at hm' ⊢
          split at hm'
          · rename_i hji
            obtain rfl := Option.some.inj hm'
            rw [if_pos hji]
            exact hn i m rfl hm
          · rename_i hji
            rw [if_neg hji]
            exact hn j m' hj hm'
        · exact ⟨rfl, rfl, fun hn => ⟨rfl, hn⟩⟩
    · exact ⟨rfl, rfl, fun hn => ⟨rfl, hn⟩⟩

theorem State.reportPosition_plain {i : Item} {p : Position} (h : (s.item i).position = some p) :
    (s.reportPosition i p).signal = s.signal ∧ (s.reportPosition i p).traffic = s.traffic ∧
      (s.noneEnds (itemStation i) →
        (s.reportPosition i p).hand.toRun = s.hand.toRun ++ (if isGate i then [.gateReport] else []) ∧
        (s.reportPosition i p).noneEnds (itemStation i)) := by
  obtain ⟨hsignal, htraffic, hquiet⟩ := State.reportMovement_repeats h
  rw [State.reportPosition_repeats h]
  split
  · exact ⟨hsignal, htraffic, fun hn => ⟨congrArg (· ++ [RunEvent.gateReport]) (hquiet hn).1, (hquiet hn).2⟩⟩
  · exact ⟨hsignal, htraffic, fun hn => ⟨((hquiet hn).1).trans (List.append_nil _).symm, (hquiet hn).2⟩⟩

theorem State.reportPositions_plain (h : s.itemsRepeat k r) : (s.reportPositions k r).signal = s.signal ∧
    (s.reportPositions k r).traffic = s.traffic ∧
      (s.noneEnds k → (s.reportPositions k r).hand.toRun = s.hand.toRun ++ [.gateReport]) := by
  obtain ⟨-, hgate, hsluice, hwash⟩ := h
  obtain ⟨s1, t1, q1⟩ := State.reportPosition_plain hgate
  have p1 := (State.reportPosition_posted hgate).1
  obtain ⟨s2, t2, q2⟩ := State.reportPosition_plain ((State.position_of_posted p1 _).trans hsluice)
  have p2 := (State.reportPosition_posted ((State.position_of_posted p1 _).trans hsluice)).1
  have hquiet : s.noneEnds k →
      ((s.reportPosition (.gate k) r.gate).reportPosition (.sluice k) r.sluice).hand.toRun = s.hand.toRun ++ [.gateReport] ∧
        ((s.reportPosition (.gate k) r.gate).reportPosition (.sluice k) r.sluice).noneEnds k := fun hn => by
    obtain ⟨e1, n1⟩ := q1 hn
    obtain ⟨e2, n2⟩ := q2 n1
    refine ⟨?_, n2⟩
    rw [e2, e1]
    exact List.append_nil _
  unfold State.reportPositions
  dsimp only
  split
  · rename_i w p hw hp
    obtain ⟨s3, t3, q3⟩ := State.reportPosition_plain
      ((State.position_of_posted (p2.trans p1) (.byWash w)).trans ((hwash w hw).trans hp))
    have hstation : itemStation (.byWash w) = k := by
      revert hw
      cases k <;> cases w <;> decide
    refine ⟨s3.trans (s2.trans s1), t3.trans (t2.trans t1), fun hn => ?_⟩
    obtain ⟨e, n⟩ := hquiet hn
    rw [(q3 (hstation ▸ n)).1, e]
    exact List.append_nil _
  · exact ⟨s2.trans s1, t2.trans t1, fun hn => (hquiet hn).1⟩

theorem State.applyInputs_plain (h : ∀ j, s.inputRepeats k r j) : (s.applyInputs k r.inputs).signal = s.signal ∧
    (s.applyInputs k r.inputs).traffic = s.traffic ∧ (s.applyInputs k r.inputs).hand.toRun = s.hand.toRun := by
  have hover : (s.takeOverload k (reportedInput r.inputs .overload)).posted = s.posted :=
    State.takeOverload_posted (h .overload)
  have hsame : (s.takeOverload k (reportedInput r.inputs .overload)).signal = s.signal ∧
      (s.takeOverload k (reportedInput r.inputs .overload)).traffic = s.traffic ∧
      (s.takeOverload k (reportedInput r.inputs .overload)).hand.toRun = s.hand.toRun := by
    unfold State.takeOverload
    split
    · exact ⟨rfl, rfl, rfl⟩
    · rw [State.applyInput_repeats (h .overload)]
      exact ⟨rfl, rfl, rfl⟩
  rw [State.applyInputs_eq, State.applyInput_repeats (h .obstruction),
    State.applyInput_repeats ((State.held_of_posted hover k .ice).trans (h .ice)),
    State.applyInput_repeats ((State.held_of_posted hover k .localStop).trans (h .localStop))]
  exact hsame

/-- A report's machinery, all of it repeated. -/
theorem State.reportMachinery_plain (hitems : s.itemsRepeat k r) (hinputs : ∀ i, s.inputRepeats k r i) :
    (s.reportMachinery k r).posted = s.posted ∧ (s.reportMachinery k r).signal = s.signal ∧
      (s.reportMachinery k r).traffic = s.traffic ∧
      (s.noneEnds k → (s.reportMachinery k r).hand.toRun = s.hand.toRun ++ [.gateReport]) := by
  have hposted := (State.itemsRepeat_posted hitems).1
  have hcontrol : s.reportControl k r.inLocal = s := State.reportControl_repeats hitems.1
  rw [hcontrol] at hposted
  obtain ⟨hs, ht, hq⟩ := State.reportPositions_plain hitems
  have hrepeats : ∀ i, (s.reportPositions k r).inputRepeats k r i := fun i =>
    (State.held_of_posted hposted k i).trans (hinputs i)
  obtain ⟨as, at', aq⟩ := State.applyInputs_plain hrepeats
  rw [State.reportMachinery, hcontrol]
  exact ⟨(State.applyInputs_posted hrepeats).trans hposted, as.trans hs, at'.trans ht, fun hn => aq.trans (hq hn)⟩

/-! ### The whole report -/

/-- The report's other face comes before or after the one whose lamp fails. -/
theorem State.reportFaces_lamp (x : Side) (hothers : ∀ y, y ≠ x → s.lampRepeats k r y)
    (hl : (s.face ⟨k, x⟩).lamp = some true) (hp : (reportSide r x).proved = false)
    (hnone : s.faultOf .lampFail (.face ⟨k, x⟩) = none) (hroom : s.mach.faults.length < 16) :
    ∃ u : State, u.posted = s.posted ∧
      (∀ M, State.Follows M ⟨k, x⟩ (u.reportFace ⟨k, x⟩ (reportSide r x)) (s.reportFaces k r)) ∧
      (s.reportFaces k r).posted = (u.reportFace ⟨k, x⟩ (reportSide r x)).posted ∧
      ((∀ y, y ≠ x → (s.face ⟨k, y⟩).stopWait = none) → u.face ⟨k, x⟩ = s.face ⟨k, x⟩ ∧ u.traffic = s.traffic ∧
        ∃ new, u.hand.toRun = s.hand.toRun ++ new ∧ (∀ e ∈ new, isShown e) ∧ new.length ≤ 1) := by
  cases x with
  | upper =>
    have hfails := State.reportFace_fails hl hp hnone hroom
    have hlamp : ((s.reportFace ⟨k, .upper⟩ r.upper).face ⟨k, .lower⟩).lamp = some r.lower.proved :=
      (hfails.others ⟨k, .lower⟩ (fun h => nomatch congrArg Face.side h)).trans (hothers .lower nofun)
    exact ⟨s, rfl, fun _ => State.reportFace_follows hlamp, State.reportFace_posted hlamp,
      fun _ => ⟨rfl, rfl, [], (List.append_nil _).symm, nofun, Nat.zero_le 1⟩⟩
  | lower =>
    have hlamp : (s.face ⟨k, .upper⟩).lamp = some r.upper.proved := hothers .upper nofun
    exact ⟨s.reportFace ⟨k, .upper⟩ r.upper, State.reportFace_posted hlamp, fun _ => .refl _, rfl,
      fun hw => State.reportFace_plain hlamp (hw .upper nofun) fun h => nomatch congrArg Face.side h⟩

/-- The report of an alarm frame, taken up to its failed lamp and from there on. -/
theorem State.takeAlarm_lamp {x : Side} (hitems : s.itemsRepeat k r) (hinputs : ∀ i, s.inputRepeats k r i)
    (hothers : ∀ y, y ≠ x → s.lampRepeats k r y) (hl : (s.face ⟨k, x⟩).lamp = some true)
    (hproved : (reportSide r x).proved = false) (hnone : s.faultOf .lampFail (.face ⟨k, x⟩) = none)
    (hroom : s.mach.faults.length < 16) :
    ∃ u w : State, u.posted = s.posted ∧ u.LampFails ⟨k, x⟩ w ∧
      (∀ M, State.Follows M ⟨k, x⟩ w (s.markAlarm.takeAlarm k r)) ∧ (s.markAlarm.takeAlarm k r).posted = w.posted ∧
      (¬s.reportEnds k x → u.face ⟨k, x⟩ = s.face ⟨k, x⟩ ∧ u.traffic = s.traffic ∧
        ∃ new, u.hand.toRun = s.hand.toRun ++ new ∧ (∀ e ∈ new, isShown e) ∧ new.length ≤ 2) := by
  obtain ⟨hposted, hsignal, htraffic, hrun⟩ := State.reportMachinery_plain (s := s.markAlarm) hitems hinputs
  rw [State.takeAlarm]
  generalize s.markAlarm.reportMachinery k r = v at hposted hsignal htraffic hrun
  have hface : ∀ g, v.face g = s.face g := fun g => congrArg (fun c : Signals => c.faces.get g) hsignal
  have hfaults : v.mach.faults = s.mach.faults := congrArg Posted.faults hposted
  have hnone' : v.faultOf .lampFail (.face ⟨k, x⟩) = none := by
    rw [State.faultOf, hfaults]
    exact hnone
  obtain ⟨u, hu, hfollows, hsame, hplain⟩ := State.reportFaces_lamp x (s := v) (r := r)
    (fun y hy => (State.lamp_of_posted hposted ⟨k, y⟩).trans (hothers y hy)) ((congrArg FaceRec.lamp (hface _)).trans hl)
    hproved hnone' (hfaults ▸ hroom)
  have hufaults : u.mach.faults = v.mach.faults := congrArg Posted.faults hu
  refine ⟨u, _, hu.trans hposted, State.reportFace_fails ((State.lamp_of_posted (hu.trans hposted) _).trans hl) hproved
    (by rw [State.faultOf, hufaults]; exact hnone') (by rw [hufaults, hfaults]; exact hroom), hfollows, hsame, fun hno => ?_⟩
  have hends : s.noneEnds k := fun i m hi hm hpos => hno (.inl ⟨i, m, hi, hm, hpos⟩)
  have hwaits : ∀ y, y ≠ x → (v.face ⟨k, y⟩).stopWait = none := fun y hy => by
    rw [hface]
    by_contra hw
    exact hno (.inr ⟨y, hy, hw⟩)
  obtain ⟨hf, htr, new, hnew, hshown, hlen⟩ := hplain hwaits
  refine ⟨hf.trans (hface _), htr.trans htraffic, .gateReport :: new, ?_, fun e he => ?_, Nat.succ_le_succ hlen⟩
  · rw [hnew, hrun hends, List.append_assoc]
    rfl
  · rcases List.mem_cons.1 he with rfl | he
    · exact .inl rfl
    · exact hshown e he

/-- The batch whose PROCEED the face showed is suspended with FAULT at the end of the step. -/
theorem State.finish_lamp {y w : State} (hfails : u.LampFails f w) (hfollows : ∀ M, State.Follows M f w y)
    {new : List RunEvent} (hnew : u.hand.toRun = new) (hshown : ∀ e ∈ new, isShown e) (hlen : new.length ≤ 2) {m : Nat}
    {st : Step} {b : Batch} (hc : (u.face f).commanded = .proceed) (hreq : (u.face f).request = some (m, st))
    (hb : u.batch? m = some b) : ∃ z, y.finish.batch? m = some z ∧ Reason.fault ∈ z.reasons := by
  obtain ⟨⟨b', hb'⟩, post, hpost, hplain⟩ := hfails.suspends m st b hc hreq hb
  obtain ⟨more, hmore, hplain'⟩ := (hfollows none).events
  obtain ⟨z, hz, -⟩ := (hfollows (some m)).batch m rfl b' hb'
  refine State.finish_suspends (pre := new) (post := post ++ more) hshown ?_ (fun e he => ?_) hz
    (Nat.lt_of_le_of_lt hlen (by decide))
  · rw [hmore, hpost, hnew, List.append_assoc, List.cons_append]
  · exact (List.mem_append.1 he).elim (hplain e) (hplain' e)

/-- An alarm frame whose only change is a lamp from PROVED to FAILED. -/
theorem exec_lampFails {x : Side} (hp : s.powered = true) (hcalm : s.calm) (ht : s.alarmTaken k r = true)
    (hitems : s.itemsRepeat k r) (hinputs : ∀ i, s.inputRepeats k r i) (hothers : ∀ y, y ≠ x → s.lampRepeats k r y)
    (hl : (s.face ⟨k, x⟩).lamp = some true) (hproved : (reportSide r x).proved = false)
    (hnone : s.faultOf .lampFail (.face ⟨k, x⟩) = none) (hroom : s.mach.faults.length < 16)
    (hnodup : (s.mach.faults.map (·.number)).Nodup) :
    ∃ t n, exec (.alarmFrame k r) s = .next t ∧ (t.face ⟨k, x⟩).commanded ≠ .proceed ∧
      (∀ y ∈ s.mach.faults, y.number ≠ n) ∧
      (t.line.rate = s.line.rate → (t.face ⟨k, x⟩).lamp = some false ∧
        ∃ c, c.time = s.toll.clock ∧ c.position = some r.gate ∧ t.stationFaults = s.stationFaults ++
        [{ number := n, kind := .lampFail, source := .face ⟨k, x⟩, latched := true, releasing := none
           repeats := 0, escalated := false, capture := c }]) ∧
      ∀ m st b, ¬s.reportEnds k x → (s.face ⟨k, x⟩).commanded = .proceed →
        (s.face ⟨k, x⟩).request = some (m, st) → s.batch? m = some b → ∃ y, t.batch? m = some y ∧ Reason.fault ∈ y.reasons := by
  obtain ⟨u, w, hu, hfails, hfollows, hsame, hplain⟩ := State.takeAlarm_lamp hitems hinputs hothers hl hproved hnone hroom
  obtain ⟨t, hexec, hflight, hstands, -⟩ := exec_alarm_posted hp ht hsame
  generalize s.markAlarm.takeAlarm k r = y at hfollows hsame hflight
  have hfaults : u.mach.faults = s.mach.faults := congrArg Posted.faults hu
  have hroom' : u.mach.faults.length < 16 := hfaults ▸ hroom
  have hmuted : (t.face ⟨k, x⟩).commanded ≠ .proceed := by
    rw [State.face, hflight.signal]
    exact State.finish_muted ((hfollows none).muted hfails.muted)
  refine ⟨t, (u.lampRecord ⟨k, x⟩).number, hexec, hmuted, hfaults ▸ u.freshFault_new hroom' _ _ _ _, fun hrate => ?_,
    fun m st b hno hc hreq hb => ?_⟩
  · obtain ⟨-, hlamps, htable⟩ := hstands (hrate.trans (hfails.rate.trans (congrArg Posted.rate hu)).symm)
    refine ⟨(hlamps _).trans hfails.lamp, (u.lampRecord ⟨k, x⟩).capture,
      congrArg Fixed.clock (congrArg Posted.fixed hu), (State.position_of_posted hu _).trans hitems.2.1, ?_⟩
    rw [hfails.faults] at htable
    rw [htable (u.freshFault_nodup hroom' (hfaults ▸ hnodup) _ _ _ _), State.stationFaults, hfails.faults,
      List.filter_append, hfaults]
    rfl
  · obtain ⟨hface, htraffic, new, hnew, hshown, hlen⟩ := hplain hno
    have hempty : s.hand.toRun = [] := by rw [hcalm.1]
    rw [hempty, List.nil_append] at hnew
    obtain ⟨z, hz, hr⟩ := State.finish_lamp hfails hfollows hnew hshown hlen (hface ▸ hc) (hface ▸ hreq)
      ((State.batch?_of_batches (congrArg Traffic.batches htraffic) m).trans hb)
    exact ⟨z, (State.batch?_of_batches (congrArg Traffic.batches hflight.traffic) m).trans hz, hr⟩

end

/-- Settles O33: the interval and the PROCEED that waits for it by the derivation of the faces, the failed lamp by what
every hand-over leaves of a muted face and of a suspension that waits (`State.Follows`). -/
theorem proceedFollowsTheAllStopInterval : Obligations.ProceedFollowsTheAllStopInterval := by
  unfold Obligations.ProceedFollowsTheAllStopInterval
  refine ⟨fun tag v s ht => setSignalInterval_taken ht, fun f t0 s hp hcalm _ hsince hfar hreq hne hmay hentry => ?_,
    fun f s h => allStopInterval_idle h, fun k x r s hp hcalm ht hitems hinputs _ hothers hl hproved hnone hroom hnodup =>
      exec_lampFails hp hcalm ht hitems hinputs hothers hl hproved hnone hroom hnodup⟩
  obtain ⟨t, hexec, hset, hproceed, hentered⟩ := allStopInterval_elapses hp hcalm hsince hfar hreq hne hmay hentry
  exact ⟨t, hexec, hset, hproceed, hentered⟩

end Sys2Proof.Machine
end
